-- ==== Sys2Proof/Word.lean ====
section
/-! DEFINITION. The words, numbers and tables of the YC4 model: bytes of a frame, 32-bit wrapping
counts, the numbers that name ports, beds, stacks and the other slots, and fixed-size tables. -/

namespace Sys2Proof

/-- A byte on a station port (section 4.6). -/
abbrev Byte := BitVec 8

/-- A 32-bit count or stamp that wraps modulo 2^32 (R2, R37, R140, R186). -/
abbrev Word32 := BitVec 32

/-- A station port P0 to P3 (R173). -/
abbrev PortId := Fin 4

/-- A bed slot 0 to 15 (section 1.2). -/
abbrev BedId := Fin 16

/-- A stack slot 0 to 95 (section 1.3). -/
abbrev StackId := Fin 96

/-- A crane slot 0 to 3 (section 1.4). -/
abbrev CraneId := Fin 4

/-- A product class slot 0 to 31 (section 1.5). -/
abbrev ClassId := Fin 32

/-- A probe channel 0 to 63 (R19). -/
abbrev Channel := Fin 64

/-- A move slot 0 to 63 (R138). -/
abbrev SlotId := Fin 64

/-- The number `k` as one of `n` slots, or nothing when it is out of range. -/
def slot? (n k : Nat) : Option (Fin n) :=
  if h : k < n then some ⟨k, h⟩ else none

/-- The table whose entry `i` is `f i` of the entry `i` of `v`. -/
def onEach {α β : Type} {n : Nat} (f : Fin n → α → β) (v : Vector α n) : Vector β n :=
  Vector.ofFn fun i => f i v[i]

/-- The sum of a table of numbers. -/
def total {n : Nat} (v : Vector Nat n) : Nat :=
  v.toList.sum

end Sys2Proof
end

