-- ==== Sys2Proof/Config.lean ====
section
/-! DEFINITION. What the specification leaves open and the machine goes on with: free values, as
constants without a body. -/

namespace Sys2Proof

/-- A free value (notes/assumptions/4.md): how far the scan timer's countdown has run since its minutes were
last known, as the n-th read of it finds it. The specification gives the scan timer no relation to any other
event (R24), so the minutes remaining that READ_SCAN reports (R38) are only known to be at least 1 and at most
those last known. DESIGN CHOICE: an uninterpreted constant; nothing may be proved of its value. -/
opaque Config.countdownElapsed : Nat → Nat

end Sys2Proof
end

