-- ==== Sys2Proof/Syntax.lean ====
section
/-! DEFINITION. The commands the YC4 takes: one constructor of Instr per row of spec/opcode_table.json.
A request's operands are the fields of its body as the wire carries them (section 10.6), before any
range check, with the port it arrives on and its tag; an event's operands are what the event brings. -/

namespace Sys2Proof

/-- The role of a station port, selected by its two straps (section 3, R173). -/
inductive Role where
  | office | bedside | crane | off
  deriving DecidableEq, Repr

/-- A profile of eight figures (R59); also the 13-byte profile of a request body. Temperatures of a
profile are positive tenths of a degree, so each figure is a natural number. -/
structure Profile where
  preset : Nat
  rampRate : Nat
  holdTemp : Nat
  coolRate : Nat
  bandLow : Nat
  bandHigh : Nat
  step : Nat
  ceiling : Nat
  deriving DecidableEq, Repr

/-- A piece entry of a list: id, class and mass (section 10.6). -/
structure PieceEntry where
  id : Nat
  cls : Nat
  mass : Nat
  deriving DecidableEq, Repr

/-- The commands: the part's inputs and timers first, then the requests of the catalogue. -/
inductive Instr where
  /-- POWER_ON (R16): the roles sampled from the straps of P0 to P3 and the level of the SHED line. -/
  | powerOn (role0 role1 role2 role3 : Role) (shed : Bool)
  /-- RESTART (R18): the assertion of the RESTART input. -/
  | restart
  /-- SHED_ASSERTION (R81). -/
  | shedAssertion
  /-- SHED_DEASSERTION (R81). -/
  | shedDeassertion
  /-- MINUTE_EXPIRY (R1, R152, R153): the minute timer expires. -/
  | minuteExpiry
  /-- GRANT_TIMEOUT (R152): the judging of every GRANTED move at a minute expiry. -/
  | grantTimeout
  /-- LIFT_OVERDUE (R153): the judging of every LIFTED move at a minute expiry. -/
  | liftOverdue
  /-- SCAN_TIMER_EXPIRY (R24). -/
  | scanTimerExpiry
  /-- CONVERSION_COMPLETION (R28): the raw code of the channel under conversion. -/
  | conversionCompletion (raw : BitVec 12)
  /-- BYTE_RECEIVED (R174): a byte arrives on the port's line. -/
  | byteReceived (p : PortId) (b : Byte)
  /-- CHARACTER_SILENCE_TIMEOUT (R174): more than four character times of silence on the line. -/
  | characterSilenceTimeout (p : PortId)
  /-- BREAK_END (R176): the end of a break that lasted at least one frame time. -/
  | breakEnd (p : PortId)
  /-- FRAME_COMPLETION (R175): a frame with this tag, kind and body completes with this check. -/
  | frameCompletion (p : PortId) (tag kind : Byte) (body : List Byte) (check : BitVec 16)
  /-- RESPONSE_SENT (R175): the last byte of the response leaves the port. -/
  | responseSent (p : PortId)
  /-- LINK_UPDATE_DONE (R88): the update in progress on the heat output link completes. -/
  | linkUpdateDone
  /-- LINE_TURNAROUND (R175): the line has turned round and the formed response begins. -/
  | lineTurnaround (p : PortId)
  | readClock (p : PortId) (tag : Byte)
  | setClock (p : PortId) (tag : Byte) (yardMinute : Int)
  | readMap (p : PortId) (tag : Byte) (kind number port : Nat)
  | defineBed (p : PortId) (tag : Byte) (bed action firstBay lastBay rated guard bound : Nat)
  | defineStack (p : PortId) (tag : Byte) (stack action bay kind tierLimit openFlag : Nat)
  | setStackOpen (p : PortId) (tag : Byte) (stack openFlag : Nat)
  | loadCrane (p : PortId) (tag : Byte) (crane action bound low high rating capacity : Nat)
  | defineClass (p : PortId) (tag : Byte) (cls action stripTarget stripAge shipTarget shipAge : Nat)
  | setLimits (p : PortId) (tag : Byte) (limit shedLimit baseLoad : Nat)
  | setConfig (p : PortId) (tag : Byte) (value port : Nat) (setting : Int)
  | loadPiece (p : PortId) (tag : Byte) (id cls mass count age stack reasonGiven reason : Nat)
  | loadBedState (p : PortId) (tag : Byte) (bed cycle count pourAge target minAge : Nat)
      (profile : Profile) (phase : Nat) (setpoint : Int) (entries : List PieceEntry)
  | commit (p : PortId) (tag : Byte)
  | defineProbe (p : PortId) (tag : Byte) (channel assignment bed enabled rawLo : Nat) (tLo : Int)
      (rawHi : Nat) (tHi : Int)
  | readProbe (p : PortId) (tag : Byte) (channel : Nat)
  | clearProbeTally (p : PortId) (tag : Byte) (mask overrun : Nat)
  | scanNow (p : PortId) (tag : Byte)
  | abortScan (p : PortId) (tag : Byte)
  | readScan (p : PortId) (tag : Byte)
  | setProfile (p : PortId) (tag : Byte) (mask : Nat) (profile : Profile)
  | readProfile (p : PortId) (tag : Byte) (bed : Nat)
  | readBudget (p : PortId) (tag : Byte)
  | bedSet (p : PortId) (tag : Byte) (bed : Nat)
  | cancelSet (p : PortId) (tag : Byte) (bed : Nat)
  | pourStart (p : PortId) (tag : Byte) (bed : Nat)
  | pourEnd (p : PortId) (tag : Byte) (bed : Nat) (entries : List PieceEntry)
  | detensionRequest (p : PortId) (tag : Byte) (bed : Nat)
  | detensionDone (p : PortId) (tag : Byte) (bed : Nat)
  | abandonBed (p : PortId) (tag : Byte) (bed : Nat)
  | readBed (p : PortId) (tag : Byte) (bed : Nat)
  | setHold (p : PortId) (tag : Byte) (id reason : Nat)
  | clearHold (p : PortId) (tag : Byte) (id : Nat)
  | deletePiece (p : PortId) (tag : Byte) (id : Nat)
  | shipDispatch (p : PortId) (tag : Byte) (stack : Nat)
  | readPiece (p : PortId) (tag : Byte) (id : Nat)
  | readStack (p : PortId) (tag : Byte) (stack : Nat)
  | requestMove (p : PortId) (tag : Byte) (kind id dest : Nat)
  | cancelMove (p : PortId) (tag : Byte) (slot id : Nat)
  | readMove (p : PortId) (tag : Byte) (slot : Nat)
  | nextMove (p : PortId) (tag : Byte) (crane bay : Nat)
  | lifted (p : PortId) (tag : Byte) (crane slot id : Nat)
  | placed (p : PortId) (tag : Byte) (crane slot : Nat)
  | abortMove (p : PortId) (tag : Byte) (crane slot stackGiven stack : Nat)
  | setMode (p : PortId) (tag : Byte) (mode lock : Nat)
  | readCrane (p : PortId) (tag : Byte) (crane : Nat)
  | readAlerts (p : PortId) (tag : Byte)
  | setAlertMask (p : PortId) (tag : Byte) (mask : Nat)
  | freezeBeds (p : PortId) (tag : Byte) (mask : Nat)
  | unfreeze (p : PortId) (tag : Byte)
  | readPort (p : PortId) (tag : Byte) (port : Nat)
  | setCounter (p : PortId) (tag : Byte)
      (counter selection filterKind filterNumber freezeEnable preloadGiven preload : Nat)
  | readCounters (p : PortId) (tag : Byte)
  | unfreezeCounters (p : PortId) (tag : Byte)
  | clearOverflow (p : PortId) (tag : Byte) (mask : Nat)
  | resetCounters (p : PortId) (tag : Byte)
  | resetCounterSelect (p : PortId) (tag : Byte)
  deriving DecidableEq, Repr

/-- The kinds of the request catalogue (section 10.6). -/
inductive RequestKind where
  | readClock | setClock | readMap | defineBed | defineStack | setStackOpen | loadCrane
  | defineClass | setLimits | setConfig | loadPiece | loadBedState | commit
  | defineProbe | readProbe | clearProbeTally | scanNow | abortScan | readScan
  | setProfile | readProfile | readBudget
  | bedSet | cancelSet | pourStart | pourEnd | detensionRequest | detensionDone | abandonBed
  | readBed
  | setHold | clearHold | deletePiece | shipDispatch | readPiece | readStack
  | requestMove | cancelMove | readMove
  | nextMove | lifted | placed | abortMove | setMode | readCrane
  | readAlerts | setAlertMask | freezeBeds | unfreeze | readPort
  | setCounter | readCounters | unfreezeCounters | clearOverflow | resetCounters
  | resetCounterSelect
  deriving DecidableEq, Repr

end Sys2Proof
end

