-- ==== Sys2Proof/WellFormed.lean ====
section
/-! DEFINITION. A command is well formed when every field of its request body fits the width the table
of request bodies gives it (section 10.6) and the body fits one frame (R174: a length of 2 to 242). -/

namespace Sys2Proof

/-- A number that fits an unsigned field of `w` bytes. -/
def fits (w n : Nat) : Bool := n < 256 ^ w

/-- A number that fits a two's complement field of `w` bytes. -/
def fitsSigned (w : Nat) (n : Int) : Bool :=
  -(256 ^ w : Int) ≤ 2 * n && 2 * n < (256 ^ w : Int)

/-- Every number of the list fits one byte. -/
def bytesFit (l : List Nat) : Bool := l.all (fits 1)

/-- The widths of a profile's figures: two bytes each but for the bands and the step. -/
def Profile.fitsWire (q : Profile) : Bool :=
  fits 2 q.preset && fits 2 q.rampRate && fits 2 q.holdTemp && fits 2 q.coolRate
    && fits 1 q.bandLow && fits 1 q.bandHigh && fits 1 q.step && fits 2 q.ceiling

/-- The widths of a piece entry: id 2, class 1, mass 2. -/
def PieceEntry.fitsWire (x : PieceEntry) : Bool :=
  fits 2 x.id && fits 1 x.cls && fits 2 x.mass

/-- The greatest number of body bytes a request frame carries: a length of 242 less the tag and kind. -/
def maxBody : Nat := 240

/-- A list of entries whose bytes, after `head` others, fit one request body. -/
def entriesFit (head : Nat) (l : List PieceEntry) : Bool :=
  l.all PieceEntry.fitsWire && head + 5 * l.length ≤ maxBody

/-- Every operand of the command fits the field that carries it. -/
def Instr.wellFormed : Instr → Bool
  | .powerOn _ _ _ _ _ => true
  | .restart => true
  | .shedAssertion => true
  | .shedDeassertion => true
  | .minuteExpiry => true
  | .grantTimeout => true
  | .liftOverdue => true
  | .scanTimerExpiry => true
  | .conversionCompletion _ => true
  | .byteReceived _ _ => true
  | .characterSilenceTimeout _ => true
  | .breakEnd _ => true
  | .frameCompletion _ _ _ body _ => body.length ≤ maxBody
  | .responseSent _ => true
  | .linkUpdateDone => true
  | .lineTurnaround _ => true
  | .readClock _ _ => true
  | .setClock _ _ y => fitsSigned 4 y
  | .readMap _ _ k n q => bytesFit [k, n, q]
  | .defineBed _ _ b a f l r g q => bytesFit [b, a, f, l, q] && fits 2 r && fits 2 g
  | .defineStack _ _ s a b k t o => bytesFit [s, a, b, k, t, o]
  | .setStackOpen _ _ s o => bytesFit [s, o]
  | .loadCrane _ _ c a q l h r m => bytesFit [c, a, q, l, h] && fits 2 r && fits 2 m
  | .defineClass _ _ c a st sa ht ha =>
      bytesFit [c, a] && fits 2 st && fits 2 sa && fits 2 ht && fits 2 ha
  | .setLimits _ _ l ls b => fits 2 l && fits 2 ls && fits 2 b
  | .setConfig _ _ v q x => bytesFit [v, q] && fitsSigned 2 x
  | .loadPiece _ _ id c m n a s rg r =>
      fits 2 id && fits 2 m && fits 4 n && fits 4 a && bytesFit [c, s, rg, r]
  | .loadBedState _ _ b cy n pa t ma q ph sp es =>
      bytesFit [b, cy, ph] && fits 4 n && fits 4 pa && fits 2 t && fits 2 ma && q.fitsWire
        && fitsSigned 2 sp && entriesFit 31 es
  | .commit _ _ => true
  | .defineProbe _ _ c a b e rl tl rh th =>
      bytesFit [c, a, b, e] && fits 2 rl && fitsSigned 2 tl && fits 2 rh && fitsSigned 2 th
  | .readProbe _ _ c => fits 1 c
  | .clearProbeTally _ _ m o => fits 8 m && fits 1 o
  | .scanNow _ _ => true
  | .abortScan _ _ => true
  | .readScan _ _ => true
  | .setProfile _ _ m q => fits 2 m && q.fitsWire
  | .readProfile _ _ b => fits 1 b
  | .readBudget _ _ => true
  | .bedSet _ _ b => fits 1 b
  | .cancelSet _ _ b => fits 1 b
  | .pourStart _ _ b => fits 1 b
  | .pourEnd _ _ b es => fits 1 b && entriesFit 2 es
  | .detensionRequest _ _ b => fits 1 b
  | .detensionDone _ _ b => fits 1 b
  | .abandonBed _ _ b => fits 1 b
  | .readBed _ _ b => fits 1 b
  | .setHold _ _ id r => fits 2 id && fits 1 r
  | .clearHold _ _ id => fits 2 id
  | .deletePiece _ _ id => fits 2 id
  | .shipDispatch _ _ s => fits 1 s
  | .readPiece _ _ id => fits 2 id
  | .readStack _ _ s => fits 1 s
  | .requestMove _ _ k id d => bytesFit [k, d] && fits 2 id
  | .cancelMove _ _ sl id => fits 1 sl && fits 2 id
  | .readMove _ _ sl => fits 1 sl
  | .nextMove _ _ c b => bytesFit [c, b]
  | .lifted _ _ c sl id => bytesFit [c, sl] && fits 2 id
  | .placed _ _ c sl => bytesFit [c, sl]
  | .abortMove _ _ c sl g st => bytesFit [c, sl, g, st]
  | .setMode _ _ m l => bytesFit [m, l]
  | .readCrane _ _ c => fits 1 c
  | .readAlerts _ _ => true
  | .setAlertMask _ _ m => fits 2 m
  | .freezeBeds _ _ m => fits 2 m
  | .unfreeze _ _ => true
  | .readPort _ _ q => fits 1 q
  | .setCounter _ _ c s fk fn fe pg v => bytesFit [c, s, fk, fn, fe, pg] && fits 4 v
  | .readCounters _ _ => true
  | .unfreezeCounters _ _ => true
  | .clearOverflow _ _ m => fits 1 m
  | .resetCounters _ _ => true
  | .resetCounterSelect _ _ => true

end Sys2Proof
end

