-- ==== Sys2Proof/Decode.lean ====
section
/-! DEFINITION. The wire form of requests (section 10.6): the catalogue's codes, the request bodies both
ways, the check sequence and the frames. Also decodeTableWord: no row of the opcode table gives bits,
so no word spells a command there. -/

namespace Sys2Proof

/-- No row of spec/opcode_table.json gives bits: a word spells no command. -/
def decodeTableWord (_nbits _w : Nat) : Option Instr := none

/-- The request codes of the catalogue (section 10.6). -/
def RequestKind.code : RequestKind → Byte
  | .readClock => 0x01 | .setClock => 0x02 | .readMap => 0x03 | .defineBed => 0x04
  | .defineStack => 0x05 | .setStackOpen => 0x06 | .loadCrane => 0x07 | .defineClass => 0x08
  | .setLimits => 0x09 | .setConfig => 0x0A | .loadPiece => 0x0B | .loadBedState => 0x0C
  | .commit => 0x0D
  | .defineProbe => 0x10 | .readProbe => 0x11 | .clearProbeTally => 0x12 | .scanNow => 0x13
  | .abortScan => 0x14 | .readScan => 0x15
  | .setProfile => 0x18 | .readProfile => 0x19 | .readBudget => 0x1A
  | .bedSet => 0x20 | .cancelSet => 0x21 | .pourStart => 0x22 | .pourEnd => 0x23
  | .detensionRequest => 0x24 | .detensionDone => 0x25 | .abandonBed => 0x26 | .readBed => 0x27
  | .setHold => 0x30 | .clearHold => 0x31 | .deletePiece => 0x32 | .shipDispatch => 0x33
  | .readPiece => 0x34 | .readStack => 0x35
  | .requestMove => 0x40 | .cancelMove => 0x41 | .readMove => 0x42
  | .nextMove => 0x48 | .lifted => 0x49 | .placed => 0x4A | .abortMove => 0x4B
  | .setMode => 0x4C | .readCrane => 0x4D
  | .readAlerts => 0x50 | .setAlertMask => 0x51 | .freezeBeds => 0x52 | .unfreeze => 0x53
  | .readPort => 0x54
  | .setCounter => 0x60 | .readCounters => 0x61 | .unfreezeCounters => 0x62
  | .clearOverflow => 0x63 | .resetCounters => 0x64 | .resetCounterSelect => 0x65

/-- Every kind of the catalogue, in the order of the codes. -/
def RequestKind.all : List RequestKind :=
  [.readClock, .setClock, .readMap, .defineBed, .defineStack, .setStackOpen, .loadCrane,
   .defineClass, .setLimits, .setConfig, .loadPiece, .loadBedState, .commit,
   .defineProbe, .readProbe, .clearProbeTally, .scanNow, .abortScan, .readScan,
   .setProfile, .readProfile, .readBudget,
   .bedSet, .cancelSet, .pourStart, .pourEnd, .detensionRequest, .detensionDone, .abandonBed,
   .readBed] ++
  [.setHold, .clearHold, .deletePiece, .shipDispatch, .readPiece, .readStack,
   .requestMove, .cancelMove, .readMove,
   .nextMove, .lifted, .placed, .abortMove, .setMode, .readCrane,
   .readAlerts, .setAlertMask, .freezeBeds, .unfreeze, .readPort,
   .setCounter, .readCounters, .unfreezeCounters, .clearOverflow, .resetCounters,
   .resetCounterSelect]

/-- The kind a code names, if it is in the catalogue (R177, step 1). -/
def RequestKind.ofCode (c : Byte) : Option RequestKind :=
  RequestKind.all.find? fun k => k.code == c

/-- The kind of a request command; an event has none. -/
def Instr.kind? : Instr → Option RequestKind
  | .powerOn _ _ _ _ _ => none
  | .restart => none
  | .shedAssertion => none
  | .shedDeassertion => none
  | .minuteExpiry => none
  | .grantTimeout => none
  | .liftOverdue => none
  | .scanTimerExpiry => none
  | .conversionCompletion _ => none
  | .byteReceived _ _ => none
  | .characterSilenceTimeout _ => none
  | .breakEnd _ => none
  | .frameCompletion _ _ _ _ _ => none
  | .responseSent _ => none
  | .linkUpdateDone => none
  | .lineTurnaround _ => none
  | .readClock _ _ => some .readClock
  | .setClock _ _ _ => some .setClock
  | .readMap _ _ _ _ _ => some .readMap
  | .defineBed _ _ _ _ _ _ _ _ _ => some .defineBed
  | .defineStack _ _ _ _ _ _ _ _ => some .defineStack
  | .setStackOpen _ _ _ _ => some .setStackOpen
  | .loadCrane _ _ _ _ _ _ _ _ _ => some .loadCrane
  | .defineClass _ _ _ _ _ _ _ _ => some .defineClass
  | .setLimits _ _ _ _ _ => some .setLimits
  | .setConfig _ _ _ _ _ => some .setConfig
  | .loadPiece _ _ _ _ _ _ _ _ _ _ => some .loadPiece
  | .loadBedState _ _ _ _ _ _ _ _ _ _ _ _ => some .loadBedState
  | .commit _ _ => some .commit
  | .defineProbe _ _ _ _ _ _ _ _ _ _ => some .defineProbe
  | .readProbe _ _ _ => some .readProbe
  | .clearProbeTally _ _ _ _ => some .clearProbeTally
  | .scanNow _ _ => some .scanNow
  | .abortScan _ _ => some .abortScan
  | .readScan _ _ => some .readScan
  | .setProfile _ _ _ _ => some .setProfile
  | .readProfile _ _ _ => some .readProfile
  | .readBudget _ _ => some .readBudget
  | .bedSet _ _ _ => some .bedSet
  | .cancelSet _ _ _ => some .cancelSet
  | .pourStart _ _ _ => some .pourStart
  | .pourEnd _ _ _ _ => some .pourEnd
  | .detensionRequest _ _ _ => some .detensionRequest
  | .detensionDone _ _ _ => some .detensionDone
  | .abandonBed _ _ _ => some .abandonBed
  | .readBed _ _ _ => some .readBed
  | .setHold _ _ _ _ => some .setHold
  | .clearHold _ _ _ => some .clearHold
  | .deletePiece _ _ _ => some .deletePiece
  | .shipDispatch _ _ _ => some .shipDispatch
  | .readPiece _ _ _ => some .readPiece
  | .readStack _ _ _ => some .readStack
  | .requestMove _ _ _ _ _ => some .requestMove
  | .cancelMove _ _ _ _ => some .cancelMove
  | .readMove _ _ _ => some .readMove
  | .nextMove _ _ _ _ => some .nextMove
  | .lifted _ _ _ _ _ => some .lifted
  | .placed _ _ _ _ => some .placed
  | .abortMove _ _ _ _ _ _ => some .abortMove
  | .setMode _ _ _ _ => some .setMode
  | .readCrane _ _ _ => some .readCrane
  | .readAlerts _ _ => some .readAlerts
  | .setAlertMask _ _ _ => some .setAlertMask
  | .freezeBeds _ _ _ => some .freezeBeds
  | .unfreeze _ _ => some .unfreeze
  | .readPort _ _ _ => some .readPort
  | .setCounter _ _ _ _ _ _ _ _ _ => some .setCounter
  | .readCounters _ _ => some .readCounters
  | .unfreezeCounters _ _ => some .unfreezeCounters
  | .clearOverflow _ _ _ => some .clearOverflow
  | .resetCounters _ _ => some .resetCounters
  | .resetCounterSelect _ _ => some .resetCounterSelect

/-! ### Fields, most significant byte first, signed fields in two's complement (section 4.6) -/

/-- A one-byte field. -/
def put1 (n : Nat) : Byte := BitVec.ofNat 8 n

/-- A two-byte field. -/
def put2 (n : Nat) : List Byte := [put1 (n / 256), put1 n]

/-- A four-byte field. -/
def put4 (n : Nat) : List Byte :=
  [put1 (n / 256 ^ 3), put1 (n / 256 ^ 2), put1 (n / 256), put1 n]

/-- An eight-byte field. -/
def put8 (n : Nat) : List Byte := put4 (n / 256 ^ 4) ++ put4 (n % 256 ^ 4)

/-- A signed two-byte field. -/
def putS2 (n : Int) : List Byte := put2 (BitVec.ofInt 16 n).toNat

/-- A signed four-byte field. -/
def putS4 (n : Int) : List Byte := put4 (BitVec.ofInt 32 n).toNat

/-- The number of a one-byte field. -/
def get1 (a : Byte) : Nat := a.toNat

/-- The number of a two-byte field. -/
def get2 (a b : Byte) : Nat := a.toNat * 256 + b.toNat

/-- The number of a four-byte field. -/
def get4 (a b c d : Byte) : Nat :=
  a.toNat * 256 ^ 3 + b.toNat * 256 ^ 2 + c.toNat * 256 + d.toNat

/-- The number of a signed two-byte field. -/
def getS2 (a b : Byte) : Int := (BitVec.ofNat 16 (get2 a b)).toInt

/-- The number of a signed four-byte field. -/
def getS4 (a b c d : Byte) : Int := (BitVec.ofNat 32 (get4 a b c d)).toInt

/-- A profile's 13 bytes. -/
def putProfile (q : Profile) : List Byte :=
  put2 q.preset ++ put2 q.rampRate ++ put2 q.holdTemp ++ put2 q.coolRate
    ++ [put1 q.bandLow, put1 q.bandHigh, put1 q.step] ++ put2 q.ceiling

/-- A piece entry's 5 bytes. -/
def putEntry (x : PieceEntry) : List Byte := put2 x.id ++ [put1 x.cls] ++ put2 x.mass

/-- A list: its one-byte entry count, then its entries. -/
def putEntries (l : List PieceEntry) : List Byte :=
  put1 l.length :: (l.map putEntry).flatten

/-- Exactly `n` entries of five bytes and nothing after them. -/
def getEntries : Nat → List Byte → Option (List PieceEntry)
  | 0, [] => some []
  | n + 1, a :: b :: c :: d :: e :: rest =>
      (getEntries n rest).map fun l => ⟨get2 a b, get1 c, get2 d e⟩ :: l
  | _, _ => none

/-- The body of a request command, laid out as the table of request bodies gives it; an event has none. -/
def encodeBody : Instr → List Byte
  | .powerOn _ _ _ _ _ => []
  | .restart => []
  | .shedAssertion => []
  | .shedDeassertion => []
  | .minuteExpiry => []
  | .grantTimeout => []
  | .liftOverdue => []
  | .scanTimerExpiry => []
  | .conversionCompletion _ => []
  | .byteReceived _ _ => []
  | .characterSilenceTimeout _ => []
  | .breakEnd _ => []
  | .frameCompletion _ _ _ _ _ => []
  | .responseSent _ => []
  | .linkUpdateDone => []
  | .lineTurnaround _ => []
  | .readClock _ _ => []
  | .setClock _ _ y => putS4 y
  | .readMap _ _ k n q => [put1 k, put1 n, put1 q]
  | .defineBed _ _ b a f l r g q =>
      [put1 b, put1 a, put1 f, put1 l] ++ put2 r ++ put2 g ++ [put1 q]
  | .defineStack _ _ s a b k t o => [put1 s, put1 a, put1 b, put1 k, put1 t, put1 o]
  | .setStackOpen _ _ s o => [put1 s, put1 o]
  | .loadCrane _ _ c a q l h r m =>
      [put1 c, put1 a, put1 q, put1 l, put1 h] ++ put2 r ++ put2 m
  | .defineClass _ _ c a st sa ht ha =>
      [put1 c, put1 a] ++ put2 st ++ put2 sa ++ put2 ht ++ put2 ha
  | .setLimits _ _ l ls b => put2 l ++ put2 ls ++ put2 b
  | .setConfig _ _ v q x => [put1 v, put1 q] ++ putS2 x
  | .loadPiece _ _ id c m n a s rg r =>
      put2 id ++ [put1 c] ++ put2 m ++ put4 n ++ put4 a ++ [put1 s, put1 rg, put1 r]
  | .loadBedState _ _ b cy n pa t ma q ph sp es =>
      [put1 b, put1 cy] ++ put4 n ++ put4 pa ++ put2 t ++ put2 ma ++ putProfile q ++ [put1 ph]
        ++ putS2 sp ++ putEntries es
  | .commit _ _ => []
  | .defineProbe _ _ c a b e rl tl rh th =>
      [put1 c, put1 a, put1 b, put1 e] ++ put2 rl ++ putS2 tl ++ put2 rh ++ putS2 th
  | .readProbe _ _ c => [put1 c]
  | .clearProbeTally _ _ m o => put8 m ++ [put1 o]
  | .scanNow _ _ => []
  | .abortScan _ _ => []
  | .readScan _ _ => []
  | .setProfile _ _ m q => put2 m ++ putProfile q
  | .readProfile _ _ b => [put1 b]
  | .readBudget _ _ => []
  | .bedSet _ _ b => [put1 b]
  | .cancelSet _ _ b => [put1 b]
  | .pourStart _ _ b => [put1 b]
  | .pourEnd _ _ b es => put1 b :: putEntries es
  | .detensionRequest _ _ b => [put1 b]
  | .detensionDone _ _ b => [put1 b]
  | .abandonBed _ _ b => [put1 b]
  | .readBed _ _ b => [put1 b]
  | .setHold _ _ id r => put2 id ++ [put1 r]
  | .clearHold _ _ id => put2 id
  | .deletePiece _ _ id => put2 id
  | .shipDispatch _ _ s => [put1 s]
  | .readPiece _ _ id => put2 id
  | .readStack _ _ s => [put1 s]
  | .requestMove _ _ k id d => [put1 k] ++ put2 id ++ [put1 d]
  | .cancelMove _ _ sl id => [put1 sl] ++ put2 id
  | .readMove _ _ sl => [put1 sl]
  | .nextMove _ _ c b => [put1 c, put1 b]
  | .lifted _ _ c sl id => [put1 c, put1 sl] ++ put2 id
  | .placed _ _ c sl => [put1 c, put1 sl]
  | .abortMove _ _ c sl g st => [put1 c, put1 sl, put1 g, put1 st]
  | .setMode _ _ m l => [put1 m, put1 l]
  | .readCrane _ _ c => [put1 c]
  | .readAlerts _ _ => []
  | .setAlertMask _ _ m => put2 m
  | .freezeBeds _ _ m => put2 m
  | .unfreeze _ _ => []
  | .readPort _ _ q => [put1 q]
  | .setCounter _ _ c s fk fn fe pg v =>
      [put1 c, put1 s, put1 fk, put1 fn, put1 fe, put1 pg] ++ put4 v
  | .readCounters _ _ => []
  | .unfreezeCounters _ _ => []
  | .clearOverflow _ _ m => [put1 m]
  | .resetCounters _ _ => []
  | .resetCounterSelect _ _ => []

/-- The request a body spells for a kind, if the body has the kind's length (R177, step 2). -/
def decodeBody (p : PortId) (tag : Byte) : RequestKind → List Byte → Option Instr
  | .readClock, [] => some (.readClock p tag)
  | .setClock, [a, b, c, d] => some (.setClock p tag (getS4 a b c d))
  | .readMap, [k, n, q] => some (.readMap p tag (get1 k) (get1 n) (get1 q))
  | .defineBed, [b, a, f, l, r1, r0, g1, g0, q] =>
      some (.defineBed p tag (get1 b) (get1 a) (get1 f) (get1 l) (get2 r1 r0) (get2 g1 g0) (get1 q))
  | .defineStack, [s, a, b, k, t, o] =>
      some (.defineStack p tag (get1 s) (get1 a) (get1 b) (get1 k) (get1 t) (get1 o))
  | .setStackOpen, [s, o] => some (.setStackOpen p tag (get1 s) (get1 o))
  | .loadCrane, [c, a, q, l, h, r1, r0, m1, m0] =>
      some (.loadCrane p tag (get1 c) (get1 a) (get1 q) (get1 l) (get1 h) (get2 r1 r0) (get2 m1 m0))
  | .defineClass, [c, a, s1, s0, t1, t0, u1, u0, v1, v0] =>
      some (.defineClass p tag (get1 c) (get1 a) (get2 s1 s0) (get2 t1 t0) (get2 u1 u0) (get2 v1 v0))
  | .setLimits, [a1, a0, b1, b0, c1, c0] =>
      some (.setLimits p tag (get2 a1 a0) (get2 b1 b0) (get2 c1 c0))
  | .setConfig, [v, q, x1, x0] => some (.setConfig p tag (get1 v) (get1 q) (getS2 x1 x0))
  | .loadPiece, [i1, i0, c, m1, m0, n3, n2, n1, n0, a3, a2, a1, a0, s, rg, r] =>
      some (.loadPiece p tag (get2 i1 i0) (get1 c) (get2 m1 m0) (get4 n3 n2 n1 n0)
        (get4 a3 a2 a1 a0) (get1 s) (get1 rg) (get1 r))
  | .loadBedState, b :: cy :: n3 :: n2 :: n1 :: n0 :: a3 :: a2 :: a1 :: a0 :: t1 :: t0 :: m1 :: m0
      :: p1 :: p0 :: r1 :: r0 :: h1 :: h0 :: c1 :: c0 :: bl :: bh :: st :: x1 :: x0
      :: ph :: s1 :: s0 :: count :: rest =>
      (getEntries count.toNat rest).map fun es =>
        .loadBedState p tag (get1 b) (get1 cy) (get4 n3 n2 n1 n0) (get4 a3 a2 a1 a0) (get2 t1 t0)
          (get2 m1 m0)
          ⟨get2 p1 p0, get2 r1 r0, get2 h1 h0, get2 c1 c0, get1 bl, get1 bh, get1 st, get2 x1 x0⟩
          (get1 ph) (getS2 s1 s0) es
  | .commit, [] => some (.commit p tag)
  | .defineProbe, [c, a, b, e, r1, r0, t1, t0, q1, q0, u1, u0] =>
      some (.defineProbe p tag (get1 c) (get1 a) (get1 b) (get1 e) (get2 r1 r0) (getS2 t1 t0)
        (get2 q1 q0) (getS2 u1 u0))
  | .readProbe, [c] => some (.readProbe p tag (get1 c))
  | .clearProbeTally, [m7, m6, m5, m4, m3, m2, m1, m0, o] =>
      some (.clearProbeTally p tag (get4 m7 m6 m5 m4 * 256 ^ 4 + get4 m3 m2 m1 m0) (get1 o))
  | .scanNow, [] => some (.scanNow p tag)
  | .abortScan, [] => some (.abortScan p tag)
  | .readScan, [] => some (.readScan p tag)
  | .setProfile, [k1, k0, p1, p0, r1, r0, h1, h0, c1, c0, bl, bh, st, x1, x0] =>
      some (.setProfile p tag (get2 k1 k0)
        ⟨get2 p1 p0, get2 r1 r0, get2 h1 h0, get2 c1 c0, get1 bl, get1 bh, get1 st, get2 x1 x0⟩)
  | .readProfile, [b] => some (.readProfile p tag (get1 b))
  | .readBudget, [] => some (.readBudget p tag)
  | .bedSet, [b] => some (.bedSet p tag (get1 b))
  | .cancelSet, [b] => some (.cancelSet p tag (get1 b))
  | .pourStart, [b] => some (.pourStart p tag (get1 b))
  | .pourEnd, b :: count :: rest =>
      (getEntries count.toNat rest).map fun es => .pourEnd p tag (get1 b) es
  | .detensionRequest, [b] => some (.detensionRequest p tag (get1 b))
  | .detensionDone, [b] => some (.detensionDone p tag (get1 b))
  | .abandonBed, [b] => some (.abandonBed p tag (get1 b))
  | .readBed, [b] => some (.readBed p tag (get1 b))
  | .setHold, [i1, i0, r] => some (.setHold p tag (get2 i1 i0) (get1 r))
  | .clearHold, [i1, i0] => some (.clearHold p tag (get2 i1 i0))
  | .deletePiece, [i1, i0] => some (.deletePiece p tag (get2 i1 i0))
  | .shipDispatch, [s] => some (.shipDispatch p tag (get1 s))
  | .readPiece, [i1, i0] => some (.readPiece p tag (get2 i1 i0))
  | .readStack, [s] => some (.readStack p tag (get1 s))
  | .requestMove, [k, i1, i0, d] => some (.requestMove p tag (get1 k) (get2 i1 i0) (get1 d))
  | .cancelMove, [sl, i1, i0] => some (.cancelMove p tag (get1 sl) (get2 i1 i0))
  | .readMove, [sl] => some (.readMove p tag (get1 sl))
  | .nextMove, [c, b] => some (.nextMove p tag (get1 c) (get1 b))
  | .lifted, [c, sl, i1, i0] => some (.lifted p tag (get1 c) (get1 sl) (get2 i1 i0))
  | .placed, [c, sl] => some (.placed p tag (get1 c) (get1 sl))
  | .abortMove, [c, sl, g, st] => some (.abortMove p tag (get1 c) (get1 sl) (get1 g) (get1 st))
  | .setMode, [m, l] => some (.setMode p tag (get1 m) (get1 l))
  | .readCrane, [c] => some (.readCrane p tag (get1 c))
  | .readAlerts, [] => some (.readAlerts p tag)
  | .setAlertMask, [m1, m0] => some (.setAlertMask p tag (get2 m1 m0))
  | .freezeBeds, [m1, m0] => some (.freezeBeds p tag (get2 m1 m0))
  | .unfreeze, [] => some (.unfreeze p tag)
  | .readPort, [q] => some (.readPort p tag (get1 q))
  | .setCounter, [c, s, fk, fn, fe, pg, v3, v2, v1, v0] =>
      some (.setCounter p tag (get1 c) (get1 s) (get1 fk) (get1 fn) (get1 fe) (get1 pg)
        (get4 v3 v2 v1 v0))
  | .readCounters, [] => some (.readCounters p tag)
  | .unfreezeCounters, [] => some (.unfreezeCounters p tag)
  | .clearOverflow, [m] => some (.clearOverflow p tag (get1 m))
  | .resetCounters, [] => some (.resetCounters p tag)
  | .resetCounterSelect, [] => some (.resetCounterSelect p tag)
  | _, _ => none

/-! ### The check sequence and the frames (R175, section 10.6) -/

/-- One bit through the check register: generator x^16 + x^12 + x^5 + 1, most significant bit first. -/
def crcShift (r : BitVec 16) : BitVec 16 :=
  if r.msb then (r <<< 1) ^^^ 0x1021#16 else r <<< 1

/-- One byte through the check register. -/
def crcByte (r : BitVec 16) (b : Byte) : BitVec 16 :=
  crcShift (crcShift (crcShift (crcShift (crcShift (crcShift (crcShift (crcShift
    (r ^^^ ((b.zeroExtend 16) <<< 8)))))))))

/-- The check sequence of a run of bytes: register preset to all ones, no final inversion (R175). -/
def checkSequence (l : List Byte) : BitVec 16 :=
  l.foldl crcByte 0xFFFF#16

/-- The start byte of a frame. -/
def startByte : Byte := 0xC3#8

/-- The bytes a frame's check covers: the length byte, the tag, the kind and the body. -/
def checkedBytes (tag kind : Byte) (body : List Byte) : List Byte :=
  put1 (body.length + 2) :: tag :: kind :: body

/-- The check a request frame with this content must carry. -/
def requestCheck (tag kind : Byte) (body : List Byte) : BitVec 16 :=
  checkSequence (checkedBytes tag kind body)

/-- The two bytes of a check, high byte first. -/
def putCheck (c : BitVec 16) : List Byte := put2 c.toNat

/-- The check that two bytes spell. -/
def getCheck (a b : Byte) : BitVec 16 := BitVec.ofNat 16 (get2 a b)

/-- The bytes of a request frame with a given check. -/
def requestFrame (tag kind : Byte) (body : List Byte) (check : BitVec 16) : List Byte :=
  startByte :: checkedBytes tag kind body ++ putCheck check

end Sys2Proof
end

