-- ==== Sys2Proof/Machine/State.lean ====
section
/-! DEFINITION. The state of the YC4 as plain data, block by block (section 2.1), the answers a response
carries, the reasons a command could stop, and the state right after power-on. -/

namespace Sys2Proof.Machine

/-! ### The Yard Map (chapter 1) -/

/-- LOADING or RUNNING (section 1.8). -/
inductive Ctl where
  | loading | running
  deriving DecidableEq, Repr

/-- The run minute, the yard clock offset and the clock-unset flag (R1, R2). -/
structure Clock where
  runMinute : Int
  offset : Word32
  unset : Bool
  deriving DecidableEq, Repr

/-- The feeder limit L, the shed limit Ls and the base load B, in kW (section 1.6). -/
structure Limits where
  limit : Nat
  shedLimit : Nat
  baseLoad : Nat
  deriving DecidableEq, Repr

/-- The configuration values in the order of the table of section 1.7. -/
structure Settings where
  scanInterval : Nat
  holdLimit : Nat
  faultPersistence : Nat
  stepLimit : Nat
  datum : Int
  maturityCeiling : Int
  frostOn : Int
  frostOff : Int
  differentialLimit : Int
  grantTimeout : Nat
  liftOverdue : Nat
  clearance : Nat
  starveLimit : Nat
  stripLow : Nat
  dispatchLow : Nat
  creditLimit : Vector Nat 4
  deriving DecidableEq, Repr

/-- A product class (section 1.5). -/
structure ProductClass where
  stripTarget : Nat
  stripAge : Nat
  shipTarget : Nat
  shipAge : Nat
  deriving DecidableEq, Repr

/-- A bed definition (section 1.2). -/
structure BedDef where
  firstBay : Nat
  lastBay : Nat
  rated : Nat
  guard : Nat
  bound : Option PortId
  deriving DecidableEq, Repr

/-- The kind of a stack (section 1.3). -/
inductive StackKind where
  | stock | dispatch
  deriving DecidableEq, Repr

/-- A stack definition (section 1.3). -/
structure StackDef where
  bay : Nat
  kind : StackKind
  tierLimit : Nat
  isOpen : Bool
  deriving DecidableEq, Repr

/-- A crane enrolment (section 1.4). -/
structure Enrolment where
  bound : PortId
  low : Nat
  high : Nat
  rating : Nat
  capacity : Nat
  deriving DecidableEq, Repr

/-! ### The Scan Unit (chapter 2) -/

/-- What a probe measures (R19). -/
inductive Assignment where
  | unassigned
  | bed (b : BedId)
  | yard
  deriving DecidableEq, Repr

/-- The read state of a probe (R19). -/
inductive ReadState where
  | never | valid | fault
  deriving DecidableEq, Repr

/-- A probe record (R19). -/
structure Probe where
  assignment : Assignment
  enabled : Bool
  rawLo : Nat
  tLo : Int
  rawHi : Nat
  tHi : Int
  reading : Option Int
  readState : ReadState
  consecutive : Nat
  tally : Nat
  lastScan : Option Word32
  mark : Bool
  deriving DecidableEq, Repr

/-- The status of an aggregate (R34). -/
inductive AggStatus where
  | live | held | blind
  deriving DecidableEq, Repr

/-- A bed's aggregate (R35). -/
structure Aggregate where
  tmin : Option Int
  tmax : Option Int
  status : AggStatus
  held : Nat
  scanNumber : Word32
  deriving DecidableEq, Repr

/-- The yard aggregate (R36). -/
structure YardAggregate where
  temp : Option Int
  status : AggStatus
  held : Nat
  deriving DecidableEq, Repr

/-- The Scan Unit: the probe table, the channel under conversion while a scan is in flight, the scan
number, the minute of the last completed scan, the interval with which the countdown under way began (R11,
R24), the whole minutes that remain of it as they are last known (R38; notes/assumptions/4.md), the overrun
tally and the yard aggregate. -/
structure ScanUnit where
  probes : Vector Probe 64
  inFlight : Option Channel
  number : Word32
  lastDone : Option Int
  countdown : Nat
  remaining : Nat
  overruns : Nat
  yard : YardAggregate
  deriving DecidableEq, Repr

/-! ### The records of a bed (chapters 3, 4 and 6) -/

/-- The cycle states (section 6.1). -/
inductive CycleState where
  | empty | set | casting | curing | releasable | detensioning | stripping
  deriving DecidableEq, Repr

/-- The figures captured at POUR_END or LOAD_BED_STATE, present together (R96). -/
structure PourFigures where
  target : Nat
  minAge : Nat
  pourEnd : Int
  deriving DecidableEq, Repr

/-- A bed's cycle record (R96). -/
structure Cycle where
  state : CycleState
  pieces : List Nat
  figures : Option PourFigures
  release : Option Int
  deriving DecidableEq, Repr

/-- A bed's maturity record (R41). -/
structure Maturity where
  count : Nat
  last : Option Int
  gap : Bool
  gapCount : Nat
  deriving DecidableEq, Repr

/-- The heat phases (R62). -/
inductive Phase where
  | off | preset | ramp | hold | cool
  deriving DecidableEq, Repr

/-- A bed's working profile and regulation record (R61, R62). -/
structure Regulation where
  working : Option Profile
  phase : Phase
  setpoint : Option Int
  carry : Nat
  base : Nat
  requested : Nat
  frost : Bool
  overheat : Bool
  curtailed : Bool
  deriving DecidableEq, Repr

/-- A defined bed: its definition and the records that exist while it is defined (R35, R42, R62, R96). -/
structure Bed where
  defn : BedDef
  cycle : Cycle
  maturity : Maturity
  heat : Regulation
  agg : Aggregate
  deriving DecidableEq, Repr

/-! ### The Feeder Budget Unit (chapter 5) -/

/-- The heat output link (R88): the update in progress, whether later levels wait to follow it, and the
levels the heater panels last received. -/
structure Link where
  sending : Option (Vector Nat 16)
  waiting : Bool
  panels : Vector Nat 16
  deriving DecidableEq, Repr

/-- A crane's reservation (R79). -/
structure Reservation where
  rating : Nat
  slot : SlotId
  deriving DecidableEq, Repr

/-- The Feeder Budget Unit; the reservations stand with their cranes (R79). -/
structure Budget where
  shed : Bool
  granted : Vector Nat 16
  levels : Vector Nat 16
  lastAllocation : Option Int
  link : Link
  deriving DecidableEq, Repr

/-! ### Pieces and stacks (chapter 7) -/

/-- The states of a piece (R119). -/
inductive PieceState where
  | onBed | strippable | inTransit | stocked | dispatchStaged | scrap
  deriving DecidableEq, Repr

/-- Where a piece is (R118); its position or tier is its place in the bed's list or the stack. -/
inductive Location where
  | bed (b : BedId)
  | stack (s : StackId)
  | crane (k : CraneId)
  deriving DecidableEq, Repr

/-- A piece record with its maturity record (R118, R41). HOLD is set exactly while a reason is present. -/
structure Piece where
  id : Nat
  cls : Nat
  mass : Nat
  castMinute : Int
  shipTarget : Nat
  shipAge : Nat
  state : PieceState
  location : Location
  hold : Option Nat
  shipReady : Bool
  move : Option SlotId
  count : Nat
  last : Option Int
  gap : Bool
  deriving DecidableEq, Repr

/-- A defined stack: its definition, its contents from bottom to top and its incoming count (R123). -/
structure Stack where
  defn : StackDef
  contents : List Nat
  incoming : Nat
  deriving DecidableEq, Repr

/-! ### The Move Table (chapter 8) -/

/-- The kinds of move (R139). -/
inductive MoveKind where
  | strip | restack | load | ret
  deriving DecidableEq, Repr

/-- The source of a move (R138). -/
inductive Source where
  | bed (b : BedId)
  | stack (s : StackId)
  deriving DecidableEq, Repr

/-- The fields a move has from its grant onward (R138). -/
structure Grant where
  crane : CraneId
  minute : Int
  rating : Nat
  spanLow : Nat
  spanHigh : Nat
  clearance : Nat
  deriving DecidableEq, Repr

/-- The state of a move with the fields present in it (R138). -/
inductive Progress where
  | queued
  | granted (g : Grant)
  | lifted (g : Grant) (liftMinute : Int) (overdue : Bool)
  deriving DecidableEq, Repr

/-- The states of a move (R138). -/
inductive MoveState where
  | queued | granted | lifted
  deriving DecidableEq, Repr

/-- A move record (R138). -/
structure Move where
  kind : MoveKind
  piece : Nat
  source : Source
  dest : StackId
  requester : PortId
  seq : Word32
  progress : Progress
  deriving DecidableEq, Repr

/-- The Move Table: the slots, the entry sequence counter and the charged counts (R138, R140, R141). -/
structure MoveTable where
  slots : Vector (Option Move) 64
  seq : Word32
  charged : Vector Nat 4
  deriving DecidableEq, Repr

/-! ### The Crane Arbiter (chapter 9) -/

/-- The service modes (R166). -/
inductive ServiceMode where
  | strip | dispatch
  deriving DecidableEq, Repr

/-- How a crane's last move ended (R157). -/
inductive Ending where
  | placed | diverted
  deriving DecidableEq, Repr

/-- A crane's last completed move (R157). -/
structure LastMove where
  slot : SlotId
  piece : Nat
  stack : StackId
  tier : Nat
  ending : Ending
  deriving DecidableEq, Repr

/-- The source as the answer to a grant gives it (R164). -/
inductive SourceReport where
  | bed (b : BedId) (firstBay lastBay : Nat)
  | stack (s : StackId) (bay tier : Nat)
  deriving DecidableEq, Repr

/-- What a HOLDING crane holds: its current slot and granted tier (R157). The source is the model's own
field, the source as the grant's answer gave it, which a REPEAT answer carries again (R159). -/
structure Held where
  slot : SlotId
  tier : Nat
  source : SourceReport
  deriving DecidableEq, Repr

/-- A crane slot: its enrolment (section 1.4), its runtime record (R157) and its reservation (R79). The
crane is HOLDING exactly while `held` is present (R158). -/
structure Crane where
  enrolment : Option Enrolment
  held : Option Held
  lastBay : Option Nat
  lastMove : Option LastMove
  reservation : Option Reservation
  deriving DecidableEq, Repr

/-- The service mode, its lock and the starve counts (R166). -/
structure Arbiter where
  mode : ServiceMode
  lock : Bool
  stripStarve : Nat
  dispatchStarve : Nat
  deriving DecidableEq, Repr

/-! ### The Activity Counters (chapter 11) -/

/-- The selections of a counter, in the order of their numbers (R185). -/
inductive Selection where
  | nothing | scanDone | scanOverrun | probeFault | moveEntered | moveMerged | moveGranted
  | offMode | moveRevoked | moveCompleted | modeSwitch | curtailment | powerWait | frameReject
  | requestRefused | queuedMoves | grantedHeat
  deriving DecidableEq, Repr

/-- The filter of a counter (R185). -/
inductive Filter where
  | any
  | bed (b : BedId)
  | crane (k : CraneId)
  | port (p : PortId)
  deriving DecidableEq, Repr

/-- A counter record (R185). -/
structure Counter where
  selection : Selection
  filter : Filter
  value : Word32
  overflow : Bool
  freezeEnable : Bool
  deriving DecidableEq, Repr

/-- The eight counters and the frozen flag (R185). -/
structure CounterBank where
  counters : Vector Counter 8
  frozen : Bool
  deriving DecidableEq, Repr

/-! ### What a response carries (chapter 10) -/

/-- The result codes (section 10.6). -/
inductive Result where
  | ok | merged | repeated | diverted | noWork | unknownKind
  | notPermitted | notBound | notReady | badLength | badValue | wrongState | busy | busyScan
  | noSuch | duplicate | full | noCredit | inMotion | tooLate | notTop | noRoom | held
  | tooWarm | noAmbient | blind
  deriving DecidableEq, Repr

/-- The reasons of a NONE answer (R165). -/
inductive NoneReason where
  | queueEmpty | powerWait | spanWait | noneEligible
  deriving DecidableEq, Repr

/-- The figures of the READ_BED reply other than its stamps (section 10.6). -/
structure BedFigures where
  bed : BedId
  cycle : CycleState
  phase : Phase
  status : AggStatus
  held : Nat
  tmin : Option Int
  tmax : Option Int
  setpoint : Option Int
  base : Nat
  requested : Nat
  granted : Nat
  level : Nat
  frost : Bool
  overheat : Bool
  curtailed : Bool
  gap : Bool
  gapCount : Nat
  count : Nat
  target : Option Nat
  minAge : Option Nat
  age : Option Int
  scanNumber : Word32
  pieces : List (Nat × PieceState)
  deriving DecidableEq, Repr

/-- Every figure of the READ_BED reply with its minutes held as run minutes: what a snapshot holds (R180). -/
structure BedReport extends BedFigures where
  last : Option Int
  pourEnd : Option Int
  release : Option Int
  deriving DecidableEq, Repr

/-- A READ_BED answer: the figures, whether they are a snapshot's, and the stamps, which are formed at the
read (R2, R181). -/
structure BedReply extends BedFigures where
  snapshot : Bool
  lastStamp : Option Word32
  pourEndStamp : Option Word32
  releaseStamp : Option Word32
  deriving DecidableEq, Repr

/-- A piece's place as a report gives it: bed and list position, stack and tier, or crane (R134). -/
inductive Place where
  | bed (b : BedId) (position : Nat)
  | stack (s : StackId) (tier : Nat)
  | crane (k : CraneId)
  deriving DecidableEq, Repr

/-- The pending move as READ_PIECE reports it, with its crane while it is GRANTED or LIFTED (R134). -/
structure PendingReport where
  slot : SlotId
  state : MoveState
  kind : MoveKind
  dest : StackId
  crane : Option CraneId
  deriving DecidableEq, Repr

/-- A READ_PIECE answer (R134). -/
structure PieceReply where
  id : Nat
  cls : Nat
  mass : Nat
  castStamp : Word32
  age : Int
  shipTarget : Nat
  shipAge : Nat
  state : PieceState
  place : Place
  hold : Option Nat
  shipReady : Bool
  count : Nat
  lastStamp : Option Word32
  gap : Bool
  move : Option PendingReport
  deriving DecidableEq, Repr

/-- One entry of a READ_STACK answer (R135). -/
structure StackEntry where
  id : Nat
  state : PieceState
  shipReady : Bool
  hold : Option Nat
  move : Option SlotId
  deriving DecidableEq, Repr

/-- A READ_SCAN answer (R38): the channel under conversion with the number of channels of the scan set. -/
structure ScanReport where
  inFlight : Option (Channel × Nat)
  number : Word32
  lastDone : Option Word32
  interval : Nat
  remaining : Nat
  overruns : Nat
  yard : YardAggregate
  deriving DecidableEq, Repr

/-- One bed slot of a READ_BUDGET answer (R93). -/
structure BudgetLine where
  requested : Nat
  granted : Nat
  level : Nat
  curtailed : Bool
  guarded : Bool
  deriving DecidableEq, Repr

/-- A READ_BUDGET answer (R93). -/
structure BudgetReport where
  limits : Limits
  shed : Bool
  effective : Int
  reserved : Nat
  heatBudget : Int
  guards : Nat
  spare : Int
  reservations : Vector (Option Reservation) 4
  beds : Vector BudgetLine 16
  lastAllocation : Option Word32
  deriving DecidableEq, Repr

/-- What a move has from its grant onward, but for the grant minute (R138). -/
structure GrantFigures where
  crane : CraneId
  rating : Nat
  spanLow : Nat
  spanHigh : Nat
  clearance : Nat
  deriving DecidableEq, Repr

/-- A move as READ_MOVE reports it: the fields of R138 that are present, the grant and lift minutes as
yard-clock stamps with the minutes elapsed since each, and the age (R2, R154). -/
structure MoveReport where
  kind : MoveKind
  piece : Nat
  source : Source
  dest : StackId
  requester : PortId
  seq : Word32
  state : MoveState
  grant : Option GrantFigures
  overdue : Option Bool
  grantStamp : Option Word32
  sinceGrant : Option Int
  liftStamp : Option Word32
  sinceLift : Option Int
  age : Word32
  deriving DecidableEq, Repr

/-- A READ_MOVE answer (R154). -/
structure TableReport where
  slot : Option MoveReport
  occupied : Nat
  seq : Word32
  charged : Vector Nat 4
  creditLimit : Vector Nat 4
  deriving DecidableEq, Repr

/-- The answer to a grant, or to a NEXT_MOVE from a HOLDING crane (R164, R159). -/
structure GrantReport where
  slot : SlotId
  seq : Word32
  kind : MoveKind
  piece : Nat
  mass : Nat
  source : SourceReport
  dest : StackId
  destBay : Nat
  tier : Nat
  grantStamp : Word32
  isLifted : Bool
  deriving DecidableEq, Repr

/-- The held move as READ_CRANE reports it: its state, captured span and captured clearance (R170). -/
structure HeldReport where
  state : MoveState
  spanLow : Nat
  spanHigh : Nat
  clearance : Nat
  deriving DecidableEq, Repr

/-- A READ_CRANE answer (R170); `heldMove` and the reservation are present for a HOLDING crane. -/
structure CraneReport where
  enrolment : Option Enrolment
  slot : Option SlotId
  tier : Option Nat
  lastBay : Option Nat
  lastMove : Option LastMove
  heldMove : Option HeldReport
  reservation : Option Reservation
  arbiter : Arbiter
  queuedStrip : Nat
  queuedDispatch : Nat
  queuedRestack : Nat
  deriving DecidableEq, Repr

/-- A port's receiver state (R174): in COLLECT the length and the bytes kept so far. -/
inductive Receiver where
  | hunt
  | length
  | collect (len : Nat) (kept : List Byte)
  deriving DecidableEq, Repr

/-- A receiver's state as READ_PORT reports it (R174, R182). -/
inductive RxState where
  | hunt | length | collect
  deriving DecidableEq, Repr

/-- A READ_PORT answer (R182). -/
structure PortReport where
  role : Role
  rx : RxState
  rejects : Nat
  overruns : Nat
  sending : Bool
  mask : BitVec 16
  alerts : BitVec 16
  lineActive : Bool
  snapshots : List BedId
  deriving DecidableEq, Repr

/-- The figures an answer carries beyond its result code. -/
inductive Answer where
  /-- An empty body. -/
  | empty
  /-- READ_CLOCK (R3): run minute, yard clock, offset, clock-unset flag, controller state. -/
  | clock (runMinute : Int) (yardClock offset : Word32) (unset : Bool) (ctl : Ctl)
  /-- READ_MAP (R3): the entry named, absent for a slot that holds no definition. -/
  | mapBed (d : Option BedDef)
  | mapStack (d : Option StackDef)
  | mapCrane (d : Option Enrolment)
  | mapClass (d : Option ProductClass)
  | mapLimits (l : Limits)
  | mapValue (x : Int)
  /-- READ_PROBE (R22). -/
  | probe (q : Probe)
  /-- SCAN_NOW (R25) and FREEZE_BEDS (R180). -/
  | scanNumber (n : Word32)
  | scan (r : ScanReport)
  /-- READ_PROFILE (R61). -/
  | profiles (stored : Profile) (working : Option Profile)
  | budget (r : BudgetReport)
  /-- A bed request past R98's check 4: the cycle state after the request. -/
  | cycle (c : CycleState)
  /-- POUR_END accepted or repeated (R103, R105). -/
  | poured (c : CycleState) (stamp : Word32) (target minAge : Nat)
  | bed (r : BedReply)
  /-- SET_HOLD and CLEAR_HOLD (R122). -/
  | pieceState (st : PieceState)
  /-- DELETE_PIECE (R131): the state and place held before the event. -/
  | deleted (st : PieceState) (place : Place)
  /-- SHIP_DISPATCH (R132): the pieces shipped, bottom to top. -/
  | shipped (ids : List Nat)
  | piece (r : PieceReply)
  /-- READ_STACK (R135): definition, contents bottom to top, incoming count, free room. -/
  | stack (d : StackDef) (contents : List StackEntry) (incoming room : Nat)
  /-- REQUEST_MOVE (R143, R144). -/
  | entered (slot : SlotId) (seq : Word32)
  | table (r : TableReport)
  | grant (r : GrantReport)
  /-- NONE (R165). -/
  | noMove (reason : NoneReason) (mode : ServiceMode) (queued : Nat)
  /-- PLACED, DIVERTED and their REPEAT (R149, R151): the stack and the tier. -/
  | setDown (stack : StackId) (tier : Nat)
  /-- SET_MODE (R169). -/
  | service (mode : ServiceMode) (lock : Bool)
  | crane (r : CraneReport)
  /-- READ_ALERTS (R179). -/
  | alerts (pending mask : BitVec 16)
  | port (r : PortReport)
  /-- READ_COUNTERS (R189). -/
  | counters (cs : Vector Counter 8) (frozen : Bool)
  deriving DecidableEq, Repr

/-- A response: the tag and kind as received, the result and the answer (section 10.6). -/
structure Response where
  tag : Byte
  kind : Byte
  result : Result
  answer : Answer
  deriving DecidableEq, Repr

/-! ### The Station Ports (chapter 10) -/

/-- What a port is sending (R175): nothing, a response formed but not begun, or one begun. -/
inductive Transmit where
  | idle
  | formed (r : Response)
  | begun (r : Response)
  deriving DecidableEq, Repr

/-- A port record: role, receiver, transmission, tallies, alert mask and pending set, and the snapshot set.
A mask and a pending set are the 16-bit fields the wire carries, bit n for the kind numbered n. -/
structure Port where
  role : Role
  rx : Receiver
  tx : Transmit
  rejects : Nat
  overruns : Nat
  mask : BitVec 16
  alerts : BitVec 16
  snapshots : Vector (Option BedReport) 16
  deriving DecidableEq, Repr

/-! ### The machine -/

/-- The state of the YC4 and the queue of commands that wait for it. -/
structure State where
  ctl : Ctl
  clock : Clock
  limits : Limits
  settings : Settings
  classes : Vector (Option ProductClass) 32
  beds : Vector (Option Bed) 16
  profiles : Vector Profile 16
  stackSlots : Vector (Option Stack) 96
  cranes : Vector Crane 4
  scan : ScanUnit
  budget : Budget
  pieces : List Piece
  moves : MoveTable
  arbiter : Arbiter
  ports : Vector Port 4
  counters : CounterBank
  freeReads : Nat
  pending : List Instr
  deriving DecidableEq, Repr

/-- No command stops the YC4: every request has an answer and every event an effect, so this type has no
constructor. Were one added, its docstring would say who raises it. -/
inductive Fault where
  deriving DecidableEq, Repr

/-- Why the model has no meaning for a command. -/
inductive Refusal where
  /-- Raised only by an arm of exec for a command without a meaning yet; safe: the model stops there. No
  arm raises it: every command has its meaning. -/
  | notModelled (mnemonic : String)
  deriving DecidableEq, Repr

/-! ### Right after power-on -/

/-- The power-on default of a stored profile (R59). -/
def defaultProfile : Profile := ⟨120, 150, 600, 100, 10, 10, 20, 700⟩

/-- The power-on defaults of the configuration values (section 1.7). -/
def defaultSettings : Settings :=
  ⟨5, 3, 3, 150, -100, 800, 50, 70, 200, 5, 20, 2, 4, 0, 0, Vector.replicate 4 16⟩

/-- The probe record of R39. -/
def Probe.powerOn : Probe :=
  ⟨.unassigned, false, 1, -400, 4094, 950, none, .never, 0, 0, none, false⟩

/-- The crane slot of R16, R94 and R171. -/
def Crane.powerOn : Crane := ⟨none, none, none, none, none⟩

/-- The counter record of R190. -/
def Counter.powerOn : Counter := ⟨.nothing, .any, 0, false, false⟩

/-- The mask a role takes at power-on (the alert table of section 10.6, R183). -/
def defaultMask : Role → BitVec 16
  | .office => 0xFFFF
  | .bedside => 0x0CE8
  | .crane => 0x1600
  | .off => 0

/-- A port at power-on (R183): CLOCK_UNSET, kind 15, is raised into each port whose mask enables it. -/
def Port.powerOn (r : Role) : Port :=
  ⟨r, .hunt, .idle, 0, 0, defaultMask r, defaultMask r &&& 0x8000, Vector.replicate 16 none⟩

/-- The state right after power-on (R16, R39, R57, R77, R94, R116, R136, R155, R171, R183, R190).
DESIGN CHOICE (notes/assumptions/1.md): the straps read P0 OFFICE, P1 BEDSIDE, P2 CRANE, P3 BEDSIDE and the
SHED line is deasserted, as in the specification's worked examples. -/
def State.reset : State where
  ctl := .loading
  clock := ⟨0, 0, true⟩
  limits := ⟨0, 0, 0⟩
  settings := defaultSettings
  classes := Vector.replicate 32 none
  beds := Vector.replicate 16 none
  profiles := Vector.replicate 16 defaultProfile
  stackSlots := Vector.replicate 96 none
  cranes := Vector.replicate 4 Crane.powerOn
  scan :=
    ⟨Vector.replicate 64 Probe.powerOn, none, 0, none, 5, 5, 0, ⟨none, .blind, 0⟩⟩
  budget :=
    ⟨false, Vector.replicate 16 0, Vector.replicate 16 0, none,
      ⟨none, false, Vector.replicate 16 0⟩⟩
  pieces := []
  moves := ⟨Vector.replicate 64 none, 0, Vector.replicate 4 0⟩
  arbiter := ⟨.strip, false, 0, 0⟩
  ports := #v[Port.powerOn .office, Port.powerOn .bedside, Port.powerOn .crane, Port.powerOn .bedside]
  counters := ⟨Vector.replicate 8 Counter.powerOn, false⟩
  freeReads := 0
  pending := []

end Sys2Proof.Machine
end

