-- ==== Sys2Proof/Machine/Ops.lean ====
section
/-! DEFINITION. The named operations over the state: reading and writing a slot of each table, the piece
records, raising an alert, what an event shows the counters, and taking a request at a port. -/

namespace Sys2Proof.Machine

/-! ### Reading and writing slots -/

/-- The current run minute: "now" (section 4.3). -/
def State.now (s : State) : Int := s.clock.runMinute

/-- A run minute as a yard-clock stamp: the minute plus the offset, modulo 2^32 (R2). -/
def State.stamp (s : State) (m : Int) : Word32 := BitVec.ofInt 32 m + s.clock.offset

/-- The bed in a slot, if the slot is defined. -/
def State.bed (s : State) (b : BedId) : Option Bed := s.beds[b]

/-- The state with a bed slot set. -/
def State.setBed (s : State) (b : BedId) (x : Option Bed) : State :=
  { s with beds := s.beds.set b x }

/-- The state with a defined bed changed; an undefined slot stays undefined. -/
def State.modBed (s : State) (b : BedId) (f : Bed → Bed) : State :=
  s.setBed b ((s.bed b).map f)

/-- The stack in a slot, if the slot is defined. -/
def State.stack (s : State) (i : StackId) : Option Stack := s.stackSlots[i]

/-- The state with a stack slot set. -/
def State.setStack (s : State) (i : StackId) (x : Option Stack) : State :=
  { s with stackSlots := s.stackSlots.set i x }

/-- The state with a defined stack changed; an undefined slot stays undefined. -/
def State.modStack (s : State) (i : StackId) (f : Stack → Stack) : State :=
  s.setStack i ((s.stack i).map f)

/-- A crane slot. -/
def State.crane (s : State) (k : CraneId) : Crane := s.cranes[k]

/-- The state with a crane slot changed. -/
def State.modCrane (s : State) (k : CraneId) (f : Crane → Crane) : State :=
  { s with cranes := s.cranes.set k (f s.cranes[k]) }

/-- The move in a slot, if the slot is occupied. -/
def State.move (s : State) (i : SlotId) : Option Move := s.moves.slots[i]

/-- The state with a move slot set. -/
def State.setMove (s : State) (i : SlotId) (m : Option Move) : State :=
  { s with moves := { s.moves with slots := s.moves.slots.set i m } }

/-- A port record. -/
def State.port (s : State) (p : PortId) : Port := s.ports[p]

/-- The state with a port record changed. -/
def State.modPort (s : State) (p : PortId) (f : Port → Port) : State :=
  { s with ports := s.ports.set p (f s.ports[p]) }

/-- The defined beds with their numbers. -/
def State.definedBeds (s : State) : List (BedId × Bed) :=
  (List.finRange 16).filterMap fun b => (s.bed b).map fun x => (b, x)

/-- The occupied move slots with their moves, in slot order. -/
def State.moveList (s : State) : List (SlotId × Move) :=
  (List.finRange 64).filterMap fun i => (s.move i).map fun m => (i, m)

/-- The move waits in the table. -/
def Move.isQueued (m : Move) : Bool :=
  match m.progress with
  | .queued => true
  | .granted _ => false
  | .lifted _ _ _ => false

/-- The state of a move (R138). -/
def Move.state (m : Move) : MoveState :=
  match m.progress with
  | .queued => .queued
  | .granted _ => .granted
  | .lifted _ _ _ => .lifted

/-- The grant of a move in GRANTED or LIFTED. -/
def Move.grant? (m : Move) : Option Grant :=
  match m.progress with
  | .queued => none
  | .granted g => some g
  | .lifted g _ _ => some g

/-- The QUEUED moves with their slots, in slot order. -/
def State.queued (s : State) : List (SlotId × Move) :=
  s.moveList.filter fun x => x.2.isQueued

/-- The age of a move: the entry sequence counter less its number, modulo 2^32 (R140). -/
def State.age (s : State) (m : Move) : Nat := (s.moves.seq - m.seq).toNat

/-- The sum of the ratings of all enrolled cranes (R8, R10). -/
def State.enrolledRatings (s : State) : Nat :=
  total (onEach (fun _ c => match c.enrolment with
    | none => 0
    | some e => e.rating) s.cranes)

/-- The limit inequalities of R10 for given figures and a given sum of enrolled ratings. -/
def limitsHold (l : Limits) (ratings : Nat) : Bool :=
  l.shedLimit ≤ l.limit && l.limit ≤ 20000 && l.baseLoad + ratings ≤ l.shedLimit

/-! ### Piece records. The records are kept by rising id: an order no request can observe (R121). -/

/-- The number of piece records (R118). -/
def maxPieces : Nat := 1024

/-- The registered piece of an id. -/
def State.piece (s : State) (id : Nat) : Option Piece := s.pieces.find? fun x => x.id == id

/-- The piece put into the records, by rising id. -/
def insertPiece (x : Piece) : List Piece → List Piece
  | [] => [x]
  | y :: rest => if x.id ≤ y.id then x :: y :: rest else y :: insertPiece x rest

/-- The state with a piece registered. -/
def State.addPiece (s : State) (x : Piece) : State := { s with pieces := insertPiece x s.pieces }

/-- The state with the piece of an id changed. -/
def State.modPiece (s : State) (id : Nat) (f : Piece → Piece) : State :=
  { s with pieces := s.pieces.map fun x => if x.id == id then f x else x }

/-- The state with the record of an id freed. -/
def State.freePiece (s : State) (id : Nat) : State :=
  { s with pieces := s.pieces.filter fun x => x.id != id }

/-- The piece's move in the table (R126). -/
def State.moveOf (s : State) (x : Piece) : Option Move := x.move.bind s.move

/-- The piece has a move in GRANTED or LIFTED (R126). -/
def State.inMotion (s : State) (x : Piece) : Bool :=
  match s.moveOf x with
  | none => false
  | some m => !m.isQueued

/-! ### Alerts (R178) -/

/-- The alert kinds, in the order of their bits (section 10.6). -/
inductive AlertKind where
  | scanDone | scanOverrun | probeFault | bedBlind | yardBlind | bedReleasable | frost | overheat
  | curtailed | shedChange | moveRevoked | moveDropped | liftOverdue | shipReady | counterOverflow
  | clockUnset
  deriving DecidableEq, Repr

/-- The bit number of an alert kind. -/
def AlertKind.num : AlertKind → Nat
  | .scanDone => 0 | .scanOverrun => 1 | .probeFault => 2 | .bedBlind => 3 | .yardBlind => 4
  | .bedReleasable => 5 | .frost => 6 | .overheat => 7 | .curtailed => 8 | .shedChange => 9
  | .moveRevoked => 10 | .moveDropped => 11 | .liftOverdue => 12 | .shipReady => 13
  | .counterOverflow => 14 | .clockUnset => 15

/-- The mask with the one bit of an alert kind. -/
def AlertKind.bit (k : AlertKind) : BitVec 16 := 1#16 <<< k.num

/-- For whom an alert is raised: every port, the ports of a bed alert with the bed's bound port, or the
ports of a move alert with the move's requester and the port bound to its crane. -/
inductive Toward where
  | everyPort
  | bed (bound : Option PortId)
  | move (requester : PortId) (cranePort : Option PortId)
  deriving DecidableEq, Repr

/-- The port of this number and role is to see the alert (R178). An OFF port sees none. -/
def Toward.sees (t : Toward) (p : PortId) (r : Role) : Bool :=
  match r, t with
  | .off, _ => false
  | _, .everyPort => true
  | .bedside, .bed bound => bound == some p
  | _, .bed _ => true
  | .office, .move _ _ => true
  | _, .move q c => p == q || c == some p

/-- A port's pending set after an alert is raised: the kind joins it when the port is to see it and its
mask enables it (R178). -/
def Port.join (k : AlertKind) (t : Toward) (p : PortId) (x : Port) : Port :=
  if t.sees p x.role && x.mask.getLsbD k.num then { x with alerts := x.alerts ||| k.bit } else x

/-- Raise an alert (R178). -/
def State.raise (s : State) (k : AlertKind) (t : Toward) : State :=
  { s with ports := onEach (Port.join k t) s.ports }

/-- Raise an alert toward every port, if a condition holds. -/
def State.raiseIf (s : State) (c : Bool) (k : AlertKind) : State :=
  if c then s.raise k .everyPort else s

/-- The ports that see a bed's alerts: by the bed's bound port at the event (R178). -/
def State.towardBed (s : State) (b : BedId) : Toward :=
  .bed ((s.bed b).bind fun x => x.defn.bound)

/-- The port bound to a crane. -/
def State.cranePort (s : State) (k : CraneId) : Option PortId :=
  (s.crane k).enrolment.map fun e => e.bound

/-- The ports that see a move's alerts (R178). -/
def State.towardMove (s : State) (m : Move) : Toward :=
  .move m.requester (m.grant?.bind fun g => s.cranePort g.crane)

/-- Raise a bed alert for each bed that a test picks. -/
def State.raiseBeds (s : State) (k : AlertKind) (pick : BedId → Bool) : State :=
  (List.finRange 16).foldl (fun s b => if pick b then s.raise k (s.towardBed b) else s) s

/-! ### What an event shows the counters (chapter 11) -/

/-- One thing an event brings to the counters: a counted event with what it carries for the filters, or a
quantity (R185). -/
inductive Happening where
  | scanDone
  | scanOverrun
  | probeFault (bed : Option BedId)
  | moveEntered (port : PortId)
  | moveMerged (port : PortId)
  | moveGranted (crane : CraneId) (port : PortId)
  | offMode (crane : CraneId) (port : PortId)
  | moveRevoked (crane : CraneId) (port : PortId)
  | moveCompleted (crane : CraneId) (port : PortId)
  | modeSwitch
  | curtailment (bed : BedId)
  | powerWait (crane : CraneId)
  | frameReject (port : PortId)
  | requestRefused (port : PortId)
  | queuedMoves (n : Nat)
  | grantedHeat (perBed : Vector Nat 16)
  deriving DecidableEq, Repr

/-- An event under way: the state it has made so far and what it has brought to the counters. -/
structure Event where
  st : State
  seen : List Happening
  deriving DecidableEq, Repr

/-- An event that has brought nothing to the counters. -/
def State.event (s : State) : Event := ⟨s, []⟩

/-- The event with its state changed. -/
def Event.upd (e : Event) (f : State → State) : Event := { e with st := f e.st }

/-- The event with one more thing brought to the counters. -/
def Event.see (e : Event) (h : Happening) : Event := { e with seen := e.seen ++ [h] }

/-- What a happening adds to a counter of this selection and filter (R185, R186): 1 for a counted event
whose filter matches, the quantity for an accumulation, and 0 for no match. -/
def Happening.amount (h : Happening) (sel : Selection) (f : Filter) : Nat :=
  match sel, h with
  | .scanDone, .scanDone => if f = .any then 1 else 0
  | .scanOverrun, .scanOverrun => if f = .any then 1 else 0
  | .probeFault, .probeFault b => if f = .any ∨ b.map Filter.bed = some f then 1 else 0
  | .moveEntered, .moveEntered p => if f = .any ∨ f = .port p then 1 else 0
  | .moveMerged, .moveMerged p => if f = .any ∨ f = .port p then 1 else 0
  | .moveGranted, .moveGranted k p => if f = .any ∨ f = .crane k ∨ f = .port p then 1 else 0
  | .offMode, .offMode k p => if f = .any ∨ f = .crane k ∨ f = .port p then 1 else 0
  | .moveRevoked, .moveRevoked k p => if f = .any ∨ f = .crane k ∨ f = .port p then 1 else 0
  | .moveCompleted, .moveCompleted k p => if f = .any ∨ f = .crane k ∨ f = .port p then 1 else 0
  | .modeSwitch, .modeSwitch => if f = .any then 1 else 0
  | .curtailment, .curtailment b => if f = .any ∨ f = .bed b then 1 else 0
  | .powerWait, .powerWait k => if f = .any ∨ f = .crane k then 1 else 0
  | .frameReject, .frameReject p => if f = .any ∨ f = .port p then 1 else 0
  | .requestRefused, .requestRefused p => if f = .any ∨ f = .port p then 1 else 0
  | .queuedMoves, .queuedMoves n => if f = .any then n else 0
  | .grantedHeat, .grantedHeat v =>
      match f with
      | .any => total v
      | .bed b => v[b]
      | .crane _ => 0
      | .port _ => 0
  | _, _ => 0

/-- All that an event's happenings add to a counter. -/
def Counter.gain (c : Counter) (hs : List Happening) : Nat :=
  (hs.map fun h => h.amount c.selection c.filter).sum

/-- The true sum of a counter's value and its gain exceeds 4,294,967,295 (R186). -/
def Counter.wraps (c : Counter) (hs : List Happening) : Bool :=
  2 ^ 32 ≤ c.value.toNat + c.gain hs

/-- A counter after an event's additions: the sum modulo 2^32, the overflow flag set by a wrap (R186). -/
def Counter.add (hs : List Happening) (c : Counter) : Counter :=
  { c with
    value := c.value + BitVec.ofNat 32 (c.gain hs)
    overflow := c.overflow || c.wraps hs }

/-- The end of an event: unless frozen, every counter takes the event's amounts; then a wrap of a
freeze-enabled counter sets the frozen flag and raises COUNTER_OVERFLOW, once (R186, R187). -/
def Event.close (e : Event) : State :=
  if e.st.counters.frozen then e.st
  else
    let froze := e.st.counters.counters.toList.any fun c => c.freezeEnable && c.wraps e.seen
    let bank : CounterBank := ⟨onEach (fun _ c => c.add e.seen) e.st.counters.counters, froze⟩
    ({ e.st with counters := bank } : State).raiseIf froze .counterOverflow

/-! ### Taking a request (R177) -/

/-- A request taken: the event it makes, its result and what its answer carries. -/
structure Taken where
  event : Event
  result : Result
  answer : Answer
  deriving DecidableEq, Repr

/-- A refusal with an empty body: nothing changes (R177). -/
def refuse (s : State) (r : Result) : Taken := ⟨s.event, r, .empty⟩

/-- A refusal whose rule names a figure it carries. -/
def refuseWith (s : State) (r : Result) (a : Answer) : Taken := ⟨s.event, r, a⟩

/-- OK with a changed state. -/
def accept (s : State) (a : Answer) : Taken := ⟨s.event, .ok, a⟩

/-- OK at the end of an event. -/
def acceptEvent (e : Event) (a : Answer) : Taken := ⟨e, .ok, a⟩

/-- The result codes (section 10.6). -/
def Result.code : Result → Byte
  | .ok => 0x00 | .merged => 0x01 | .repeated => 0x02 | .diverted => 0x03 | .noWork => 0x04
  | .unknownKind => 0x05
  | .notPermitted => 0x10 | .notBound => 0x11 | .notReady => 0x12 | .badLength => 0x13
  | .badValue => 0x14 | .wrongState => 0x15 | .busy => 0x16 | .busyScan => 0x17 | .noSuch => 0x18
  | .duplicate => 0x19 | .full => 0x1A | .noCredit => 0x1B | .inMotion => 0x1C | .tooLate => 0x1D
  | .notTop => 0x1E | .noRoom => 0x1F | .held => 0x20 | .tooWarm => 0x21 | .noAmbient => 0x22
  | .blind => 0x23

/-- The results that are refusals: UNKNOWN_KIND and every code from 0x10 (section 10.6). -/
def Result.isRefusal (r : Result) : Bool := r == .unknownKind || 0x10 ≤ r.code.toNat

/-- The port is sending: from the taking of a request until its response has left (R175). -/
def Transmit.sending : Transmit → Bool
  | .idle => false
  | .formed _ => true
  | .begun _ => true

/-- The greatest reject or overrun tally (R174). -/
def maxTally : Nat := 65535

/-- A tally that gains 1, saturating. -/
def gainTally (n : Nat) : Nat := min (n + 1) maxTally

/-- A good frame arrives while the port is sending: the overrun tally gains 1 (R175). -/
def overrunAt (p : PortId) (s : State) : State :=
  s.modPort p fun x => { x with overruns := gainTally x.overruns }

/-- The response of a taken request is formed, a refusal is seen by the counters, and the event ends
(R175, R177). -/
def respond (p : PortId) (tag kind : Byte) (t : Taken) : State :=
  let e := t.event.upd fun s =>
    s.modPort p fun x => { x with tx := .formed ⟨tag, kind, t.result, t.answer⟩ }
  (if t.result.isRefusal then e.see (.requestRefused p) else e).close

/-- A good frame at a port: an OFF port takes no byte (R173), a sending port loses the request to its
overrun tally, and otherwise the request is taken and answered (R175). -/
def arrive (p : PortId) (tag kind : Byte) (take : State → Taken) (s : State) : State :=
  if (s.port p).role = .off then s
  else if (s.port p).tx.sending then overrunAt p s
  else respond p tag kind (take s)

/-- The roles column of the catalogue (section 10.6). -/
inductive Roles where
  | any | office | officeBedside | crane
  deriving DecidableEq, Repr

/-- The catalogue's roles for a kind (section 10.6). REQUEST_MOVE's own rule narrows BEDSIDE to STRIP. -/
def requestRoles : RequestKind → Roles
  | .readClock | .readMap | .readProbe | .readScan | .readProfile | .readBudget | .readBed
  | .readPiece | .readStack | .readMove | .readCrane | .readAlerts | .setAlertMask
  | .freezeBeds | .unfreeze | .readPort | .readCounters => .any
  | .bedSet | .cancelSet | .pourStart | .pourEnd | .detensionRequest | .detensionDone
  | .requestMove | .cancelMove => .officeBedside
  | .nextMove | .lifted | .placed | .abortMove => .crane
  | .setClock | .defineBed | .defineStack | .setStackOpen | .loadCrane | .defineClass | .setLimits
  | .setConfig | .loadPiece | .loadBedState | .commit | .defineProbe | .clearProbeTally | .scanNow
  | .abortScan | .setProfile | .abandonBed | .setHold | .clearHold | .deletePiece | .shipDispatch
  | .setMode | .setCounter | .unfreezeCounters | .clearOverflow | .resetCounters
  | .resetCounterSelect => .office

/-- The role is among the roles (R177, step 4). -/
def Roles.permits (q : Roles) (r : Role) : Bool :=
  match q, r with
  | _, .off => false
  | .any, _ => true
  | .office, .office => true
  | .officeBedside, .office => true
  | .officeBedside, .bedside => true
  | .crane, .crane => true
  | _, _ => false

/-- The kinds refused with NOT_READY in LOADING whatever the port's role: the bed requests, the entry and
cancellation of moves (R12), and the crane's requests (R148, R159, R171; notes/assumptions/7.md). -/
def needsRunning : RequestKind → Bool
  | .bedSet | .cancelSet | .pourStart | .pourEnd | .detensionRequest | .detensionDone
  | .abandonBed | .requestMove | .cancelMove | .nextMove | .lifted | .placed | .abortMove => true
  | _ => false

/-- Steps 3 and 4 of R177: the refusal of a request by the controller state or the port's role. -/
def barred (k : RequestKind) (r : Role) (c : Ctl) : Option Result :=
  if c = .loading ∧ (needsRunning k ∨ (r = .crane ∧ requestRoles k ≠ .any)) then some .notReady
  else if ¬ (requestRoles k).permits r then some .notPermitted
  else none

/-- Steps 3, 4 and 6 of R177 for a port: the state and role checks, then the request's own rule. -/
def screened (p : PortId) (k : RequestKind) (rule : State → Taken) (s : State) : Taken :=
  match barred k (s.port p).role s.ctl with
  | some r => refuse s r
  | none => rule s

/-- A request of a kind at a port, taken by its own rule. -/
def serve (p : PortId) (tag : Byte) (k : RequestKind) (rule : State → Taken) (s : State) : State :=
  arrive p tag k.code (screened p k rule) s

end Sys2Proof.Machine
end

