-- ==== Sys2Proof/Machine/Operands.lean ====
section
/-! DEFINITION. The operand forms of the requests: the codes of section 10.6 read as what they stand for,
and the ranges the chapters give for each figure. -/

namespace Sys2Proof.Machine

/-- A flag byte: 0 clear, 1 set (section 10.6). -/
def flag? : Nat → Option Bool
  | 0 => some false
  | 1 => some true
  | _ => none

/-- An optional field: its presence byte and its bytes. A presence byte that is no flag gives nothing; the
bytes of an absent field are not judged. -/
def optional? (given x : Nat) : Option (Option Nat) :=
  (flag? given).map fun g => if g then some x else none

/-- What a definition request does with its slot: define it, or remove what it holds. -/
inductive Action where
  | define | remove
  deriving DecidableEq, Repr

/-- An action byte: 0 define or enrol, 1 remove or withdraw. -/
def action? : Nat → Option Action
  | 0 => some .define
  | 1 => some .remove
  | _ => none

/-- A stack kind code. -/
def stackKind? : Nat → Option StackKind
  | 0 => some .stock
  | 1 => some .dispatch
  | _ => none

/-- A move kind code. -/
def moveKind? : Nat → Option MoveKind
  | 0 => some .strip
  | 1 => some .restack
  | 2 => some .load
  | 3 => some .ret
  | _ => none

/-- A service mode code. -/
def serviceMode? : Nat → Option ServiceMode
  | 0 => some .strip
  | 1 => some .dispatch
  | _ => none

/-- A cycle state code. -/
def cycleState? : Nat → Option CycleState
  | 0 => some .empty
  | 1 => some .set
  | 2 => some .casting
  | 3 => some .curing
  | 4 => some .releasable
  | 5 => some .detensioning
  | 6 => some .stripping
  | _ => none

/-- A phase code. -/
def phase? : Nat → Option Phase
  | 0 => some .off
  | 1 => some .preset
  | 2 => some .ramp
  | 3 => some .hold
  | 4 => some .cool
  | _ => none

/-- A bound port of a bed: 0 to 3, or 0xFF for none. -/
def boundPort? (n : Nat) : Option (Option PortId) :=
  if n = 255 then some none else (slot? 4 n).map some

/-- A probe assignment: 0 NONE, 1 BED with its bed number, 2 YARD. The bed number of another assignment
is not judged (notes/assumptions/11.md). -/
def assignment? (code bed : Nat) : Option Assignment :=
  match code with
  | 0 => some .unassigned
  | 1 => (slot? 16 bed).map .bed
  | 2 => some .yard
  | _ => none

/-- A selection number (R185). -/
def selection? : Nat → Option Selection
  | 0 => some .nothing
  | 1 => some .scanDone
  | 2 => some .scanOverrun
  | 3 => some .probeFault
  | 4 => some .moveEntered
  | 5 => some .moveMerged
  | 6 => some .moveGranted
  | 7 => some .offMode
  | 8 => some .moveRevoked
  | 9 => some .moveCompleted
  | 10 => some .modeSwitch
  | 11 => some .curtailment
  | 12 => some .powerWait
  | 13 => some .frameReject
  | 14 => some .requestRefused
  | 15 => some .queuedMoves
  | 16 => some .grantedHeat
  | _ => none

/-- A filter: 0 any, 1 bed, 2 crane, 3 port, with its number; the number of any is not judged. -/
def filter? (kind number : Nat) : Option Filter :=
  match kind with
  | 0 => some .any
  | 1 => (slot? 16 number).map .bed
  | 2 => (slot? 4 number).map .crane
  | 3 => (slot? 4 number).map .port
  | _ => none

/-- The filters a selection carries (the table of R185); selection none carries only any
(notes/assumptions/12.md). -/
def Selection.carries (sel : Selection) (f : Filter) : Bool :=
  match f with
  | .any => true
  | .bed _ => sel == .probeFault || sel == .curtailment || sel == .grantedHeat
  | .crane _ =>
      sel == .moveGranted || sel == .offMode || sel == .moveRevoked || sel == .moveCompleted
        || sel == .powerWait
  | .port _ =>
      sel == .moveEntered || sel == .moveMerged || sel == .moveGranted || sel == .offMode
        || sel == .moveRevoked || sel == .moveCompleted || sel == .frameReject
        || sel == .requestRefused

/-- A number in a closed range. -/
def between (lo hi n : Nat) : Bool := lo ≤ n && n ≤ hi

/-- A signed number in a closed range. -/
def betweenI (lo hi n : Int) : Bool := lo ≤ n && n ≤ hi

/-- A piece id, 1 to 65535 (R118). -/
def idInRange (n : Nat) : Bool := between 1 65535 n

/-- The ranges of a piece entry: id, class 0 to 31 and mass 1 to 1000 (R14, R102). -/
def entryInRange (x : PieceEntry) : Bool := idInRange x.id && x.cls < 32 && between 1 1000 x.mass

/-- The ranges of a profile's figures, and the ceiling above the hold temperature (R59, R60). -/
def profileInRange (q : Profile) : Bool :=
  q.preset ≤ 600 && between 10 300 q.rampRate && between 300 750 q.holdTemp
    && between 10 300 q.coolRate && between 5 50 q.bandLow && between 5 50 q.bandHigh
    && between 1 250 q.step && between 500 850 q.ceiling && q.holdTemp < q.ceiling

/-- The ranges of a class's figures (section 1.5). -/
def classInRange (c : ProductClass) : Bool :=
  c.stripTarget ≤ 5000 && c.stripAge ≤ 4320 && c.shipTarget ≤ 30000 && c.shipAge ≤ 2000

/-- Bit `n` of a mask. -/
def inMask (mask n : Nat) : Bool := mask.testBit n

/-- No number twice in the list. -/
def noRepeat : List Nat → Bool
  | [] => true
  | x :: rest => !rest.contains x && noRepeat rest

/-- Every entry's class is defined in the Yard Map (R14, R102). -/
def classesDefined (s : State) (es : List PieceEntry) : Bool :=
  es.all fun x => match slot? 32 x.cls with
    | none => false
    | some c => s.classes[c].isSome

/-- No entry's id is registered, and none stands twice in the list (R14, R102). -/
def idsFree (s : State) (es : List PieceEntry) : Bool :=
  noRepeat (es.map fun x => x.id) && es.all fun x => (s.piece x.id).isNone

/-- At least this many piece records are free (R121). -/
def recordsFree (s : State) (n : Nat) : Bool := s.pieces.length + n ≤ maxPieces

end Sys2Proof.Machine
end

