-- ==== Sys2Proof/Machine/Flags.lean ====
section
/-! DEFINITION. The flags the specification computes: the alert lines, the frost, overheat and curtailed
flags of a bed, the gap of an accounting period and ship readiness. -/

namespace Sys2Proof.Machine

/-- A port's alert line: its pending set holds a kind its mask enables (R179). -/
def Port.lineActive (x : Port) : Bool := x.alerts &&& x.mask != 0

/-- The alert line of a port. -/
def State.alertLine (s : State) (p : PortId) : Bool := (s.port p).lineActive

/-- The frost flag after a judgement of the coldest reading (R70). -/
def frostAfter (on off tmin : Int) (flag : Bool) : Bool :=
  if flag then !decide (off ≤ tmin) else decide (tmin ≤ on)

/-- The overheat flag after a judgement of the warmest reading (R71). -/
def overheatAfter (ceiling tmax : Int) (flag : Bool) : Bool :=
  if flag then !decide (tmax ≤ ceiling - 20) else decide (ceiling ≤ tmax)

/-- The requested demand outside BLIND (R72). -/
def demandOf (frost overheat : Bool) (base guard : Nat) : Nat :=
  if overheat then 0 else if frost then max base guard else base

/-- The longest accounting period, in minutes (R44). -/
def maxPeriod : Int := 60

/-- The accounting period is cut to the cap (R44). -/
def periodCut (now : Int) (last : Option Int) : Bool :=
  match last with
  | none => false
  | some m => decide (maxPeriod < now - m)

/-- The accounting period in minutes, bounded to 0 to 60 (R44). -/
def period (now : Int) (last : Option Int) : Nat :=
  match last with
  | none => 0
  | some m => (min (now - m) maxPeriod).toNat

/-- A count meets a target of whole °C·h (R41). -/
def meetsTarget (count target : Nat) : Bool := 600 * target ≤ count

/-- A count and an age meet a piece's ship figures (R51). -/
def readyToShip (count : Nat) (age : Int) (shipTarget shipAge : Nat) : Bool :=
  meetsTarget count shipTarget && decide (60 * (shipAge : Int) ≤ age)

/-- A bed is in the guard set (R80). -/
def Bed.guarded (x : Bed) : Bool := x.heat.frost && !x.heat.overheat && 0 < x.defn.guard

end Sys2Proof.Machine
end

