-- ==== Sys2Proof/Machine/Budget.lean ====
section
/-! DEFINITION. The Feeder Budget Unit (chapter 5): the figures of the budget, the allocation, the power
check, the heat output link, the SHED edges and READ_BUDGET. -/

namespace Sys2Proof.Machine

/-! ### The figures (R80) -/

/-- E, the effective limit. -/
def State.effectiveLimit (s : State) : Nat :=
  if s.budget.shed then s.limits.shedLimit else s.limits.limit

/-- The rating a crane's reservation holds. -/
def Crane.reserved (c : Crane) : Nat :=
  match c.reservation with
  | none => 0
  | some r => r.rating

/-- ΣC, the sum of the ratings of the reservations present. -/
def State.reservedSum (s : State) : Nat := total (onEach (fun _ c => c.reserved) s.cranes)

/-- H, the heat budget, E − B − ΣC. -/
def State.heatBudget (s : State) : Int :=
  (s.effectiveLimit : Int) - s.limits.baseLoad - s.reservedSum

/-- The guard kW of each bed of the guard set G, and 0 for every other slot. -/
def State.guards (s : State) : Vector Nat 16 :=
  onEach (fun _ ob => match ob with
    | none => 0
    | some x => if x.guarded then x.defn.guard else 0) s.beds

/-- Σg, the sum of the guard kW of the guard set. -/
def State.guardSum (s : State) : Nat := total s.guards

/-- A crane of this rating passes the power check: its rating is at most H − Σg (R90). -/
def State.powerFits (s : State) (rating : Nat) : Bool :=
  decide ((rating : Int) ≤ s.heatBudget - s.guardSum)

/-! ### The allocation (R85 to R88) -/

/-- The demand a slot brings to the allocation: 0 for a slot not defined and a bed in EMPTY or SET (R74). -/
def slotDemand (ob : Option Bed) : Nat :=
  match ob with
  | none => 0
  | some x =>
      match x.cycle.state with
      | .empty => 0
      | .set => 0
      | _ => x.heat.requested

/-- A table of shares scaled to fit `budget`, each truncated, when its sum exceeds it (R85, R86). -/
def scaled (v : Vector Nat 16) (budget : Nat) : Vector Nat 16 :=
  if total v ≤ budget then v else onEach (fun _ x => x * budget / total v) v

/-- What each slot asks for beyond its pass-1 amount (R86). -/
def extras (demand pass1 : Vector Nat 16) : Vector Nat 16 :=
  onEach (fun b d => d - pass1[b]) demand

/-- The granted heat of each slot: the guard pass and the proportional pass (R85, R86). -/
def grants (guards demand : Vector Nat 16) (budget : Nat) : Vector Nat 16 :=
  let pass1 := scaled guards budget
  let pass2 := scaled (extras demand pass1) (budget - total pass1)
  onEach (fun b g => g + pass2[b]) pass1

/-- The granted heat an allocation gives in this state. -/
def State.allotment (s : State) : Vector Nat 16 :=
  grants s.guards (onEach (fun _ ob => slotDemand ob) s.beds) s.heatBudget.toNat

/-- The output level of a slot granted this heat (R88). -/
def outputLevel (ob : Option Bed) (granted : Nat) : Nat :=
  match ob with
  | none => 0
  | some x => 255 * granted / x.defn.rated

/-- A bed with its curtailed flag written for this grant (R75, R87). -/
def Bed.markCurtailed (granted : Nat) (x : Bed) : Bed :=
  { x with heat := { x.heat with curtailed := decide (granted < x.heat.requested) } }

/-- The link takes new levels: they start at once, or wait behind the update in progress (R88). -/
def Link.send (l : Link) (levels : Vector Nat 16) : Link :=
  match l.sending with
  | none => { l with sending := some levels }
  | some _ => { l with waiting := true }

/-- The beds that an allocation curtails, in slot order. -/
def State.curtailedBeds (s : State) : List BedId :=
  (s.definedBeds.filter fun x => x.2.heat.curtailed).map fun x => x.1

/-- The grants, the curtailed flags, the levels and the minute an allocation writes. -/
def State.writeAllocation (s : State) : State :=
  let granted := s.allotment
  let levels := onEach (fun b ob => outputLevel ob granted[b]) s.beds
  { s with
    beds := onEach (fun b ob => ob.map (Bed.markCurtailed granted[b])) s.beds
    budget :=
      { s.budget with
        granted := granted
        levels := levels
        lastAllocation := some s.now
        link := s.budget.link.send levels } }

/-- An allocation: all sixteen slots at once, CURTAILED raised once if any bed is curtailed, and each
curtailment and the granted heat seen by the counters (R84 to R88). -/
def allocate (e : Event) : Event :=
  let s := e.st.writeAllocation
  let short := s.curtailedBeds
  { st := s.raiseIf (!short.isEmpty) .curtailed
    seen := e.seen ++ short.map .curtailment ++ [.grantedHeat s.budget.granted] }

/-- An allocation in RUNNING; in LOADING none is taken (R12, R84). -/
def allocateRunning (e : Event) : Event :=
  match e.st.ctl with
  | .loading => e
  | .running => allocate e

/-! ### Commands -/

/-- A SHED edge: the flag takes the new level, SHED_CHANGE is raised, and in RUNNING an allocation is
taken (R81). -/
def shedEdge (level : Bool) (s : State) : State :=
  let s1 : State := { s with budget := { s.budget with shed := level } }
  (allocateRunning (s1.raise .shedChange .everyPort).event).close

/-- SHED_ASSERTION (R81). -/
def execShedAssertion (s : State) : Host.Outcome State Fault Refusal :=
  .next (shedEdge true s)

/-- SHED_DEASSERTION (R81). -/
def execShedDeassertion (s : State) : Host.Outcome State Fault Refusal :=
  .next (shedEdge false s)

/-- The link when its update completes: the panels hold the levels sent, and the latest levels follow if
others superseded them meanwhile (R88). With no update in progress nothing completes. -/
def Link.finish (l : Link) (latest : Vector Nat 16) : Link :=
  match l.sending with
  | none => l
  | some v => { sending := if l.waiting then some latest else none, waiting := false, panels := v }

/-- LINK_UPDATE_DONE (R88). -/
def execLinkUpdateDone (s : State) : Host.Outcome State Fault Refusal :=
  .next { s with
    budget := { s.budget with link := s.budget.link.finish s.budget.levels } }

/-- The figures READ_BUDGET answers with, all formed at the read (R93). -/
def State.budgetReport (s : State) : BudgetReport where
  limits := s.limits
  shed := s.budget.shed
  effective := s.effectiveLimit
  reserved := s.reservedSum
  heatBudget := s.heatBudget
  guards := s.guardSum
  spare := s.heatBudget - s.guardSum
  reservations := onEach (fun _ c => c.reservation) s.cranes
  beds := onEach (fun b ob =>
    { requested := (ob.map fun x => x.heat.requested).getD 0
      granted := s.budget.granted[b]
      level := s.budget.levels[b]
      curtailed := (ob.map fun x => x.heat.curtailed).getD false
      guarded := (ob.map Bed.guarded).getD false }) s.beds
  lastAllocation := s.budget.lastAllocation.map s.stamp

/-- The rule of READ_BUDGET (R93). -/
def takeReadBudget (s : State) : Taken := accept s (.budget s.budgetReport)

/-- READ_BUDGET (R93). -/
def execReadBudget (p : PortId) (tag : Byte) (s : State) : Host.Outcome State Fault Refusal :=
  .next (serve p tag .readBudget takeReadBudget s)

end Sys2Proof.Machine
end

