-- ==== Sys2Proof/Machine/Maturity.lean ====
section
/-! DEFINITION. The Maturity Unit (chapter 3): accounting at a scan result, the maturity a piece reports,
and ship readiness. -/

namespace Sys2Proof.Machine

/-- The greatest maturity count; counts saturate there (R41). -/
def maxCount : Nat := 4294967295

/-- A bed's maturity record in EMPTY, SET and CASTING (R42). -/
def Maturity.none : Maturity := ⟨0, Option.none, false, 0⟩

/-- The cycle states whose beds are accounted (R42, R43). -/
def CycleState.accounted : CycleState → Bool
  | .curing => true
  | .releasable => true
  | .detensioning => true
  | .stripping => true
  | .empty => false
  | .set => false
  | .casting => false

/-- The temperature a record is accounted with: the aggregate's, or the datum when it is BLIND, clamped to
the datum and the maturity ceiling (R45, R48). -/
def accountTemp (datum ceiling : Int) (status : AggStatus) (temp : Option Int) : Int :=
  let t :=
    match status with
    | .blind => datum
    | .live => temp.getD datum
    | .held => temp.getD datum
  max datum (min t ceiling)

/-- The contribution of a period at a temperature (R46). -/
def contribution (datum tm : Int) (minutes : Nat) : Nat := ((tm - datum) * minutes).toNat

/-- A count with a contribution added, saturating (R41, R46). -/
def addCount (count more : Nat) : Nat := min (count + more) maxCount

/-- The accounting period a scan result forms for a bed; 0 for a bed that is not accounted (R43, R44). -/
def bedPeriod (now : Int) (ob : Option Bed) : Nat :=
  match ob with
  | none => 0
  | some x => if x.cycle.state.accounted then period now x.maturity.last else 0

/-- A bed's maturity record after its accounting (R43 to R46). -/
def Bed.account (now datum ceiling : Int) (x : Bed) : Bed :=
  if x.cycle.state.accounted then
    let m := x.maturity
    let cut := periodCut now m.last
    let tm := accountTemp datum ceiling x.agg.status x.agg.tmin
    { x with
      maturity :=
        { count := addCount m.count (contribution datum tm (period now m.last))
          last := some now
          gap := m.gap || cut
          gapCount := if cut then min (m.gapCount + 1) 255 else m.gapCount } }
  else x

/-- The piece states accounted on the piece's own record (R43, R48). -/
def PieceState.accounted : PieceState → Bool
  | .stocked => true
  | .dispatchStaged => true
  | .inTransit => true
  | .onBed => false
  | .strippable => false
  | .scrap => false

/-- A piece's maturity record after its accounting at the yard temperature (R48). -/
def Piece.account (now datum ceiling : Int) (yard : YardAggregate) (x : Piece) : Piece :=
  if x.state.accounted then
    let tm := accountTemp datum ceiling yard.status yard.temp
    { x with
      count := addCount x.count (contribution datum tm (period now x.last))
      last := some now
      gap := x.gap || periodCut now x.last }
  else x

/-- The accounting of a scan result: every bed and every piece off the beds (R43). -/
def accountAll (s : State) : State :=
  let c := s.settings
  { s with
    beds := onEach (fun _ ob => ob.map (Bed.account s.now c.datum c.maturityCeiling)) s.beds
    pieces := s.pieces.map (Piece.account s.now c.datum c.maturityCeiling s.scan.yard) }

/-- The piece stands on a bed and has its bed's maturity (R49). -/
def Piece.curedOn (x : Piece) : Option BedId :=
  match x.state, x.location with
  | .onBed, .bed b => some b
  | .strippable, .bed b => some b
  | _, _ => none

/-- The maturity a piece reports and is judged by: its bed's while it is cured on the bed, and its own
otherwise (R49, R51). -/
def State.maturityOf (s : State) (x : Piece) : Maturity :=
  match x.curedOn with
  | none => ⟨x.count, x.last, x.gap, 0⟩
  | some b => ((s.bed b).map fun y => y.maturity).getD Maturity.none

/-- A piece becomes SHIP_READY at this scan result (R52). -/
def State.becomesReady (s : State) (x : Piece) : Bool :=
  !x.shipReady && x.state != .scrap
    && readyToShip (s.maturityOf x).count (s.now - x.castMinute) x.shipTarget x.shipAge

/-- The ship readiness evaluation of a scan result: each piece found ready has its flag set, and
SHIP_READY is raised if there is one (R52). -/
def evaluateShip (s : State) : State :=
  ({ s with
    pieces := s.pieces.map fun x => { x with shipReady := x.shipReady || s.becomesReady x } }
    : State).raiseIf (s.pieces.any s.becomesReady) .shipReady

end Sys2Proof.Machine
end

