-- ==== Sys2Proof/Machine/Heat.lean ====
section
/-! DEFINITION. The Heat Regulator (chapter 4): the phase steps and the setpoint, base demand, the frost and
overheat guards, requested demand, regulation at a scan result, SET_PROFILE and READ_PROFILE. -/

namespace Sys2Proof.Machine

/-- The regulation record of a bed in EMPTY or SET, without a working profile (R62, R68). -/
def Regulation.idle : Regulation :=
  ⟨none, .off, none, 0, 0, 0, false, false, false⟩

/-- The cycle states whose beds are regulated (R63). -/
def CycleState.regulated : CycleState → Bool
  | .casting => true
  | .curing => true
  | .releasable => true
  | .detensioning => true
  | .stripping => true
  | .empty => false
  | .set => false

/-- What the regulation of one bed reads beside its record (R63). -/
structure HeatInput where
  now : Int
  minutes : Nat
  yardTemp : Option Int
  datum : Int
  frostOn : Int
  frostOff : Int
  deriving DecidableEq, Repr

/-- The yard temperature that ends COOL: absent while the yard aggregate is BLIND (R67). -/
def YardAggregate.usable (y : YardAggregate) : Option Int :=
  match y.status with
  | .blind => none
  | .live => y.temp
  | .held => y.temp

/-- On leaving PRESET: RAMP from the bed's Tmax, or HOLD when that is at or above the hold temperature
(R65). -/
def leavePreset (q : Profile) (tmax : Int) (g : Regulation) : Regulation :=
  if (q.holdTemp : Int) ≤ tmax then
    { g with phase := .hold, setpoint := some q.holdTemp, carry := 0 }
  else { g with phase := .ramp, setpoint := some tmax, carry := 0 }

/-- A setpoint advance in RAMP, entering HOLD at the hold temperature (R66). -/
def advance (q : Profile) (minutes : Nat) (g : Regulation) : Regulation :=
  let sixtieths := q.rampRate * minutes + g.carry
  let next := g.setpoint.map fun t : Int => t + ((sixtieths / 60 : Nat) : Int)
  if next.any fun t => (q.holdTemp : Int) ≤ t then
    { g with phase := .hold, setpoint := some q.holdTemp, carry := 0 }
  else { g with setpoint := next, carry := sixtieths % 60 }

/-- A setpoint ends COOL at or below the yard temperature of the result, or at or below 0 under a BLIND yard
(R67). There a datum above 0 ends it as well, which is how a change of the datum acts on the end of COOL (R54;
notes/assumptions/13.md). -/
def endsCool (yardTemp : Option Int) (datum t : Int) : Bool :=
  match yardTemp with
  | some y => decide (t ≤ y)
  | none => decide (t ≤ 0) || decide (t ≤ datum)

/-- A setpoint descent in COOL, entering OFF when the setpoint ends COOL (R67). -/
def descend (q : Profile) (minutes : Nat) (yardTemp : Option Int) (datum : Int) (g : Regulation) :
    Regulation :=
  let sixtieths := q.coolRate * minutes + g.carry
  let next := g.setpoint.map fun t : Int => max (-400) (t - ((sixtieths / 60 : Nat) : Int))
  if next.any fun t => endsCool yardTemp datum t then
    { g with phase := .off, setpoint := next, carry := 0 }
  else { g with setpoint := next, carry := sixtieths % 60 }

/-- The phase steps of a bed (section 4.4). A BLIND bed does not leave PRESET (R65, R73). -/
def stepPhase (i : HeatInput) (q : Profile) (pourEnd : Int) (agg : Aggregate) (g : Regulation) :
    Regulation :=
  match g.phase with
  | .off => g
  | .hold => g
  | .preset =>
      if agg.status ≠ .blind ∧ (q.preset : Int) ≤ i.now - pourEnd then
        leavePreset q (agg.tmax.getD 0) g
      else g
  | .ramp => advance q i.minutes g
  | .cool => descend q i.minutes i.yardTemp i.datum g

/-- The base demand of a bed that is not BLIND, by the phase its steps leave (R69). -/
def formBase (q : Profile) (rated : Nat) (tmax : Int) (g : Regulation) : Nat :=
  match g.phase with
  | .off => 0
  | .preset => 0
  | _ =>
      let e := g.setpoint.getD 0 - tmax
      if (q.bandLow : Int) ≤ e then
        if g.curtailed then g.base else min rated (g.base + q.step)
      else if e ≤ -(q.bandHigh : Int) then g.base - q.step
      else g.base

/-- The base demand of a BLIND bed (R73). -/
def blindBase (g : Regulation) : Nat :=
  match g.phase with
  | .off => 0
  | .preset => 0
  | _ => g.base

/-- The regulation record of a regulated bed after a scan result (R63 to R73). `stored` is the slot's stored
profile, used where the bed has no working profile: the ceiling of a bed in CASTING (R71). -/
def regulate (i : HeatInput) (stored : Profile) (x : Bed) : Regulation :=
  let q := x.heat.working.getD stored
  let pourEnd := (x.cycle.figures.map fun f => f.pourEnd).getD i.now
  let g := stepPhase i q pourEnd x.agg x.heat
  match x.agg.status with
  | .blind =>
      { g with
        base := blindBase g
        requested := if g.overheat then 0 else x.defn.guard }
  | _ =>
      let tmin := x.agg.tmin.getD 0
      let tmax := x.agg.tmax.getD 0
      let base := formBase q x.defn.rated tmax g
      let frost := frostAfter i.frostOn i.frostOff tmin g.frost
      let overheat := overheatAfter q.ceiling tmax g.overheat
      { g with
        base := base
        frost := frost
        overheat := overheat
        requested := demandOf frost overheat base x.defn.guard }

/-- A bed after the regulation of a scan result; a bed in EMPTY or SET is not regulated (R63). -/
def Bed.regulate (i : HeatInput) (stored : Profile) (x : Bed) : Bed :=
  if x.cycle.state.regulated then { x with heat := Machine.regulate i stored x } else x

/-- The regulation's input for a bed slot, with the accounting period formed for it (R63). -/
def State.heatInput (s : State) (minutes : Nat) : HeatInput :=
  ⟨s.now, minutes, s.scan.yard.usable, s.settings.datum, s.settings.frostOn, s.settings.frostOff⟩

/-- A flag of a bed's regulation record, clear for an undefined slot. -/
def State.heatFlag (s : State) (f : Regulation → Bool) (b : BedId) : Bool :=
  ((s.bed b).map fun x => f x.heat).getD false

/-- The regulation of every bed at a scan result, with FROST and OVERHEAT raised on entry (R63, R70,
R71). -/
def regulateAll (minutes : Vector Nat 16) (s : State) : State :=
  let s1 : State :=
    { s with
      beds := onEach (fun b ob =>
        ob.map (Bed.regulate (s.heatInput minutes[b]) s.profiles[b])) s.beds }
  let entered (f : Regulation → Bool) (b : BedId) : Bool := !s.heatFlag f b && s1.heatFlag f b
  (s1.raiseBeds .frost (entered fun g => g.frost)).raiseBeds .overheat (entered fun g => g.overheat)

/-! ### Commands -/

/-- The rule of SET_PROFILE (R60). -/
def takeSetProfile (mask : Nat) (q : Profile) (s : State) : Taken :=
  if ¬ profileInRange q then refuse s .badValue
  else
    accept { s with profiles := onEach (fun b old => if inMask mask b then q else old) s.profiles }
      .empty

/-- SET_PROFILE (R60). -/
def execSetProfile (p : PortId) (tag : Byte) (mask : Nat) (q : Profile) (s : State) :
    Host.Outcome State Fault Refusal :=
  .next (serve p tag .setProfile (takeSetProfile mask q) s)

/-- The rule of READ_PROFILE (R61). -/
def takeReadProfile (bed : Nat) (s : State) : Taken :=
  match slot? 16 bed with
  | none => refuse s .badValue
  | some b => accept s (.profiles s.profiles[b] ((s.bed b).bind fun x => x.heat.working))

/-- READ_PROFILE (R61). -/
def execReadProfile (p : PortId) (tag : Byte) (bed : Nat) (s : State) :
    Host.Outcome State Fault Refusal :=
  .next (serve p tag .readProfile (takeReadProfile bed) s)

end Sys2Proof.Machine
end

