-- ==== Sys2Proof/Machine/Scan.lean ====
section
/-! DEFINITION. The Scan Unit (chapter 2): the probe table, the course of a scan, the conversion of a
reading, the aggregates, the delivery of the scan result with the release evaluation (R106, R107), and the
scan requests. -/

namespace Sys2Proof.Machine

/-! ### Aggregates (section 2.5) -/

/-- The status and held count of an aggregate formed without a usable probe, and whether it has just become
BLIND (R34, R36). -/
def unread (holdLimit : Nat) (status : AggStatus) (held : Nat) : AggStatus × Nat × Bool :=
  match status with
  | .blind => (.blind, held, false)
  | _ => if held < holdLimit then (.held, held + 1, false) else (.blind, held, true)

/-- The lowest of a list of readings. -/
def lowest : List Int → Option Int
  | [] => none
  | t :: rest => some (rest.foldl min t)

/-- The highest of a list of readings. -/
def highest : List Int → Option Int
  | [] => none
  | t :: rest => some (rest.foldl max t)

/-- The readings of the usable probes with an assignment: VALID with the read mark set (R34). -/
def State.usable (s : State) (a : Assignment) : List Int :=
  s.scan.probes.toList.filterMap fun q =>
    if q.assignment = a ∧ q.readState = .valid ∧ q.mark then q.reading else none

/-- A bed's aggregate formed from the readings of its usable probes (R34, R35). -/
def Aggregate.form (holdLimit : Nat) (number : Word32) (readings : List Int) (a : Aggregate) :
    Aggregate :=
  match lowest readings, highest readings with
  | some lo, some hi => ⟨some lo, some hi, .live, 0, number⟩
  | _, _ =>
      let u := unread holdLimit a.status a.held
      { a with status := u.1, held := u.2.1, scanNumber := number }

/-- The yard aggregate formed from the readings of the usable YARD probes (R36). -/
def YardAggregate.form (holdLimit : Nat) (readings : List Int) (a : YardAggregate) : YardAggregate :=
  match lowest readings with
  | some lo => ⟨some lo, .live, 0⟩
  | none =>
      let u := unread holdLimit a.status a.held
      { a with status := u.1, held := u.2.1 }

/-- A bed's aggregate is BLIND; false for an undefined slot. -/
def State.bedBlind (s : State) (b : BedId) : Bool :=
  ((s.bed b).map fun x => x.agg.status == .blind).getD false

/-- The aggregates of every defined bed and of the yard, with BED_BLIND and YARD_BLIND raised for those that
have just become BLIND (R34, R36). -/
def formAggregates (s : State) : State :=
  let hold := s.settings.holdLimit
  let s1 : State :=
    { s with
      beds := onEach (fun b ob => ob.map fun x =>
        { x with agg := x.agg.form hold s.scan.number (s.usable (.bed b)) }) s.beds
      scan := { s.scan with yard := s.scan.yard.form hold (s.usable .yard) } }
  (s1.raiseBeds .bedBlind fun b => !s.bedBlind b && s1.bedBlind b).raiseIf
    (s.scan.yard.status != .blind && s1.scan.yard.status == .blind) .yardBlind

/-! ### Release (section 6.4) -/

/-- A CURING bed is ripe for release (R106). -/
def Bed.ripe (now : Int) (x : Bed) : Bool :=
  x.cycle.state == .curing
    && x.cycle.figures.any fun f =>
        meetsTarget x.maturity.count f.target && decide ((f.minAge : Int) ≤ now - f.pourEnd)

/-- A bed after the release evaluation: a ripe bed becomes RELEASABLE in COOL (R107, R67). -/
def Bed.release (now : Int) (x : Bed) : Bed :=
  if x.ripe now then
    { x with
      cycle := { x.cycle with state := .releasable, release := some now }
      heat := { x.heat with phase := .cool, carry := 0 } }
  else x

/-- The release evaluation of a scan result, with BED_RELEASABLE raised for each bed released (R107). -/
def evaluateRelease (s : State) : State :=
  ({ s with beds := onEach (fun _ ob => ob.map (Bed.release s.now)) s.beds } : State).raiseBeds
    .bedReleasable fun b => ((s.bed b).map (Bed.ripe s.now)).getD false

/-! ### The scan result (section 2.6) -/

/-- The work a scan result does in RUNNING: accounting, ship readiness, release, regulation and the
allocation, in that order (R37, R43, R52, R63, R84, R107). -/
def takeUp (e : Event) : Event :=
  let minutes := onEach (fun _ ob => bedPeriod e.st.now ob) e.st.beds
  allocate (e.upd fun s => regulateAll minutes (evaluateRelease (evaluateShip (accountAll s))))

/-- The delivery of a scan result: the QUEUED moves are seen by the counters (R185), and in RUNNING the
receivers take it up; in LOADING they do nothing (R12). -/
def deliver (e : Event) : Event :=
  let e1 := e.see (.queuedMoves e.st.queued.length)
  match e1.st.ctl with
  | .loading => e1
  | .running => takeUp e1

/-- The completion of a scan (R37). -/
def completeScan (e : Event) : Event :=
  let e1 := e.upd fun s =>
    let s1 := formAggregates { s with scan := { s.scan with number := s.scan.number + 1 } }
    let s2 : State := { s1 with scan := { s1.scan with inFlight := none, lastDone := some s1.now } }
    s2.raise .scanDone .everyPort
  deliver (e1.see .scanDone)

/-! ### The course of a scan (sections 2.2 and 2.3) -/

/-- The channel belongs to the scan set: enabled and assigned (R23). -/
def State.inScanSet (s : State) (c : Channel) : Bool :=
  s.scan.probes[c].enabled && s.scan.probes[c].assignment != .unassigned

/-- The scan set in ascending channel order (R23). -/
def State.scanSet (s : State) : List Channel := (List.finRange 64).filter s.inScanSet

/-- A new countdown of the scan timer with the scan interval as stored: all of it remains (R24). -/
def restartTimer (s : State) : State :=
  { s with scan :=
    { s.scan with countdown := s.settings.scanInterval, remaining := s.settings.scanInterval } }

/-- A scan start (R24, R27): the countdown begins again, every read mark is cleared, and the lowest channel
of the scan set is put under conversion; an empty set completes at once. -/
def startScan (e : Event) : Event :=
  let s := restartTimer e.st
  let s1 : State :=
    { s with scan :=
        { s.scan with
          probes := onEach (fun _ q => { q with mark := false }) s.scan.probes
          inFlight := s.scanSet.head? } }
  match s1.scan.inFlight with
  | none => completeScan { e with st := s1 }
  | some _ => { e with st := s1 }

/-- The end of a scan in flight without a result (R29). -/
def abandonScan (s : State) : State := { s with scan := { s.scan with inFlight := none } }

/-! ### Conversion of one reading (section 2.4) -/

/-- The quotient rounded to the nearest whole number, halves away from zero, for a positive divisor. -/
def roundHalfAway (n d : Int) : Int :=
  if 0 ≤ n then (2 * n + d) / (2 * d) else -((2 * -n + d) / (2 * d))

/-- A value clamped into the stored temperature range (R30). -/
def clampTemp (t : Int) : Int := max (-400) (min t 950)

/-- The temperature of a non-rail raw code by a probe's calibration, rounded and clamped (R30). -/
def convert (q : Probe) (raw : Nat) : Int :=
  let d : Int := (q.rawHi : Int) - q.rawLo
  clampTemp (roundHalfAway (q.tLo * d + ((raw : Int) - q.rawLo) * (q.tHi - q.tLo)) d)

/-- A raw code at a rail (R30). -/
def isRail (raw : Nat) : Bool := raw == 0 || raw == 4095

/-- A converted temperature is suspect (R31). -/
def suspect (stepLimit : Nat) (q : Probe) (t : Int) : Bool :=
  q.readState == .valid && q.reading.any fun old => stepLimit < (t - old).natAbs

/-- A conversion is faulted: a rail reading or a suspect one (R30, R31). -/
def faulted (stepLimit : Nat) (q : Probe) (raw : Nat) : Bool :=
  isRail raw || suspect stepLimit q (convert q raw)

/-- A probe after a faulted conversion (R32). -/
def Probe.fail (persistence : Nat) (q : Probe) : Probe :=
  let n := min (q.consecutive + 1) 7
  { q with
    tally := min (q.tally + 1) 254
    consecutive := n
    readState := if persistence ≤ n then .fault else q.readState }

/-- A probe after a good conversion (R33). -/
def Probe.read (t : Int) (next : Word32) (q : Probe) : Probe :=
  { q with
    reading := some t
    consecutive := 0
    lastScan := some next
    mark := true
    readState := .valid }

/-- The bed a probe is assigned to. -/
def Assignment.bed? : Assignment → Option BedId
  | .unassigned => none
  | .bed b => some b
  | .yard => none

/-- The judging of a raw code for a channel (R30 to R33). PROBE_FAULT is raised on entry into FAULT. -/
def judge (c : Channel) (raw : Nat) (e : Event) : Event :=
  let q := e.st.scan.probes[c]
  let put (x : Probe) (s : State) : State :=
    { s with scan := { s.scan with probes := s.scan.probes.set c x } }
  if faulted e.st.settings.stepLimit q raw then
    let x := q.fail e.st.settings.faultPersistence
    (e.upd fun s =>
      (put x s).raiseIf (q.readState != .fault && x.readState == .fault) .probeFault).see
      (.probeFault q.assignment.bed?)
  else e.upd (put (q.read (convert q raw) (e.st.scan.number + 1)))

/-- The next channel after `c` in the scan set. -/
def State.nextChannel (s : State) (c : Channel) : Option Channel :=
  s.scanSet.find? fun d => c < d

/-- A conversion completion on the channel under conversion (R28). -/
def convertChannel (c : Channel) (raw : Nat) (e : Event) : Event :=
  let e1 := judge c raw e
  match e1.st.nextChannel c with
  | some d => e1.upd fun s => { s with scan := { s.scan with inFlight := some d } }
  | none => completeScan e1

/-! ### Commands -/

/-- SCAN_TIMER_EXPIRY (R24, R26): a scan starts, or the expiry is an overrun. -/
def execScanTimerExpiry (s : State) : Host.Outcome State Fault Refusal :=
  match s.scan.inFlight with
  | none => .next (startScan s.event).close
  | some _ =>
      let s1 := restartTimer
        { s with scan := { s.scan with overruns := gainTally s.scan.overruns } }
      .next ((s1.raise .scanOverrun .everyPort).event.see .scanOverrun).close

/-- CONVERSION_COMPLETION (R28). With no scan in flight no conversion is under way and none completes
(R29): nothing changes (notes/assumptions/3.md). -/
def execConversionCompletion (raw : BitVec 12) (s : State) : Host.Outcome State Fault Refusal :=
  match s.scan.inFlight with
  | none => .next s
  | some c => .next (convertChannel c raw.toNat s.event).close

/-- The probes assigned as given, but for one channel (R20, check 4). -/
def State.othersAssigned (s : State) (c : Channel) (a : Assignment) : Nat :=
  ((List.finRange 64).filter fun d => d ≠ c ∧ s.scan.probes[d].assignment = a).length

/-- The greatest number of probes with an assignment (R19). -/
def assignmentLimit : Assignment → Nat
  | .unassigned => 64
  | .bed _ => 6
  | .yard => 4

/-- An assignment to a bed names a defined one (R20, check 2). -/
def State.assignable (s : State) : Assignment → Bool
  | .unassigned => true
  | .bed b => (s.bed b).isSome
  | .yard => true

/-- The calibration figures in their ranges (R19, R20). -/
def calibrationInRange (rawLo : Nat) (tLo : Int) (rawHi : Nat) (tHi : Int) : Bool :=
  between 1 4094 rawLo && between 1 4094 rawHi && rawLo < rawHi
    && betweenI (-400) 950 tLo && betweenI (-400) 950 tHi

/-- A probe with its definition replaced: its reading is forgotten when the assignment or a calibration
figure changes (R21). -/
def Probe.define (a : Assignment) (enabled : Bool) (rawLo : Nat) (tLo : Int) (rawHi : Nat) (tHi : Int)
    (q : Probe) : Probe :=
  if q.assignment = a ∧ q.rawLo = rawLo ∧ q.tLo = tLo ∧ q.rawHi = rawHi ∧ q.tHi = tHi then
    { q with enabled := enabled }
  else ⟨a, enabled, rawLo, tLo, rawHi, tHi, none, .never, 0, q.tally, none, false⟩

/-- The rule of DEFINE_PROBE (R20, R21). -/
def takeDefineProbe (channel assignment bed enabled rawLo : Nat) (tLo : Int) (rawHi : Nat) (tHi : Int)
    (s : State) : Taken :=
  match slot? 64 channel, assignment? assignment bed, flag? enabled with
  | some c, some a, some en =>
      if ¬ calibrationInRange rawLo tLo rawHi tHi then refuse s .badValue
      else if ¬ s.assignable a then refuse s .noSuch
      else if s.scan.inFlight.isSome then refuse s .busyScan
      else if assignmentLimit a < s.othersAssigned c a + 1 then refuse s .full
      else
        accept
          { s with scan :=
            { s.scan with
              probes := s.scan.probes.set c
                (s.scan.probes[c].define a en rawLo tLo rawHi tHi) } }
          .empty
  | _, _, _ => refuse s .badValue

/-- DEFINE_PROBE (R20, R21). -/
def execDefineProbe (p : PortId) (tag : Byte) (channel assignment bed enabled rawLo : Nat) (tLo : Int)
    (rawHi : Nat) (tHi : Int) (s : State) : Host.Outcome State Fault Refusal :=
  .next (serve p tag .defineProbe
    (takeDefineProbe channel assignment bed enabled rawLo tLo rawHi tHi) s)

/-- The rule of READ_PROBE (R22). -/
def takeReadProbe (channel : Nat) (s : State) : Taken :=
  match slot? 64 channel with
  | none => refuse s .badValue
  | some c => accept s (.probe s.scan.probes[c])

/-- READ_PROBE (R22). -/
def execReadProbe (p : PortId) (tag : Byte) (channel : Nat) (s : State) :
    Host.Outcome State Fault Refusal :=
  .next (serve p tag .readProbe (takeReadProbe channel) s)

/-- The rule of CLEAR_PROBE_TALLY (R22). -/
def takeClearProbeTally (mask overrun : Nat) (s : State) : Taken :=
  match flag? overrun with
  | none => refuse s .badValue
  | some tallyToo =>
      accept
        { s with scan :=
          { s.scan with
            probes := onEach (fun c q => if inMask mask c then { q with tally := 0 } else q)
              s.scan.probes
            overruns := if tallyToo then 0 else s.scan.overruns } }
        .empty

/-- CLEAR_PROBE_TALLY (R22). -/
def execClearProbeTally (p : PortId) (tag : Byte) (mask overrun : Nat) (s : State) :
    Host.Outcome State Fault Refusal :=
  .next (serve p tag .clearProbeTally (takeClearProbeTally mask overrun) s)

/-- The rule of SCAN_NOW (R25). -/
def takeScanNow (s : State) : Taken :=
  match s.scan.inFlight with
  | some _ => refuse s .busyScan
  | none => acceptEvent (startScan s.event) (.scanNumber (s.scan.number + 1))

/-- SCAN_NOW (R25). -/
def execScanNow (p : PortId) (tag : Byte) (s : State) : Host.Outcome State Fault Refusal :=
  .next (serve p tag .scanNow takeScanNow s)

/-- The rule of ABORT_SCAN (R29). -/
def takeAbortScan (s : State) : Taken :=
  match s.scan.inFlight with
  | none => refuse s .wrongState
  | some _ => accept (abandonScan s) .empty

/-- ABORT_SCAN (R29). -/
def execAbortScan (p : PortId) (tag : Byte) (s : State) : Host.Outcome State Fault Refusal :=
  .next (serve p tag .abortScan takeAbortScan s)

/-- The whole minutes remaining in the scan timer's countdown, rounded up: a free value between 1 and the
minutes last known to remain, which are the interval at the countdown's start (R24, R38;
notes/assumptions/4.md). -/
def State.minutesRemaining (s : State) : Nat :=
  s.scan.remaining - Config.countdownElapsed s.freeReads % s.scan.remaining

/-- The figures READ_SCAN answers with (R38). -/
def State.scanReport (s : State) : ScanReport where
  inFlight := s.scan.inFlight.map fun c => (c, s.scanSet.length)
  number := s.scan.number
  lastDone := s.scan.lastDone.map s.stamp
  interval := s.settings.scanInterval
  remaining := s.minutesRemaining
  overruns := s.scan.overruns
  yard := s.scan.yard

/-- READ_SCAN taken changes nothing of the part: the model notes the minutes that the answer has made known,
which can only fall until the countdown begins again, and the next read of the free value is a fresh one. -/
def noteCountdown (s : State) : State :=
  { s with
    scan := { s.scan with remaining := s.minutesRemaining }
    freeReads := s.freeReads + 1 }

/-- The rule of READ_SCAN (R38; notes/assumptions/4.md). -/
def takeReadScan (s : State) : Taken := accept (noteCountdown s) (.scan s.scanReport)

/-- READ_SCAN (R38). -/
def execReadScan (p : PortId) (tag : Byte) (s : State) : Host.Outcome State Fault Refusal :=
  .next (serve p tag .readScan takeReadScan s)

end Sys2Proof.Machine
end

