-- ==== Sys2Proof/Machine/YardMap.lean ====
section
/-! DEFINITION. The Yard Map (chapter 1): the clock requests, the definitions, the limits, the configuration
values, the restoring of pieces and beds in LOADING, and COMMIT. -/

namespace Sys2Proof.Machine

/-! ### The clock (R2, R3) -/

/-- The rule of READ_CLOCK (R3). -/
def takeReadClock (s : State) : Taken :=
  accept s (.clock s.now (s.stamp s.now) s.clock.offset s.clock.unset s.ctl)

/-- READ_CLOCK (R3). -/
def execReadClock (p : PortId) (tag : Byte) (s : State) : Host.Outcome State Fault Refusal :=
  .next (serve p tag .readClock takeReadClock s)

/-- The rule of SET_CLOCK (R2). -/
def takeSetClock (yardMinute : Int) (s : State) : Taken :=
  accept
    { s with clock :=
        { s.clock with offset := BitVec.ofInt 32 (yardMinute - s.now), unset := false } }
    .empty

/-- SET_CLOCK (R2). -/
def execSetClock (p : PortId) (tag : Byte) (yardMinute : Int) (s : State) :
    Host.Outcome State Fault Refusal :=
  .next (serve p tag .setClock (takeSetClock yardMinute) s)

/-! ### Configuration values (section 1.7) -/

/-- A configuration value by its row in the table of section 1.7, counted from 0; the credit limit, row 15,
is one value per port. -/
def Settings.value? (c : Settings) (row port : Nat) : Option Int :=
  match row with
  | 0 => some c.scanInterval
  | 1 => some c.holdLimit
  | 2 => some c.faultPersistence
  | 3 => some c.stepLimit
  | 4 => some c.datum
  | 5 => some c.maturityCeiling
  | 6 => some c.frostOn
  | 7 => some c.frostOff
  | 8 => some c.differentialLimit
  | 9 => some c.grantTimeout
  | 10 => some c.liftOverdue
  | 11 => some c.clearance
  | 12 => some c.starveLimit
  | 13 => some c.stripLow
  | 14 => some c.dispatchLow
  | 15 => (slot? 4 port).map fun p => ((c.creditLimit[p] : Nat) : Int)
  | _ => none

/-- The range of a configuration value by its row (section 1.7). -/
def settingRange (row : Nat) : Int × Int :=
  match row with
  | 0 => (1, 15)
  | 1 => (0, 7)
  | 2 => (1, 7)
  | 3 => (10, 300)
  | 4 => (-150, 50)
  | 5 => (400, 950)
  | 6 => (-100, 200)
  | 7 => (-80, 250)
  | 8 => (50, 400)
  | 9 => (1, 30)
  | 10 => (1, 60)
  | 11 => (0, 8)
  | 12 => (1, 15)
  | 13 => (0, 15)
  | 14 => (0, 15)
  | _ => (1, 64)

/-- A configuration value stored by its row (R11). -/
def Settings.store (c : Settings) (row port : Nat) (x : Int) : Settings :=
  match row with
  | 0 => { c with scanInterval := x.toNat }
  | 1 => { c with holdLimit := x.toNat }
  | 2 => { c with faultPersistence := x.toNat }
  | 3 => { c with stepLimit := x.toNat }
  | 4 => { c with datum := x }
  | 5 => { c with maturityCeiling := x }
  | 6 => { c with frostOn := x }
  | 7 => { c with frostOff := x }
  | 8 => { c with differentialLimit := x }
  | 9 => { c with grantTimeout := x.toNat }
  | 10 => { c with liftOverdue := x.toNat }
  | 11 => { c with clearance := x.toNat }
  | 12 => { c with starveLimit := x.toNat }
  | 13 => { c with stripLow := x.toNat }
  | 14 => { c with dispatchLow := x.toNat }
  | 15 =>
      match slot? 4 port with
      | none => c
      | some p => { c with creditLimit := c.creditLimit.set p x.toNat }
  | _ => c

/-- The frost thresholds stand as they must: frost_off above frost_on (R11). -/
def Settings.frostPair (c : Settings) : Bool := c.frostOn < c.frostOff

/-- The rule of SET_CONFIG (R11). -/
def takeSetConfig (row port : Nat) (x : Int) (s : State) : Taken :=
  match s.settings.value? row port with
  | none => refuse s .badValue
  | some _ =>
      let r := settingRange row
      let c := s.settings.store row port x
      if ¬ betweenI r.1 r.2 x then refuse s .badValue
      else if (row = 6 ∨ row = 7) ∧ ¬ c.frostPair then refuse s .badValue
      else accept { s with settings := c } .empty

/-- SET_CONFIG (R11). -/
def execSetConfig (p : PortId) (tag : Byte) (value port : Nat) (setting : Int) (s : State) :
    Host.Outcome State Fault Refusal :=
  .next (serve p tag .setConfig (takeSetConfig value port setting) s)

/-- The entry READ_MAP names: 0 bed, 1 stack, 2 crane, 3 class, 4 limits, 5 configuration value (R3). The
number of the limits and the port of a value that is no credit limit are not judged
(notes/assumptions/11.md). -/
def State.mapEntry (s : State) (kind number port : Nat) : Option Answer :=
  match kind with
  | 0 => (slot? 16 number).map fun b => .mapBed ((s.bed b).map fun x => x.defn)
  | 1 => (slot? 96 number).map fun i => .mapStack ((s.stack i).map fun x => x.defn)
  | 2 => (slot? 4 number).map fun k => .mapCrane (s.crane k).enrolment
  | 3 => (slot? 32 number).map fun c => .mapClass s.classes[c]
  | 4 => some (.mapLimits s.limits)
  | 5 => (s.settings.value? number port).map .mapValue
  | _ => none

/-- The rule of READ_MAP (R3). -/
def takeReadMap (kind number port : Nat) (s : State) : Taken :=
  match s.mapEntry kind number port with
  | none => refuse s .badValue
  | some a => accept s a

/-- READ_MAP (R3). -/
def execReadMap (p : PortId) (tag : Byte) (kind number port : Nat) (s : State) :
    Host.Outcome State Fault Refusal :=
  .next (serve p tag .readMap (takeReadMap kind number port) s)

/-! ### Beds (R4, R5) -/

/-- The records of a bed newly defined: EMPTY, with a BLIND aggregate (R4, R35, R42, R62, R96). -/
def Bed.fresh (d : BedDef) (scanNumber : Word32) : Bed where
  defn := d
  cycle := ⟨.empty, [], none, none⟩
  maturity := Maturity.none
  heat := Regulation.idle
  agg := ⟨none, none, .blind, 0, scanNumber⟩

/-- Two spans share a bay. -/
def spansMeet (lo1 hi1 lo2 hi2 : Int) : Bool := max lo1 lo2 ≤ min hi1 hi2

/-- Two bed definitions share a bay. -/
def BedDef.overlaps (d e : BedDef) : Bool := spansMeet d.firstBay d.lastBay e.firstBay e.lastBay

/-- The span of this definition shares a bay with another defined bed's (R4). -/
def State.overlapsOther (s : State) (b : BedId) (d : BedDef) : Bool :=
  s.definedBeds.any fun x => x.1 != b && d.overlaps x.2.defn

/-- A bound port is none or a BEDSIDE port (R4). -/
def State.bedsideBound (s : State) (q : Option PortId) : Bool :=
  match q with
  | none => true
  | some p => (s.port p).role == .bedside

/-- The checks of R4 on a definition. -/
def State.bedDefGood (s : State) (b : BedId) (d : BedDef) : Bool :=
  d.firstBay ≤ 255 && d.lastBay ≤ 255 && d.rated ≤ 2000 && d.guard ≤ d.rated
    && s.bedsideBound d.bound
    && match s.ctl with
      | .loading => true
      | .running => d.firstBay ≤ d.lastBay && !s.overlapsOther b d

/-- The cycle state allows what the definition changes (R5). -/
def Bed.mayBecome (x : Bed) (d : BedDef) : Bool :=
  (x.cycle.state == .empty || (d.firstBay == x.defn.firstBay && d.lastBay == x.defn.lastBay))
    && (x.cycle.state == .empty || x.cycle.state == .set
      || (d.rated == x.defn.rated && d.guard == x.defn.guard))

/-- A probe is assigned to the bed (R5). -/
def State.bedProbed (s : State) (b : BedId) : Bool :=
  s.scan.probes.toList.any fun q => q.assignment == .bed b

/-- The removal of a bed's definition (R4, R5). -/
def removeBed (b : BedId) (s : State) : Taken :=
  match s.bed b with
  | none => accept s .empty
  | some x =>
      if x.cycle.state = .empty ∧ ¬ s.bedProbed b then accept (s.setBed b none) .empty
      else refuse s .wrongState

/-- A definition of a bed (R4, R5). -/
def defineBedAs (b : BedId) (d : BedDef) (s : State) : Taken :=
  if ¬ s.bedDefGood b d then refuse s .badValue
  else
    match s.bed b with
    | none => accept (s.setBed b (some (Bed.fresh d s.scan.number))) .empty
    | some x =>
        if x.mayBecome d then accept (s.setBed b (some { x with defn := d })) .empty
        else refuse s .wrongState

/-- The rule of DEFINE_BED (R4, R5). -/
def takeDefineBed (bed action firstBay lastBay rated guard bound : Nat) (s : State) : Taken :=
  match slot? 16 bed, action? action with
  | some b, some .remove => removeBed b s
  | some b, some .define =>
      match boundPort? bound with
      | none => refuse s .badValue
      | some q => defineBedAs b ⟨firstBay, lastBay, rated, guard, q⟩ s
  | _, _ => refuse s .badValue

/-- DEFINE_BED (R4, R5). -/
def execDefineBed (p : PortId) (tag : Byte) (bed action firstBay lastBay rated guard bound : Nat)
    (s : State) : Host.Outcome State Fault Refusal :=
  .next (serve p tag .defineBed (takeDefineBed bed action firstBay lastBay rated guard bound) s)

/-! ### Stacks (R6, R7) -/

/-- A move in the table names the stack as source or destination (R6). -/
def State.stackNamed (s : State) (i : StackId) : Bool :=
  s.moveList.any fun x => x.2.dest == i || x.2.source == .stack i

/-- The stack may be changed or removed: it holds nothing, nothing is bound for it and no move names it
(R6). -/
def State.stackFree (s : State) (i : StackId) (x : Stack) : Bool :=
  x.contents.isEmpty && x.incoming == 0 && !s.stackNamed i

/-- The removal of a stack's definition (R6). -/
def removeStack (i : StackId) (s : State) : Taken :=
  match s.stack i with
  | none => accept s .empty
  | some x => if s.stackFree i x then accept (s.setStack i none) .empty else refuse s .wrongState

/-- A definition of a stack (R6). -/
def defineStackAs (i : StackId) (d : StackDef) (s : State) : Taken :=
  if ¬ (d.bay ≤ 255 ∧ between 1 6 d.tierLimit) then refuse s .badValue
  else
    match s.stack i with
    | none => accept (s.setStack i (some ⟨d, [], 0⟩)) .empty
    | some x =>
        if s.stackFree i x then accept (s.setStack i (some ⟨d, [], 0⟩)) .empty
        else refuse s .wrongState

/-- The rule of DEFINE_STACK (R6). -/
def takeDefineStack (stack action bay kind tierLimit openFlag : Nat) (s : State) : Taken :=
  match slot? 96 stack, action? action with
  | some i, some .remove => removeStack i s
  | some i, some .define =>
      match stackKind? kind, flag? openFlag with
      | some k, some o => defineStackAs i ⟨bay, k, tierLimit, o⟩ s
      | _, _ => refuse s .badValue
  | _, _ => refuse s .badValue

/-- DEFINE_STACK (R6). -/
def execDefineStack (p : PortId) (tag : Byte) (stack action bay kind tierLimit openFlag : Nat)
    (s : State) : Host.Outcome State Fault Refusal :=
  .next (serve p tag .defineStack (takeDefineStack stack action bay kind tierLimit openFlag) s)

/-- The rule of SET_STACK_OPEN (R7). -/
def takeSetStackOpen (stack openFlag : Nat) (s : State) : Taken :=
  match slot? 96 stack, flag? openFlag with
  | some i, some o =>
      match s.stack i with
      | none => refuse s .noSuch
      | some x => accept (s.setStack i (some { x with defn := { x.defn with isOpen := o } })) .empty
  | _, _ => refuse s .badValue

/-- SET_STACK_OPEN (R7). -/
def execSetStackOpen (p : PortId) (tag : Byte) (stack openFlag : Nat) (s : State) :
    Host.Outcome State Fault Refusal :=
  .next (serve p tag .setStackOpen (takeSetStackOpen stack openFlag) s)

/-! ### Cranes (R8) -/

/-- The checks of an enrolment's fields (R8, check 1). -/
def State.enrolmentGood (s : State) (e : Enrolment) : Bool :=
  (s.port e.bound).role == .crane && e.low ≤ e.high && e.high ≤ 255 && between 1 5000 e.rating
    && between 1 1000 e.capacity

/-- The sum of the enrolled ratings with one crane's enrolment replaced (R8, check 2). -/
def State.ratingsWith (s : State) (k : CraneId) (e : Option Enrolment) : Nat :=
  (s.modCrane k fun c => { c with enrolment := e }).enrolledRatings

/-- The enrolment or withdrawal of a crane after check 1 (R8). A withdrawn or newly enrolled crane takes
its power-on runtime record (R171). -/
def enrol (k : CraneId) (e : Option Enrolment) (s : State) : Taken :=
  if s.limits.shedLimit < s.limits.baseLoad + s.ratingsWith k e then refuse s .badValue
  else if (s.crane k).held.isSome then refuse s .busy
  else
    accept
      (s.modCrane k fun c =>
        if c.enrolment.isSome ∧ e.isSome then { c with enrolment := e }
        else { Crane.powerOn with enrolment := e, reservation := c.reservation })
      .empty

/-- The rule of LOAD_CRANE (R8). -/
def takeLoadCrane (crane action bound low high rating capacity : Nat) (s : State) : Taken :=
  match slot? 4 crane, action? action with
  | some k, some .remove => enrol k none s
  | some k, some .define =>
      match slot? 4 bound with
      | none => refuse s .badValue
      | some q =>
          let e : Enrolment := ⟨q, low, high, rating, capacity⟩
          if s.enrolmentGood e then enrol k (some e) s else refuse s .badValue
  | _, _ => refuse s .badValue

/-- LOAD_CRANE (R8). -/
def execLoadCrane (p : PortId) (tag : Byte) (crane action bound low high rating capacity : Nat)
    (s : State) : Host.Outcome State Fault Refusal :=
  .next (serve p tag .loadCrane (takeLoadCrane crane action bound low high rating capacity) s)

/-! ### Classes and limits (R9, R10) -/

/-- The rule of DEFINE_CLASS (R9). -/
def takeDefineClass (cls action stripTarget stripAge shipTarget shipAge : Nat) (s : State) : Taken :=
  match slot? 32 cls, action? action with
  | some c, some .remove => accept { s with classes := s.classes.set c none } .empty
  | some c, some .define =>
      let x : ProductClass := ⟨stripTarget, stripAge, shipTarget, shipAge⟩
      if classInRange x then accept { s with classes := s.classes.set c (some x) } .empty
      else refuse s .badValue
  | _, _ => refuse s .badValue

/-- DEFINE_CLASS (R9). -/
def execDefineClass (p : PortId) (tag : Byte)
    (cls action stripTarget stripAge shipTarget shipAge : Nat) (s : State) :
    Host.Outcome State Fault Refusal :=
  .next (serve p tag .defineClass
    (takeDefineClass cls action stripTarget stripAge shipTarget shipAge) s)

/-- The rule of SET_LIMITS (R10). -/
def takeSetLimits (limit shedLimit baseLoad : Nat) (s : State) : Taken :=
  let l : Limits := ⟨limit, shedLimit, baseLoad⟩
  if limitsHold l s.enrolledRatings then
    acceptEvent (allocateRunning ({ s with limits := l } : State).event) .empty
  else refuse s .badValue

/-- SET_LIMITS (R10). -/
def execSetLimits (p : PortId) (tag : Byte) (limit shedLimit baseLoad : Nat) (s : State) :
    Host.Outcome State Fault Refusal :=
  .next (serve p tag .setLimits (takeSetLimits limit shedLimit baseLoad) s)

/-! ### Restoring the yard in LOADING (R13, R14, R15) -/

/-- The piece LOAD_PIECE restores to a stack (R13). -/
def restoredPiece (s : State) (id cls mass count age : Nat) (c : ProductClass) (i : StackId)
    (k : StackKind) (hold : Option Nat) : Piece where
  id := id
  cls := cls
  mass := mass
  castMinute := s.now - age
  shipTarget := c.shipTarget
  shipAge := c.shipAge
  state :=
    match k with
    | .stock => .stocked
    | .dispatch => .dispatchStaged
  location := .stack i
  hold := hold
  shipReady := readyToShip count age c.shipTarget c.shipAge
  move := none
  count := count
  last := some s.now
  gap := false

/-- The restoring of one piece, past the range checks (R13). -/
def restorePiece (id cls mass count age : Nat) (c : ClassId) (i : StackId) (hold : Option Nat)
    (s : State) : Taken :=
  match s.classes[c] with
  | none => refuse s .noSuch
  | some pc =>
      match s.stack i with
      | none => refuse s .noSuch
      | some st =>
          let x := restoredPiece s id cls mass count age pc i st.defn.kind hold
          if (s.piece id).isSome then refuse s .duplicate
          else if ¬ recordsFree s 1 then refuse s .full
          else if st.defn.tierLimit ≤ st.contents.length then refuse s .noRoom
          else if st.defn.kind = .dispatch ∧ ¬ x.shipReady then refuse s .badValue
          else
            accept
              (((s.addPiece x).setStack i (some { st with contents := st.contents ++ [id] })).raiseIf
                x.shipReady .shipReady)
              .empty

/-- The rule of LOAD_PIECE (R13); in RUNNING it is refused (R12). -/
def takeLoadPiece (id cls mass count age stack reasonGiven reason : Nat) (s : State) : Taken :=
  match s.ctl with
  | .running => refuse s .wrongState
  | .loading =>
      match slot? 32 cls, slot? 96 stack, optional? reasonGiven reason with
      | some c, some i, some hold =>
          if idInRange id ∧ between 1 1000 mass ∧ count ≤ maxCount ∧ age ≤ 2000000 then
            restorePiece id cls mass count age c i hold s
          else refuse s .badValue
      | _, _, _ => refuse s .badValue

/-- LOAD_PIECE (R13). -/
def execLoadPiece (p : PortId) (tag : Byte)
    (id cls mass count age stack reasonGiven reason : Nat) (s : State) :
    Host.Outcome State Fault Refusal :=
  .next (serve p tag .loadPiece (takeLoadPiece id cls mass count age stack reasonGiven reason) s)

/-- The class of an entry, if it is defined. -/
def State.classOf (s : State) (x : PieceEntry) : Option ProductClass :=
  (slot? 32 x.cls).bind fun c => s.classes[c]

/-- The piece a list entry creates on a bed (R14, R103, R49). -/
def castPiece (s : State) (b : BedId) (pourEnd : Int) (x : PieceEntry) : Piece where
  id := x.id
  cls := x.cls
  mass := x.mass
  castMinute := pourEnd
  shipTarget := ((s.classOf x).map fun c => c.shipTarget).getD 0
  shipAge := ((s.classOf x).map fun c => c.shipAge).getD 0
  state := .onBed
  location := .bed b
  hold := none
  shipReady := false
  move := none
  count := 0
  last := none
  gap := false

/-- The pieces of a list created on a bed, in list order (R14, R103). -/
def castPieces (b : BedId) (pourEnd : Int) (es : List PieceEntry) (s : State) : State :=
  (es.map (castPiece s b pourEnd)).foldl State.addPiece s

/-- The heat phase and setpoint fit the cycle state to restore (R14, check 1). -/
def phaseFits (c : CycleState) (ph : Phase) (q : Profile) (setpoint : Int) : Bool :=
  match c, ph with
  | .curing, .preset => true
  | .curing, .ramp => decide (setpoint < q.holdTemp)
  | .curing, .hold => decide (setpoint = q.holdTemp)
  | .releasable, .cool => true
  | .releasable, .off => true
  | _, _ => false

/-- The figures of LOAD_BED_STATE that its range checks judge. -/
structure BedRestore where
  state : CycleState
  count : Nat
  pourAge : Nat
  target : Nat
  minAge : Nat
  profile : Profile
  phase : Phase
  setpoint : Int
  entries : List PieceEntry
  deriving DecidableEq, Repr

/-- The range checks of LOAD_BED_STATE (R14, check 1). -/
def BedRestore.good (r : BedRestore) : Bool :=
  r.count ≤ maxCount && r.pourAge ≤ 2000000 && r.target ≤ 5000 && r.minAge ≤ 4320 && profileInRange r.profile
    && betweenI (-400) 950 r.setpoint && phaseFits r.state r.phase r.profile r.setpoint
    && between 1 12 r.entries.length && r.entries.all entryInRange

/-- A bed as LOAD_BED_STATE restores it (R14). -/
def Bed.restore (now : Int) (r : BedRestore) (x : Bed) : Bed :=
  { x with
    cycle :=
      { state := r.state
        pieces := r.entries.map fun y => y.id
        figures := some ⟨r.target, r.minAge, now - r.pourAge⟩
        release := if r.state = .releasable then some now else none }
    maturity := ⟨r.count, some now, false, 0⟩
    heat := ⟨some r.profile, r.phase, some r.setpoint, 0, 0, 0, false, false, false⟩ }

/-- The restoring of a bed, past the range checks (R14). -/
def restoreBed (b : BedId) (r : BedRestore) (s : State) : Taken :=
  match s.bed b with
  | none => refuse s .noSuch
  | some x =>
      if x.cycle.state ≠ .empty then refuse s .wrongState
      else if ¬ classesDefined s r.entries then refuse s .noSuch
      else if ¬ idsFree s r.entries then refuse s .duplicate
      else if ¬ recordsFree s r.entries.length then refuse s .full
      else
        accept
          ((castPieces b (s.now - r.pourAge) r.entries s).setBed b (some (x.restore s.now r)))
          .empty

/-- The rule of LOAD_BED_STATE (R14); in RUNNING it is refused (R12). -/
def takeLoadBedState (bed cycle count pourAge target minAge : Nat) (q : Profile) (phase : Nat)
    (setpoint : Int) (entries : List PieceEntry) (s : State) : Taken :=
  match s.ctl with
  | .running => refuse s .wrongState
  | .loading =>
      match slot? 16 bed, cycleState? cycle, phase? phase with
      | some b, some c, some ph =>
          let r : BedRestore := ⟨c, count, pourAge, target, minAge, q, ph, setpoint, entries⟩
          if r.good then restoreBed b r s else refuse s .badValue
      | _, _, _ => refuse s .badValue

/-- LOAD_BED_STATE (R14). -/
def execLoadBedState (p : PortId) (tag : Byte) (bed cycle count pourAge target minAge : Nat)
    (q : Profile) (phase : Nat) (setpoint : Int) (entries : List PieceEntry) (s : State) :
    Host.Outcome State Fault Refusal :=
  .next (serve p tag .loadBedState
    (takeLoadBedState bed cycle count pourAge target minAge q phase setpoint entries) s)

/-- The checks COMMIT makes of the map (R15). -/
def State.mapGood (s : State) : Bool :=
  (s.definedBeds.all fun x =>
      x.2.defn.firstBay ≤ x.2.defn.lastBay && !s.overlapsOther x.1 x.2.defn)
    && 1 ≤ s.limits.limit && limitsHold s.limits s.enrolledRatings

/-- A bed at COMMIT: its last-accounted minute becomes the commit minute in CURING and RELEASABLE (R15). -/
def Bed.commit (now : Int) (x : Bed) : Bed :=
  if x.cycle.state = .curing ∨ x.cycle.state = .releasable then
    { x with maturity := { x.maturity with last := some now } }
  else x

/-- A piece at COMMIT: its last-accounted minute becomes the commit minute in STOCKED and DISPATCH_STAGED
(R15). -/
def Piece.commit (now : Int) (x : Piece) : Piece :=
  if x.state = .stocked ∨ x.state = .dispatchStaged then { x with last := some now } else x

/-- The rule of COMMIT (R15). -/
def takeCommit (s : State) : Taken :=
  match s.ctl with
  | .running => refuse s .wrongState
  | .loading =>
      if s.mapGood then
        accept
          { s with
            ctl := .running
            beds := onEach (fun _ ob => ob.map (Bed.commit s.now)) s.beds
            pieces := s.pieces.map (Piece.commit s.now) }
          .empty
      else refuse s .badValue

/-- COMMIT (R15). -/
def execCommit (p : PortId) (tag : Byte) (s : State) : Host.Outcome State Fault Refusal :=
  .next (serve p tag .commit takeCommit s)

end Sys2Proof.Machine
end

