-- ==== Sys2Proof/Machine/Traffic.lean ====
section
/-! DEFINITION. The operations that the beds, the pieces, the moves and the cranes share: a move leaving the
table or returning to QUEUED, a crane becoming IDLE, a piece leaving its bed or stack, and a bed returning
to EMPTY. -/

namespace Sys2Proof.Machine

/-! ### Moves and cranes -/

/-- A move leaves the table: its slot becomes free, its requester's credit is returned and its piece's
pending move becomes absent (R126, R141, R146). -/
def leaveTable (i : SlotId) (m : Move) (s : State) : State :=
  let s1 := s.setMove i none
  ({ s1 with
    moves := { s1.moves with
      charged := s1.moves.charged.set m.requester (s1.moves.charged[m.requester] - 1) } }
    : State).modPiece m.piece fun x => { x with move := none }

/-- A QUEUED move is dropped, with MOVE_DROPPED raised toward its requester; a move in motion never is
(R146). -/
def dropMove (i : SlotId) (s : State) : State :=
  match s.move i with
  | none => s
  | some m => if m.isQueued then (leaveTable i m s).raise .moveDropped (s.towardMove m) else s

/-- The QUEUED move of a piece is dropped, if it has one. -/
def dropMoveOf (id : Nat) (s : State) : State :=
  match (s.piece id).bind fun x => x.move with
  | none => s
  | some i => dropMove i s

/-- A crane becomes IDLE and its reservation is removed (R83, R158). -/
def idleCrane (k : CraneId) (s : State) : State :=
  s.modCrane k fun c => { c with held := none, reservation := none }

/-- A move is no longer bound for a stack: the incoming count falls by 1 (R124). -/
def fewerIncoming (i : StackId) (s : State) : State :=
  s.modStack i fun x => { x with incoming := x.incoming - 1 }

/-- A GRANTED move returns to QUEUED: the destination's incoming count falls, the reservation is removed and
the crane becomes IDLE; the rest of the move is kept (R129, R150, R152, R156). -/
def requeue (i : SlotId) (m : Move) (g : Grant) (s : State) : State :=
  idleCrane g.crane (fewerIncoming m.dest (s.setMove i (some { m with progress := .queued })))

/-! ### Places of a piece -/

/-- A piece is pushed on top of a stack (R123). -/
def pushPiece (i : StackId) (id : Nat) (s : State) : State :=
  s.modStack i fun x => { x with contents := x.contents ++ [id] }

/-- A piece leaves a stack, the pieces above it keeping their order (R127). -/
def pullPiece (i : StackId) (id : Nat) (s : State) : State :=
  s.modStack i fun x => { x with contents := x.contents.filter fun y => y != id }

/-- A piece leaves a bed's list, the pieces after it closing up (R97, R113). -/
def unlistPiece (b : BedId) (id : Nat) (s : State) : State :=
  s.modBed b fun x =>
    { x with cycle := { x.cycle with pieces := x.cycle.pieces.filter fun y => y != id } }

/-- The place of a number in a list, counted from 1; 0 when it is not there. -/
def placeIn (l : List Nat) (id : Nat) : Nat :=
  if l.contains id then l.findIdx (fun y => y == id) + 1 else 0

/-- A piece's place: its position in its bed's list, its tier in its stack, or its crane (R118). -/
def State.place (s : State) (x : Piece) : Place :=
  match x.location with
  | .bed b => .bed b (placeIn (((s.bed b).map fun y => y.cycle.pieces).getD []) x.id)
  | .stack i => .stack i (placeIn (((s.stack i).map fun y => y.contents).getD []) x.id)
  | .crane k => .crane k

/-- The piece is the top of the stack (R125). -/
def Stack.topIs (x : Stack) (id : Nat) : Bool := x.contents.getLast? == some id

/-- The stack has room for one more: its pieces plus its incoming count are below its tier limit (R124). -/
def Stack.hasRoom (x : Stack) : Bool := x.contents.length + x.incoming < x.defn.tierLimit

/-! ### A bed returning to EMPTY (R114) -/

/-- A bed back in EMPTY: its captured figures, maturity, regulation and working profile are gone; its
definition and aggregate stay (R42, R61, R68, R114). -/
def Bed.emptied (x : Bed) : Bed :=
  { x with
    cycle := ⟨.empty, [], none, none⟩
    maturity := Maturity.none
    heat := Regulation.idle }

/-- A bed returns to EMPTY, without the allocation of the event. -/
def returnToEmpty (b : BedId) (s : State) : State := s.modBed b Bed.emptied

/-- The bed is STRIPPING with an empty piece list: it returns to EMPTY at this event (R97, R113). -/
def State.emptiesNow (s : State) (b : BedId) : Bool :=
  ((s.bed b).map fun x => x.cycle.state == .stripping && x.cycle.pieces.isEmpty).getD false

/-- After a piece has left a bed's list: a STRIPPING bed left without pieces returns to EMPTY with an
allocation (R113, R114). -/
def settleBed (b : BedId) (e : Event) : Event :=
  if e.st.emptiesNow b then allocateRunning (e.upd (returnToEmpty b)) else e

end Sys2Proof.Machine
end

