-- ==== Sys2Proof/Machine/Beds.lean ====
section
/-! DEFINITION. The Bed Cycle Controller (chapter 6): the seven bed requests. -/

namespace Sys2Proof.Machine

/-- The checks the bed requests share after the state and role checks, then the request's own rule: the bed
number, the definition and, for a BEDSIDE port, the binding (R98). -/
def bedRequest (p : PortId) (bed : Nat) (rule : BedId → Bed → State → Taken) (s : State) : Taken :=
  match slot? 16 bed with
  | none => refuse s .badValue
  | some b =>
      match s.bed b with
      | none => refuse s .noSuch
      | some x =>
          if (s.port p).role = .bedside ∧ x.defn.bound ≠ some p then
            refuseWith s .notBound (.cycle x.cycle.state)
          else rule b x s

/-- A refusal by the cycle state, which the answer carries (R98). -/
def wrongCycle (x : Bed) (s : State) : Taken := refuseWith s .wrongState (.cycle x.cycle.state)

/-! ### BED_SET, CANCEL_SET, POUR_START (R99 to R101) -/

/-- A bed taken to a cycle state with its regulation record at the idle values (R68). -/
def Bed.reset (c : CycleState) (x : Bed) : Bed :=
  { x with
    cycle := { x.cycle with state := c }
    heat := { Regulation.idle with working := x.heat.working } }

/-- The rule of BED_SET on its bed (R99). -/
def ruleBedSet (b : BedId) (x : Bed) (s : State) : Taken :=
  if x.cycle.state = .empty then accept (s.setBed b (some (x.reset .set))) (.cycle .set)
  else wrongCycle x s

/-- BED_SET (R99). -/
def execBedSet (p : PortId) (tag : Byte) (bed : Nat) (s : State) : Host.Outcome State Fault Refusal :=
  .next (serve p tag .bedSet (bedRequest p bed ruleBedSet) s)

/-- The rule of CANCEL_SET on its bed (R100). -/
def ruleCancelSet (b : BedId) (x : Bed) (s : State) : Taken :=
  if x.cycle.state = .set then accept (s.setBed b (some (x.reset .empty))) (.cycle .empty)
  else wrongCycle x s

/-- CANCEL_SET (R100). -/
def execCancelSet (p : PortId) (tag : Byte) (bed : Nat) (s : State) :
    Host.Outcome State Fault Refusal :=
  .next (serve p tag .cancelSet (bedRequest p bed ruleCancelSet) s)

/-- The rule of POUR_START on its bed (R101). -/
def rulePourStart (b : BedId) (x : Bed) (s : State) : Taken :=
  if x.cycle.state = .set then
    accept (s.setBed b (some { x with cycle := { x.cycle with state := .casting } }))
      (.cycle .casting)
  else wrongCycle x s

/-- POUR_START (R101). -/
def execPourStart (p : PortId) (tag : Byte) (bed : Nat) (s : State) :
    Host.Outcome State Fault Refusal :=
  .next (serve p tag .pourStart (bedRequest p bed rulePourStart) s)

/-! ### POUR_END (R102 to R105) -/

/-- The largest of a figure over the classes of a list's entries (R103). -/
def State.largest (s : State) (f : ProductClass → Nat) (es : List PieceEntry) : Nat :=
  (es.map fun x => ((s.classOf x).map f).getD 0).foldl max 0

/-- The figures a POUR_END captures (R103). -/
def State.pourFigures (s : State) (es : List PieceEntry) : PourFigures :=
  ⟨s.largest (fun c => c.stripTarget) es, s.largest (fun c => c.stripAge) es, s.now⟩

/-- A bed at an accepted POUR_END: CURING with its list and captured figures, its maturity started, and its
working profile captured in PRESET (R42, R64, R103). -/
def Bed.pour (stored : Profile) (f : PourFigures) (ids : List Nat) (x : Bed) : Bed :=
  { x with
    cycle := ⟨.curing, ids, some f, x.cycle.release⟩
    maturity := ⟨0, some f.pourEnd, false, 0⟩
    heat :=
      { x.heat with
        working := some stored
        phase := .preset
        setpoint := some (x.agg.tmax.getD 0)
        carry := 0
        base := 0 } }

/-- A POUR_END accepted (R103). -/
def acceptPour (b : BedId) (x : Bed) (es : List PieceEntry) (s : State) : Taken :=
  let f := s.pourFigures es
  let ids := es.map fun y => y.id
  accept ((castPieces b f.pourEnd es s).setBed b (some (x.pour s.profiles[b] f ids)))
    (.poured .curing (s.stamp f.pourEnd) f.target f.minAge)

/-- A POUR_END to a CASTING bed (R102). -/
def pourCasting (b : BedId) (x : Bed) (es : List PieceEntry) (s : State) : Taken :=
  if ¬ (between 1 12 es.length ∧ es.all entryInRange) then
    refuseWith s .badValue (.cycle x.cycle.state)
  else if ¬ classesDefined s es then refuseWith s .noSuch (.cycle x.cycle.state)
  else if ¬ idsFree s es then refuseWith s .duplicate (.cycle x.cycle.state)
  else if ¬ recordsFree s es.length then refuseWith s .full (.cycle x.cycle.state)
  else acceptPour b x es s

/-- A POUR_END to a CURING bed: a resend is answered REPEAT when its ids are the bed's list (R105). -/
def pourResend (x : Bed) (es : List PieceEntry) (s : State) : Taken :=
  match x.cycle.figures with
  | none => wrongCycle x s
  | some f =>
      if (es.map fun y => y.id) = x.cycle.pieces then
        ⟨s.event, .repeated, .poured x.cycle.state (s.stamp f.pourEnd) f.target f.minAge⟩
      else wrongCycle x s

/-- The rule of POUR_END on its bed (R102 to R105). -/
def rulePourEnd (es : List PieceEntry) (b : BedId) (x : Bed) (s : State) : Taken :=
  match x.cycle.state with
  | .casting => pourCasting b x es s
  | .curing => pourResend x es s
  | _ => wrongCycle x s

/-- POUR_END (R102 to R105). -/
def execPourEnd (p : PortId) (tag : Byte) (bed : Nat) (entries : List PieceEntry) (s : State) :
    Host.Outcome State Fault Refusal :=
  .next (serve p tag .pourEnd (bedRequest p bed (rulePourEnd entries)) s)

/-! ### Detensioning (R108 to R110) -/

/-- The bed's Tmax less the yard temperature is above the differential limit (R108, check 4). -/
def tooWarm (limit : Int) (tmax yard : Option Int) : Bool :=
  decide (limit < tmax.getD 0 - yard.getD 0)

/-- A bed in DETENSIONING: phase OFF, base demand 0, the rest kept (R68, R109). -/
def Bed.detension (x : Bed) : Bed :=
  { x with
    cycle := { x.cycle with state := .detensioning }
    heat := { x.heat with phase := .off, carry := 0, base := 0 } }

/-- The rule of DETENSION_REQUEST on its bed (R108, R109). -/
def ruleDetensionRequest (b : BedId) (x : Bed) (s : State) : Taken :=
  if x.cycle.state ≠ .releasable then wrongCycle x s
  else if x.agg.status = .blind then refuseWith s .blind (.cycle x.cycle.state)
  else if s.scan.yard.status = .blind then refuseWith s .noAmbient (.cycle x.cycle.state)
  else if tooWarm s.settings.differentialLimit x.agg.tmax s.scan.yard.temp then
    refuseWith s .tooWarm (.cycle x.cycle.state)
  else accept (s.setBed b (some x.detension)) (.cycle .detensioning)

/-- DETENSION_REQUEST (R108, R109). -/
def execDetensionRequest (p : PortId) (tag : Byte) (bed : Nat) (s : State) :
    Host.Outcome State Fault Refusal :=
  .next (serve p tag .detensionRequest (bedRequest p bed ruleDetensionRequest) s)

/-- Every piece of a list takes a change (R110, R111). -/
def State.modPieces (s : State) (ids : List Nat) (f : Piece → Piece) : State :=
  { s with pieces := s.pieces.map fun x => if ids.contains x.id then f x else x }

/-- The rule of DETENSION_DONE on its bed (R110). -/
def ruleDetensionDone (b : BedId) (x : Bed) (s : State) : Taken :=
  if x.cycle.state ≠ .detensioning then wrongCycle x s
  else if x.cycle.pieces.isEmpty then
    acceptEvent (allocateRunning (returnToEmpty b s).event) (.cycle .empty)
  else
    accept
      ((s.modPieces x.cycle.pieces fun y => { y with state := .strippable }).setBed b
        (some { x with cycle := { x.cycle with state := .stripping } }))
      (.cycle .stripping)

/-- DETENSION_DONE (R110). -/
def execDetensionDone (p : PortId) (tag : Byte) (bed : Nat) (s : State) :
    Host.Outcome State Fault Refusal :=
  .next (serve p tag .detensionDone (bedRequest p bed ruleDetensionDone) s)

/-! ### ABANDON_BED (R111, R112) -/

/-- A piece made SCRAP by the abandonment of its bed: it takes the bed's count and gap flag, and now as its
last-accounted minute; a piece already SCRAP is left (R49, R111). -/
def Piece.scrapped (now : Int) (m : Maturity) (x : Piece) : Piece :=
  if x.state = .scrap then x
  else { x with state := .scrap, count := m.count, gap := m.gap, last := some now }

/-- A bed abandoned with pieces on it: STRIPPING, phase OFF and its requested demand formed again with base
demand 0 (R68, R72, R111). -/
def Bed.abandon (x : Bed) : Bed :=
  { x with
    cycle := { x.cycle with state := .stripping }
    heat :=
      { x.heat with
        phase := .off
        carry := 0
        base := 0
        requested := demandOf x.heat.frost x.heat.overheat 0 x.defn.guard } }

/-- An ABANDON_BED of a bed with pieces: queued moves dropped, pieces made SCRAP, the bed STRIPPING, and an
allocation (R111). -/
def abandonLoaded (b : BedId) (x : Bed) (s : State) : Event :=
  let s1 := x.cycle.pieces.foldl (fun s id => dropMoveOf id s) s
  let s2 := s1.modPieces x.cycle.pieces (Piece.scrapped s.now x.maturity)
  allocateRunning (s2.setBed b (some x.abandon)).event

/-- The rule of ABANDON_BED on its bed (R111). -/
def ruleAbandonBed (b : BedId) (x : Bed) (s : State) : Taken :=
  if x.cycle.state = .empty ∨ x.cycle.state = .set then wrongCycle x s
  else if x.cycle.state = .casting ∨ x.cycle.pieces.isEmpty then
    acceptEvent (allocateRunning (returnToEmpty b s).event) (.cycle .empty)
  else acceptEvent (abandonLoaded b x s) (.cycle .stripping)

/-- ABANDON_BED (R111). -/
def execAbandonBed (p : PortId) (tag : Byte) (bed : Nat) (s : State) :
    Host.Outcome State Fault Refusal :=
  .next (serve p tag .abandonBed (bedRequest p bed ruleAbandonBed) s)

end Sys2Proof.Machine
end

