-- ==== Sys2Proof/Machine/Pieces.lean ====
section
/-! DEFINITION. The Piece Registry (chapter 7): holds, deletion, shipment, and the reports of pieces and
stacks. -/

namespace Sys2Proof.Machine

/-- The registered piece a request names by an id of two bytes: an id of 0 is out of range. -/
def withPiece (id : Nat) (rule : Piece → State → Taken) (s : State) : Taken :=
  if ¬ idInRange id then refuse s .badValue
  else
    match s.piece id with
    | none => refuse s .noSuch
    | some x => rule x s

/-! ### Holds (R122) -/

/-- The rule of SET_HOLD (R122). -/
def takeSetHold (id reason : Nat) (s : State) : Taken :=
  withPiece id (fun x s =>
    accept (s.modPiece id fun y => { y with hold := some reason }) (.pieceState x.state)) s

/-- SET_HOLD (R122). -/
def execSetHold (p : PortId) (tag : Byte) (id reason : Nat) (s : State) :
    Host.Outcome State Fault Refusal :=
  .next (serve p tag .setHold (takeSetHold id reason) s)

/-- The rule of CLEAR_HOLD (R122). -/
def takeClearHold (id : Nat) (s : State) : Taken :=
  withPiece id (fun x s =>
    accept (s.modPiece id fun y => { y with hold := none }) (.pieceState x.state)) s

/-- CLEAR_HOLD (R122). -/
def execClearHold (p : PortId) (tag : Byte) (id : Nat) (s : State) :
    Host.Outcome State Fault Refusal :=
  .next (serve p tag .clearHold (takeClearHold id) s)

/-! ### Deletion (R130, R131) -/

/-- The piece stands in a stack and is not its top (R130, check 4). -/
def State.buried (s : State) (x : Piece) : Bool :=
  match x.location with
  | .stack i => !((s.stack i).map fun y => y.topIs x.id).getD false
  | .bed _ => false
  | .crane _ => false

/-- The effects of a deletion: the queued move is dropped, the piece leaves its bed or stack, a STRIPPING
bed left without pieces returns to EMPTY, and the record is freed (R131). -/
def erasePiece (x : Piece) (s : State) : Event :=
  let s1 := dropMoveOf x.id s
  match x.location with
  | .bed b => settleBed b ((unlistPiece b x.id s1).freePiece x.id).event
  | .stack i => ((pullPiece i x.id s1).freePiece x.id).event
  | .crane _ => (s1.freePiece x.id).event

/-- The rule of DELETE_PIECE (R130, R131). -/
def takeDeletePiece (id : Nat) (s : State) : Taken :=
  withPiece id (fun x s =>
    if s.inMotion x then refuse s .inMotion
    else if s.buried x then refuse s .notTop
    else acceptEvent (erasePiece x s) (.deleted x.state (s.place x))) s

/-- DELETE_PIECE (R130, R131). -/
def execDeletePiece (p : PortId) (tag : Byte) (id : Nat) (s : State) :
    Host.Outcome State Fault Refusal :=
  .next (serve p tag .deletePiece (takeDeletePiece id) s)

/-! ### Shipment (R132) -/

/-- A piece of the stack has a GRANTED move (R132, check 4). -/
def State.stackInMotion (s : State) (x : Stack) : Bool :=
  x.contents.any fun id => ((s.piece id).map fun y => s.inMotion y).getD false

/-- The effects of a shipment: queued moves dropped, every piece freed, the stack empty (R132). -/
def shipStack (i : StackId) (x : Stack) (s : State) : State :=
  let s1 := x.contents.foldl (fun s id => dropMoveOf id s) s
  let s2 := x.contents.foldl State.freePiece s1
  s2.setStack i (some { x with contents := [] })

/-- The rule of SHIP_DISPATCH (R132). -/
def takeShipDispatch (stack : Nat) (s : State) : Taken :=
  match slot? 96 stack with
  | none => refuse s .badValue
  | some i =>
      match s.stack i with
      | none => refuse s .noSuch
      | some x =>
          if x.defn.kind ≠ .dispatch then refuse s .badValue
          else if x.incoming ≠ 0 ∨ s.stackInMotion x then refuse s .busy
          else accept (shipStack i x s) (.shipped x.contents)

/-- SHIP_DISPATCH (R132). -/
def execShipDispatch (p : PortId) (tag : Byte) (stack : Nat) (s : State) :
    Host.Outcome State Fault Refusal :=
  .next (serve p tag .shipDispatch (takeShipDispatch stack) s)

/-! ### Reports (R134, R135) -/

/-- The pending move as READ_PIECE reports it (R134). -/
def State.pendingReport (s : State) (x : Piece) : Option PendingReport :=
  x.move.bind fun i => (s.move i).map fun m =>
    ⟨i, m.state, m.kind, m.dest, m.grant?.map fun g => g.crane⟩

/-- The figures READ_PIECE answers with (R56, R134). -/
def State.pieceReply (s : State) (x : Piece) : PieceReply where
  id := x.id
  cls := x.cls
  mass := x.mass
  castStamp := s.stamp x.castMinute
  age := s.now - x.castMinute
  shipTarget := x.shipTarget
  shipAge := x.shipAge
  state := x.state
  place := s.place x
  hold := x.hold
  shipReady := x.shipReady
  count := (s.maturityOf x).count
  lastStamp := (s.maturityOf x).last.map s.stamp
  gap := (s.maturityOf x).gap
  move := s.pendingReport x

/-- The rule of READ_PIECE (R134). -/
def takeReadPiece (id : Nat) (s : State) : Taken :=
  withPiece id (fun x s => accept s (.piece (s.pieceReply x))) s

/-- READ_PIECE (R134). -/
def execReadPiece (p : PortId) (tag : Byte) (id : Nat) (s : State) :
    Host.Outcome State Fault Refusal :=
  .next (serve p tag .readPiece (takeReadPiece id) s)

/-- The entries READ_STACK reports, bottom to top (R135). -/
def State.stackEntries (s : State) (x : Stack) : List StackEntry :=
  x.contents.filterMap fun id =>
    (s.piece id).map fun y => ⟨y.id, y.state, y.shipReady, y.hold, y.move⟩

/-- The free room of a stack (R135). -/
def Stack.room (x : Stack) : Nat := x.defn.tierLimit - (x.contents.length + x.incoming)

/-- The rule of READ_STACK (R135). -/
def takeReadStack (stack : Nat) (s : State) : Taken :=
  match slot? 96 stack with
  | none => refuse s .badValue
  | some i =>
      match s.stack i with
      | none => refuse s .noSuch
      | some x => accept s (.stack x.defn (s.stackEntries x) x.incoming x.room)

/-- READ_STACK (R135). -/
def execReadStack (p : PortId) (tag : Byte) (stack : Nat) (s : State) :
    Host.Outcome State Fault Refusal :=
  .next (serve p tag .readStack (takeReadStack stack) s)

end Sys2Proof.Machine
end

