-- ==== Sys2Proof/Machine/Moves.lean ====
section
/-! DEFINITION. The Move Table (chapter 8): entering, merging and cancelling moves, the crane's reports LIFTED,
PLACED and ABORT_MOVE, the move timers with MINUTE_EXPIRY, and READ_MOVE. -/

namespace Sys2Proof.Machine

/-! ### Entering a move (R139, R142 to R144) -/

/-- A piece's present place as the source of a move of this kind, when its state and place fit the kind (R139):
a STRIP from its bed, the other kinds from its stack. -/
def State.sourceFor (s : State) (k : MoveKind) (x : Piece) : Option Source :=
  match k, x.location with
  | .strip, .bed b =>
      if (x.state = .onBed ∨ x.state = .strippable)
          ∧ (s.bed b).any fun y =>
            y.cycle.state == .releasable || y.cycle.state == .detensioning
              || y.cycle.state == .stripping then some (.bed b) else none
  | .restack, .stack i => if x.state = .stocked then some (.stack i) else none
  | .load, .stack i => if x.state = .stocked then some (.stack i) else none
  | .ret, .stack i => if x.state = .dispatchStaged then some (.stack i) else none
  | _, _ => none

/-- The kind of stack a move of this kind is bound for (R139). -/
def MoveKind.destKind : MoveKind → StackKind
  | .strip => .stock
  | .restack => .stock
  | .load => .dispatch
  | .ret => .stock

/-- The piece's bed is bound to the port (R142, check 7). -/
def State.pieceBoundTo (s : State) (p : PortId) (x : Piece) : Bool :=
  match x.location with
  | .bed b => (s.bed b).any fun y => y.defn.bound == some p
  | .stack _ => false
  | .crane _ => false

/-- The merge of a request into the piece's QUEUED move (R143). -/
def mergeMove (p : PortId) (k : MoveKind) (src : Source) (dest : StackId) (i : SlotId) (m : Move)
    (s : State) : Taken :=
  let s1 := s.setMove i (some { m with kind := k, source := src, dest := dest })
  ⟨s1.event.see (.moveMerged p), .merged, .entered i m.seq⟩

/-- The lowest-numbered free slot (R140). -/
def State.freeSlot (s : State) : Option SlotId :=
  (List.finRange 64).find? fun i => (s.move i).isNone

/-- The state with a new move entered in a free slot (R140, R144). -/
def enterMove (p : PortId) (k : MoveKind) (id : Nat) (src : Source) (dest : StackId) (i : SlotId)
    (s : State) : State :=
  let seq := s.moves.seq + 1
  let s1 := s.setMove i (some ⟨k, id, src, dest, p, seq, .queued⟩)
  ({ s1 with
    moves := { s1.moves with
      seq := seq
      charged := s1.moves.charged.set p (s1.moves.charged[p] + 1) } }
    : State).modPiece id fun x => { x with move := some i }

/-- A new entry: the port's credit, then a free slot (R144). -/
def newMove (p : PortId) (k : MoveKind) (id : Nat) (src : Source) (dest : StackId) (s : State) :
    Taken :=
  if s.settings.creditLimit[p] ≤ s.moves.charged[p] then refuse s .noCredit
  else
    match s.freeSlot with
    | none => refuse s .full
    | some i =>
        acceptEvent ((enterMove p k id src dest i s).event.see (.moveEntered p))
          (.entered i (s.moves.seq + 1))

/-- Checks 8 to 10 of R142, then the merge or the new entry. -/
def placeRequest (p : PortId) (k : MoveKind) (x : Piece) (src : Source) (dest : StackId)
    (s : State) : Taken :=
  if k = .load ∧ x.hold.isSome then refuse s .held
  else
    match s.stack dest with
    | none => refuse s .noSuch
    | some d =>
        if d.defn.kind ≠ k.destKind ∨ ¬ d.defn.isOpen ∨ src = .stack dest then refuse s .badValue
        else
          match x.move.bind fun i => (s.move i).map fun m => (i, m) with
          | some im => mergeMove p k src dest im.1 im.2 s
          | none => newMove p k x.id src dest s

/-- The rule of REQUEST_MOVE (R142 to R144). A BEDSIDE port may ask for STRIP only (check 2). -/
def takeRequestMove (p : PortId) (kind id dest : Nat) (s : State) : Taken :=
  if (s.port p).role = .bedside ∧ moveKind? kind ≠ some .strip then refuse s .notPermitted
  else
    match moveKind? kind, slot? 96 dest with
    | some k, some d =>
        withPiece id (fun x s =>
          if s.inMotion x then refuse s .inMotion
          else
            match s.sourceFor k x with
            | none => refuse s .wrongState
            | some src =>
                if (s.port p).role = .bedside ∧ ¬ s.pieceBoundTo p x then refuse s .notBound
                else placeRequest p k x src d s) s
    | _, _ => refuse s .badValue

/-- REQUEST_MOVE (R142 to R144). -/
def execRequestMove (p : PortId) (tag : Byte) (kind id dest : Nat) (s : State) :
    Host.Outcome State Fault Refusal :=
  .next (serve p tag .requestMove (takeRequestMove p kind id dest) s)

/-! ### Withdrawing a move (R145) -/

/-- The rule of CANCEL_MOVE (R145). -/
def takeCancelMove (p : PortId) (slot id : Nat) (s : State) : Taken :=
  match slot? 64 slot with
  | none => refuse s .badValue
  | some i =>
      if ¬ idInRange id then refuse s .badValue
      else
        match s.move i with
        | none => refuse s .noSuch
        | some m =>
            if m.piece ≠ id then refuse s .noSuch
            else if m.requester ≠ p ∧ (s.port p).role ≠ .office then refuse s .notPermitted
            else if ¬ m.isQueued then refuse s .inMotion
            else accept (leaveTable i m s) .empty

/-- CANCEL_MOVE (R145). -/
def execCancelMove (p : PortId) (tag : Byte) (slot id : Nat) (s : State) :
    Host.Outcome State Fault Refusal :=
  .next (serve p tag .cancelMove (takeCancelMove p slot id) s)

/-! ### The crane's reports (R148 to R151) -/

/-- The crane checks of R177, step 5, then a rule on the enrolled crane. -/
def withCrane (p : PortId) (crane : Nat) (rule : CraneId → Enrolment → State → Taken) (s : State) :
    Taken :=
  match slot? 4 crane with
  | none => refuse s .badValue
  | some k =>
      match (s.crane k).enrolment with
      | none => refuse s .noSuch
      | some e => if e.bound ≠ p then refuse s .notBound else rule k e s

/-- A report of a crane: the crane checks, then the slot number (R148). -/
def craneReport (p : PortId) (crane slot : Nat) (rule : CraneId → SlotId → State → Taken)
    (s : State) : Taken :=
  withCrane p crane (fun k _ s =>
    match slot? 64 slot with
    | none => refuse s .badValue
    | some i => rule k i s) s

/-- A piece lifted: it goes to the crane, IN_TRANSIT unless SCRAP; from a bed it takes the bed's count, now
as its last-accounted minute, and the bed's gap flag if set (R50, R127). -/
def Piece.lift (k : CraneId) (now : Int) (bedMaturity : Option Maturity) (x : Piece) : Piece :=
  match x.state, bedMaturity with
  | .scrap, _ => { x with location := .crane k }
  | _, none => { x with location := .crane k, state := .inTransit }
  | _, some m =>
      { x with
        location := .crane k
        state := .inTransit
        count := m.count
        last := some now
        gap := x.gap || m.gap }

/-- The maturity of the bed a move lifts its piece from. -/
def State.sourceMaturity (s : State) (m : Move) : Option Maturity :=
  match m.source with
  | .bed b => (s.bed b).map fun y => y.maturity
  | .stack _ => none

/-- The piece of a move leaves its source (R127). -/
def leaveSource (m : Move) (s : State) : State :=
  match m.source with
  | .bed b => unlistPiece b m.piece s
  | .stack i => pullPiece i m.piece s

/-- A STRIPPING bed left without pieces by a lift returns to EMPTY (R114, R148). -/
def settleSource (m : Move) (e : Event) : Event :=
  match m.source with
  | .bed b => settleBed b e
  | .stack _ => e

/-- The effects of an accepted LIFTED (R148). -/
def liftMove (k : CraneId) (i : SlotId) (m : Move) (g : Grant) (s : State) : Event :=
  let s1 := s.setMove i (some { m with progress := .lifted g s.now false })
  let s2 := (leaveSource m s1).modPiece m.piece (Piece.lift k s.now (s.sourceMaturity m))
  settleSource m s2.event

/-- The rule of LIFTED on its crane and slot (R148). -/
def ruleLifted (id : Nat) (k : CraneId) (i : SlotId) (s : State) : Taken :=
  match s.move i with
  | none => refuse s .tooLate
  | some m =>
      match m.progress with
      | .queued => refuse s .tooLate
      | .granted g =>
          if g.crane ≠ k then refuse s .tooLate
          else if m.piece ≠ id then refuse s .badValue
          else acceptEvent (liftMove k i m g s) .empty
      | .lifted g _ _ =>
          if g.crane ≠ k then refuse s .tooLate
          else if m.piece ≠ id then refuse s .badValue
          else ⟨s.event, .repeated, .empty⟩

/-- LIFTED (R148). -/
def execLifted (p : PortId) (tag : Byte) (crane slot id : Nat) (s : State) :
    Host.Outcome State Fault Refusal :=
  .next (serve p tag .lifted (craneReport p crane slot (ruleLifted id)) s)

/-- A piece set down on a stack: STOCKED or DISPATCH_STAGED by the stack's kind, or SCRAP as before (R128). -/
def Piece.setDown (i : StackId) (k : StackKind) (x : Piece) : Piece :=
  { x with
    location := .stack i
    state :=
      if x.state = .scrap then .scrap
      else
        match k with
        | .stock => .stocked
        | .dispatch => .dispatchStaged }

/-- The number of pieces in a stack. -/
def State.stackHeight (s : State) (i : StackId) : Nat :=
  ((s.stack i).map fun y => y.contents.length).getD 0

/-- A lifted move ends with its piece on a stack: the piece is pushed there, the destination's incoming count
falls, the reservation is removed, the move leaves the table, and the crane becomes IDLE with its last
completed move noted; then an allocation (R128, R149, R151). -/
def endMove (k : CraneId) (i : SlotId) (m : Move) (onto : StackId) (kind : StackKind) (how : Ending)
    (s : State) : Event :=
  let tier := s.stackHeight onto + 1
  let s1 := (pushPiece onto m.piece (fewerIncoming m.dest s)).modPiece m.piece
    (Piece.setDown onto kind)
  let s2 := idleCrane k (leaveTable i m s1)
  let s3 := s2.modCrane k fun c => { c with lastMove := some ⟨i, m.piece, onto, tier, how⟩ }
  allocateRunning (s3.event.see (.moveCompleted k m.requester))

/-- The REPEAT answer from the crane's last completed move, if the crane is IDLE and the slot is that move's
(R149, R151). -/
def repeatLast (k : CraneId) (i : SlotId) (otherwise : Result) (s : State) : Taken :=
  match (s.crane k).held, (s.crane k).lastMove with
  | none, some l =>
      if l.slot = i then ⟨s.event, .repeated, .setDown l.stack l.tier⟩ else refuse s otherwise
  | _, _ => refuse s otherwise

/-- The stack kind a piece is placed on by a move of this kind: PLACED makes the piece of a LOAD
DISPATCH_STAGED and any other STOCKED (R128). -/
def MoveKind.placedAs (k : MoveKind) : StackKind := k.destKind

/-- The rule of PLACED on its crane and slot (R149). -/
def rulePlaced (k : CraneId) (i : SlotId) (s : State) : Taken :=
  match s.move i with
  | none => repeatLast k i .wrongState s
  | some m =>
      match m.progress with
      | .queued => repeatLast k i .wrongState s
      | .granted _ => repeatLast k i .wrongState s
      | .lifted g _ _ =>
          if g.crane ≠ k then repeatLast k i .wrongState s
          else
            acceptEvent (endMove k i m m.dest m.kind.placedAs .placed s)
              (.setDown m.dest (s.stackHeight m.dest + 1))

/-- PLACED (R149). -/
def execPlaced (p : PortId) (tag : Byte) (crane slot : Nat) (s : State) :
    Host.Outcome State Fault Refusal :=
  .next (serve p tag .placed (craneReport p crane slot rulePlaced) s)

/-- An ABORT_MOVE of a GRANTED move: the move returns to QUEUED, with an allocation (R150). -/
def handBack (i : SlotId) (m : Move) (g : Grant) (s : State) : Taken :=
  acceptEvent (allocateRunning (requeue i m g s).event) .empty

/-- An ABORT_MOVE of a LIFTED move: the set-down checks, then the move ends as diverted (R151). -/
def divert (k : CraneId) (i : SlotId) (m : Move) (g : Grant) (setDown : Option Nat) (s : State) :
    Taken :=
  match setDown.bind (slot? 96) with
  | none => refuse s .badValue
  | some onto =>
      match s.stack onto with
      | none => refuse s .noSuch
      | some x =>
          if onto ≠ m.dest ∧ ¬ (x.defn.isOpen ∧ x.defn.kind = .stock) then refuse s .badValue
          else if onto ≠ m.dest ∧ ¬ x.hasRoom then refuse s .noRoom
          else if ¬ between g.spanLow g.spanHigh x.defn.bay then refuse s .badValue
          else
            ⟨endMove k i m onto x.defn.kind .diverted s, .diverted,
              .setDown onto (s.stackHeight onto + 1)⟩

/-- The rule of ABORT_MOVE on its crane and slot (R150, R151). -/
def ruleAbortMove (setDown : Option Nat) (k : CraneId) (i : SlotId) (s : State) : Taken :=
  match s.move i with
  | none => repeatLast k i .tooLate s
  | some m =>
      match m.progress with
      | .queued => repeatLast k i .tooLate s
      | .granted g => if g.crane ≠ k then repeatLast k i .tooLate s else handBack i m g s
      | .lifted g _ _ =>
          if g.crane ≠ k then repeatLast k i .tooLate s else divert k i m g setDown s

/-- The rule of ABORT_MOVE with its optional set-down stack (R150, R151). -/
def takeAbortMove (p : PortId) (crane slot stackGiven stack : Nat) (s : State) : Taken :=
  craneReport p crane slot (fun k i s =>
    match optional? stackGiven stack with
    | none => refuse s .badValue
    | some setDown => ruleAbortMove setDown k i s) s

/-- ABORT_MOVE (R150, R151). -/
def execAbortMove (p : PortId) (tag : Byte) (crane slot stackGiven stack : Nat) (s : State) :
    Host.Outcome State Fault Refusal :=
  .next (serve p tag .abortMove (takeAbortMove p crane slot stackGiven stack) s)

/-! ### Move timers (R152, R153) -/

/-- A GRANTED move whose grant minute is at least the grant timeout before now (R152). -/
def State.timedOut (s : State) (m : Move) : Option Grant :=
  match m.progress with
  | .queued => none
  | .granted g => if (s.settings.grantTimeout : Int) ≤ s.now - g.minute then some g else none
  | .lifted _ _ _ => none

/-- A move revoked at the grant timeout, if it has timed out (R152). -/
def revoke (e : Event) (i : SlotId) : Event :=
  match e.st.move i with
  | none => e
  | some m =>
      match e.st.timedOut m with
      | none => e
      | some g =>
          let toward := e.st.towardMove m
          (e.upd fun s => (requeue i m g s).raise .moveRevoked toward).see
            (.moveRevoked g.crane m.requester)

/-- Some GRANTED move has timed out. -/
def State.anyTimedOut (s : State) : Bool :=
  s.moveList.any fun x => (s.timedOut x.2).isSome

/-- The judging of every GRANTED move at an expiry, and one allocation when every revoke has been made; in
LOADING there is nothing to judge (R152). -/
def judgeGrants (e : Event) : Event :=
  match e.st.ctl with
  | .loading => e
  | .running =>
      if e.st.anyTimedOut then allocate ((List.finRange 64).foldl revoke e) else e

/-- A LIFTED move whose lift minute is at least the lift overdue before now, with its flag clear (R153). -/
def State.comesOverdue (s : State) (m : Move) : Bool :=
  match m.progress with
  | .queued => false
  | .granted _ => false
  | .lifted _ minute flag => !flag && decide ((s.settings.liftOverdue : Int) ≤ s.now - minute)

/-- A move with its overdue-raised flag set. -/
def Move.markOverdue (m : Move) : Move :=
  match m.progress with
  | .queued => m
  | .granted _ => m
  | .lifted g minute _ => { m with progress := .lifted g minute true }

/-- A move that comes overdue has its flag set and LIFT_OVERDUE raised (R153). -/
def flagOverdue (s : State) (i : SlotId) : State :=
  match s.move i with
  | none => s
  | some m =>
      if s.comesOverdue m then
        (s.setMove i (some m.markOverdue)).raise .liftOverdue (s.towardMove m)
      else s

/-- The judging of every LIFTED move at an expiry; in LOADING there is nothing to judge (R153). -/
def judgeLifts (s : State) : State :=
  match s.ctl with
  | .loading => s
  | .running => (List.finRange 64).foldl flagOverdue s

/-- The greatest run minute (R1). -/
def maxMinute : Int := 2147483647

/-- The run minute advances by one, saturating (R1). -/
def advanceMinute (s : State) : State :=
  { s with clock := { s.clock with runMinute := min (s.now + 1) maxMinute } }

/-- MINUTE_EXPIRY (R1): the run minute advances, then every GRANTED and every LIFTED move is judged
(R152, R153). -/
def execMinuteExpiry (s : State) : Host.Outcome State Fault Refusal :=
  .next ((judgeGrants (advanceMinute s).event).upd judgeLifts).close

/-- GRANT_TIMEOUT (R152): the judging of the GRANTED moves of an expiry, at the run minute as it stands
(notes/assumptions/2.md). -/
def execGrantTimeout (s : State) : Host.Outcome State Fault Refusal :=
  .next (judgeGrants s.event).close

/-- LIFT_OVERDUE (R153): the judging of the LIFTED moves of an expiry, at the run minute as it stands
(notes/assumptions/2.md). -/
def execLiftOverdue (s : State) : Host.Outcome State Fault Refusal :=
  .next (judgeLifts s)

/-! ### Reading the table (R154) -/

/-- The lift minute of a LIFTED move. -/
def Move.liftMinute? (m : Move) : Option Int :=
  match m.progress with
  | .queued => none
  | .granted _ => none
  | .lifted _ minute _ => some minute

/-- The overdue-raised flag of a LIFTED move. -/
def Move.overdue? (m : Move) : Option Bool :=
  match m.progress with
  | .queued => none
  | .granted _ => none
  | .lifted _ _ flag => some flag

/-- The figures of a grant as a report gives them. -/
def Grant.figures (g : Grant) : GrantFigures :=
  ⟨g.crane, g.rating, g.spanLow, g.spanHigh, g.clearance⟩

/-- A move as READ_MOVE reports it (R2, R154). -/
def State.moveReport (s : State) (m : Move) : MoveReport where
  kind := m.kind
  piece := m.piece
  source := m.source
  dest := m.dest
  requester := m.requester
  seq := m.seq
  state := m.state
  grant := m.grant?.map Grant.figures
  overdue := m.overdue?
  grantStamp := m.grant?.map fun g => s.stamp g.minute
  sinceGrant := m.grant?.map fun g => s.now - g.minute
  liftStamp := m.liftMinute?.map s.stamp
  sinceLift := m.liftMinute?.map fun t => s.now - t
  age := s.moves.seq - m.seq

/-- The rule of READ_MOVE (R154). -/
def takeReadMove (slot : Nat) (s : State) : Taken :=
  match slot? 64 slot with
  | none => refuse s .badValue
  | some i =>
      accept s (.table
        { slot := (s.move i).map s.moveReport
          occupied := s.moveList.length
          seq := s.moves.seq
          charged := s.moves.charged
          creditLimit := s.settings.creditLimit })

/-- READ_MOVE (R154). -/
def execReadMove (p : PortId) (tag : Byte) (slot : Nat) (s : State) :
    Host.Outcome State Fault Refusal :=
  .next (serve p tag .readMove (takeReadMove slot) s)

end Sys2Proof.Machine
end

