-- ==== Sys2Proof/Machine/Arbiter.lean ====
section
/-! DEFINITION. The Crane Arbiter (chapter 9): eligibility, the span interlock, the service mode, selection and
the grant, with NEXT_MOVE, SET_MODE and READ_CRANE. -/

namespace Sys2Proof.Machine

/-! ### Eligibility (R160 to R162) -/

/-- The bays of a source: a bed's first and last bay, or a stack's bay twice. -/
def State.sourceSpan (s : State) (src : Source) : Option (Nat × Nat) :=
  match src with
  | .bed b => (s.bed b).map fun x => (x.defn.firstBay, x.defn.lastBay)
  | .stack i => (s.stack i).map fun x => (x.defn.bay, x.defn.bay)

/-- The piece of a move can be taken from its source now (R160, check 1). -/
def State.accessible (s : State) (m : Move) : Bool :=
  match m.source with
  | .bed b => (s.bed b).any fun x => x.cycle.state == .stripping
  | .stack i =>
      (s.stack i).any (fun x => x.topIs m.piece)
        && (m.kind != .load || (s.piece m.piece).any fun y => y.shipReady && y.hold.isNone)

/-- The destination is open and has room (R160, check 2). -/
def State.destReady (s : State) (m : Move) : Bool :=
  (s.stack m.dest).any fun x => x.defn.isOpen && x.hasRoom

/-- The crane reaches every bay of the source and the destination, and bears the piece (R160, check 3). -/
def State.reaches (s : State) (e : Enrolment) (m : Move) : Bool :=
  ((s.sourceSpan m.source).any fun w =>
      between e.low e.high w.1 && between e.low e.high w.2)
    && ((s.stack m.dest).any fun x => between e.low e.high x.defn.bay)
    && (s.piece m.piece).any fun y => y.mass ≤ e.capacity

/-- The span of a move for a crane standing at a bay: from the least to the greatest of the bay, the
source's bays and the destination's bay (R162). -/
def State.spanOf (s : State) (bay : Nat) (m : Move) : Nat × Nat :=
  let w := (s.sourceSpan m.source).getD (bay, bay)
  let d := ((s.stack m.dest).map fun x => x.defn.bay).getD bay
  (min bay (min (min w.1 w.2) d), max bay (max (max w.1 w.2) d))

/-- Two spans, each widened on both sides by its clearance, share a bay; bays beyond the rail count (R162). -/
def widenedMeet (lo1 hi1 c1 lo2 hi2 c2 : Nat) : Bool :=
  spansMeet ((lo1 : Int) - c1) (hi1 + c1) ((lo2 : Int) - c2) (hi2 + c2)

/-- The grants of the moves that other cranes hold (R162). -/
def State.otherGrants (s : State) (k : CraneId) : List Grant :=
  (s.moveList.filterMap fun x => x.2.grant?).filter fun g => g.crane != k

/-- The move's widened span is clear of every widened captured span that another crane holds (R162). -/
def State.spanClear (s : State) (k : CraneId) (bay : Nat) (m : Move) : Bool :=
  let w := s.spanOf bay m
  (s.otherGrants k).all fun g =>
    !widenedMeet w.1 w.2 s.settings.clearance g.spanLow g.spanHigh g.clearance

/-- The first three checks of eligibility (R160). -/
def State.workable (s : State) (e : Enrolment) (m : Move) : Bool :=
  s.accessible m && s.destReady m && s.reaches e m

/-- A QUEUED move passes all five checks for a crane at a bay (R160 to R162). -/
def State.eligible (s : State) (k : CraneId) (e : Enrolment) (bay : Nat) (m : Move) : Bool :=
  s.workable e m && s.powerFits e.rating && s.spanClear k bay m

/-! ### Service mode (R163, R166 to R168) -/

/-- A move of this kind belongs to the class of a mode for selection; RESTACK to both (R163). -/
def ServiceMode.serves (mode : ServiceMode) (k : MoveKind) : Bool :=
  match mode, k with
  | _, .restack => true
  | .strip, .strip => true
  | .dispatch, .load => true
  | .dispatch, .ret => true
  | _, _ => false

/-- A move of this kind counts for a class in the switching rule; RESTACK for neither (R166). -/
def ServiceMode.counts (mode : ServiceMode) (k : MoveKind) : Bool :=
  match mode, k with
  | _, .restack => false
  | m, k => m.serves k

/-- The number of QUEUED moves that count for a class (R167). -/
def State.waiting (s : State) (mode : ServiceMode) : Nat :=
  (s.queued.filter fun x => mode.counts x.2.kind).length

/-- The other service mode. -/
def ServiceMode.other : ServiceMode → ServiceMode
  | .strip => .dispatch
  | .dispatch => .strip

/-- The starve count of a class. -/
def Arbiter.starve (a : Arbiter) : ServiceMode → Nat
  | .strip => a.stripStarve
  | .dispatch => a.dispatchStarve

/-- The starve count of a class set. -/
def Arbiter.setStarve (a : Arbiter) (mode : ServiceMode) (n : Nat) : Arbiter :=
  match mode with
  | .strip => { a with stripStarve := n }
  | .dispatch => { a with dispatchStarve := n }

/-- The low threshold of a mode: strip-low or dispatch-low. -/
def Settings.low (c : Settings) : ServiceMode → Nat
  | .strip => c.stripLow
  | .dispatch => c.dispatchLow

/-- The mode switches at this NEXT_MOVE: the lock is clear, the current class runs low or the other class
has starved, and the other class has moves QUEUED (R167). -/
def State.switches (s : State) : Bool :=
  let mode := s.arbiter.mode
  !s.arbiter.lock
    && (s.waiting mode ≤ s.settings.low mode
      || s.settings.starveLimit ≤ s.arbiter.starve mode.other)
    && 0 < s.waiting mode.other

/-- The service mode changed to a mode, whose starve count becomes 0 (R167, R169). -/
def Arbiter.turn (a : Arbiter) (mode : ServiceMode) : Arbiter :=
  { (a.setStarve mode 0) with mode := mode }

/-- The evaluation of the mode switch (R167). -/
def evaluateSwitch (e : Event) : Event :=
  if e.st.switches then
    (e.upd fun s => { s with arbiter := s.arbiter.turn s.arbiter.mode.other }).see .modeSwitch
  else e

/-- The class a kind of move counts for, if it counts for one (R166). -/
def MoveKind.cls : MoveKind → Option ServiceMode
  | .strip => some .strip
  | .restack => none
  | .load => some .dispatch
  | .ret => some .dispatch

/-- The starve counts after a grant, once the move has left QUEUED (R168). -/
def starveAfter (k : MoveKind) (s : State) : State :=
  match k.cls with
  | none => s
  | some mode =>
      let a := s.arbiter.setStarve mode 0
      let n := a.starve mode.other
      { s with arbiter :=
          if 0 < s.waiting mode.other then a.setStarve mode.other (min (n + 1) 255) else a }

/-! ### Selection and the grant (R163, R164) -/

/-- The oldest of a list of moves: the one of greatest age (R140). -/
def State.oldest (s : State) : List (SlotId × Move) → Option (SlotId × Move)
  | [] => none
  | x :: rest => some (rest.foldl (fun y z => if s.age y.2 < s.age z.2 then z else y) x)

/-- The QUEUED moves eligible for a crane at a bay, in slot order. -/
def State.eligibleMoves (s : State) (k : CraneId) (e : Enrolment) (bay : Nat) :
    List (SlotId × Move) :=
  s.queued.filter fun x => s.eligible k e bay x.2

/-- The move selected: the oldest eligible move of the current mode's class, or else the oldest of the
other class (R163). -/
def State.select (s : State) (k : CraneId) (e : Enrolment) (bay : Nat) : Option (SlotId × Move) :=
  let l := s.eligibleMoves k e bay
  match s.oldest (l.filter fun x => s.arbiter.mode.serves x.2.kind) with
  | some x => some x
  | none => s.oldest l

/-- The source as the answer to a grant gives it (R164). -/
def State.sourceReport (s : State) (m : Move) : SourceReport :=
  match m.source with
  | .bed b =>
      let w := (s.sourceSpan m.source).getD (0, 0)
      .bed b w.1 w.2
  | .stack i =>
      .stack i (((s.stack i).map fun x => x.defn.bay).getD 0)
        (placeIn (((s.stack i).map fun x => x.contents).getD []) m.piece)

/-- The answer to a grant, or to the NEXT_MOVE of the crane that holds the move (R159, R164). -/
def State.grantReport (s : State) (h : Held) (m : Move) : GrantReport where
  slot := h.slot
  seq := m.seq
  kind := m.kind
  piece := m.piece
  mass := ((s.piece m.piece).map fun y => y.mass).getD 0
  source := h.source
  dest := m.dest
  destBay := ((s.stack m.dest).map fun x => x.defn.bay).getD 0
  tier := h.tier
  grantStamp := s.stamp ((m.grant?.map fun g => g.minute).getD 0)
  isLifted := m.liftMinute?.isSome

/-- The tier at which a granted piece will sit: the destination's pieces plus its incoming count, this
grant's move included (R126). -/
def State.tierAt (s : State) (i : StackId) : Nat :=
  ((s.stack i).map fun x => x.contents.length + x.incoming + 1).getD 1

/-- What a grant captures in the move (R147). -/
def State.grantOf (s : State) (k : CraneId) (e : Enrolment) (bay : Nat) (m : Move) : Grant :=
  let w := s.spanOf bay m
  ⟨k, s.now, e.rating, w.1, w.2, s.settings.clearance⟩

/-- What the crane holds from a grant (R158, R164). -/
def State.heldAt (s : State) (i : SlotId) (m : Move) : Held :=
  ⟨i, s.tierAt m.dest, s.sourceReport m⟩

/-- The state a grant makes, before its allocation: the move GRANTED, the incoming count raised, the
reservation set, the crane HOLDING, and the starve counts updated (R147, R164). -/
def grantMove (k : CraneId) (e : Enrolment) (bay : Nat) (i : SlotId) (m : Move) (s : State) : State :=
  let s1 := s.setMove i (some { m with progress := .granted (s.grantOf k e bay m) })
  let s2 := s1.modStack m.dest fun x => { x with incoming := x.incoming + 1 }
  let s3 := s2.modCrane k fun c =>
    { c with held := some (s.heldAt i m), reservation := some ⟨e.rating, i⟩ }
  starveAfter m.kind s3

/-- A grant with its allocation and what the counters see (R163, R164). -/
def makeGrant (k : CraneId) (e : Enrolment) (bay : Nat) (i : SlotId) (m : Move) (ev : Event) :
    Taken :=
  let s := ev.st
  let s1 := grantMove k e bay i m s
  let ev1 := (ev.upd fun _ => s1).see (.moveGranted k m.requester)
  let ev2 := if s.arbiter.mode.serves m.kind then ev1 else ev1.see (.offMode k m.requester)
  let m1 : Move := { m with progress := .granted (s.grantOf k e bay m) }
  acceptEvent (allocateRunning ev2) (.grant (s1.grantReport (s.heldAt i m) m1))

/-- The reason of a NONE answer (R165). -/
def State.noneReason (s : State) (k : CraneId) (e : Enrolment) (bay : Nat) : NoneReason :=
  let ready := s.queued.filter fun x => s.workable e x.2
  let power := s.powerFits e.rating
  if s.queued.isEmpty then .queueEmpty
  else if !power && ready.any fun x => s.spanClear k bay x.2 then .powerWait
  else if power && ready.any fun x => !s.spanClear k bay x.2 then .spanWait
  else .noneEligible

/-- The answer NONE (R165); POWER_WAIT is seen by the counters. -/
def answerNone (k : CraneId) (e : Enrolment) (bay : Nat) (ev : Event) : Taken :=
  let r := ev.st.noneReason k e bay
  ⟨if r = .powerWait then ev.see (.powerWait k) else ev, .noWork,
    .noMove r ev.st.arbiter.mode ev.st.queued.length⟩

/-- The NEXT_MOVE of an IDLE crane: the mode switch, then a grant or NONE (R159). -/
def findWork (k : CraneId) (e : Enrolment) (bay : Nat) (s : State) : Taken :=
  let ev := evaluateSwitch s.event
  match ev.st.select k e bay with
  | none => answerNone k e bay ev
  | some x => makeGrant k e bay x.1 x.2 ev

/-- The NEXT_MOVE of a HOLDING crane: REPEAT with the move it holds (R159). -/
def repeatGrant (h : Held) (s : State) : Taken :=
  match s.move h.slot with
  | none => ⟨s.event, .repeated, .empty⟩
  | some m => ⟨s.event, .repeated, .grant (s.grantReport h m)⟩

/-- The rule of NEXT_MOVE (R159). -/
def takeNextMove (p : PortId) (crane bay : Nat) (s : State) : Taken :=
  withCrane p crane (fun k e s =>
    if ¬ between e.low e.high bay then refuse s .badValue
    else
      let s1 := s.modCrane k fun c => { c with lastBay := some bay }
      match (s.crane k).held with
      | some h => repeatGrant h s1
      | none => findWork k e bay s1) s

/-- NEXT_MOVE (R159). -/
def execNextMove (p : PortId) (tag : Byte) (crane bay : Nat) (s : State) :
    Host.Outcome State Fault Refusal :=
  .next (serve p tag .nextMove (takeNextMove p crane bay) s)

/-! ### SET_MODE and READ_CRANE (R169, R170) -/

/-- The rule of SET_MODE (R169). -/
def takeSetMode (mode lock : Nat) (s : State) : Taken :=
  match serviceMode? mode, flag? lock with
  | some m, some l =>
      if m = s.arbiter.mode then
        accept { s with arbiter := { s.arbiter with lock := l } } (.service m l)
      else
        acceptEvent
          (({ s with arbiter := { (s.arbiter.turn m) with lock := l } } : State).event.see
            .modeSwitch)
          (.service m l)
  | _, _ => refuse s .badValue

/-- SET_MODE (R169). -/
def execSetMode (p : PortId) (tag : Byte) (mode lock : Nat) (s : State) :
    Host.Outcome State Fault Refusal :=
  .next (serve p tag .setMode (takeSetMode mode lock) s)

/-- The move a crane holds, as READ_CRANE reports it (R170). -/
def State.heldReport (s : State) (k : CraneId) : Option HeldReport :=
  (((s.crane k).held.bind fun h => s.move h.slot).bind fun m =>
    m.grant?.map fun g => ⟨m.state, g.spanLow, g.spanHigh, g.clearance⟩)

/-- The figures READ_CRANE answers with (R170). -/
def State.craneReport (s : State) (k : CraneId) : CraneReport where
  enrolment := (s.crane k).enrolment
  slot := (s.crane k).held.map fun h => h.slot
  tier := (s.crane k).held.map fun h => h.tier
  lastBay := (s.crane k).lastBay
  lastMove := (s.crane k).lastMove
  heldMove := s.heldReport k
  reservation := (s.crane k).reservation
  arbiter := s.arbiter
  queuedStrip := s.waiting .strip
  queuedDispatch := s.waiting .dispatch
  queuedRestack := (s.queued.filter fun x => x.2.kind == .restack).length

/-- The rule of READ_CRANE (R170). -/
def takeReadCrane (crane : Nat) (s : State) : Taken :=
  match slot? 4 crane with
  | none => refuse s .badValue
  | some k => accept s (.crane (s.craneReport k))

/-- READ_CRANE (R170). -/
def execReadCrane (p : PortId) (tag : Byte) (crane : Nat) (s : State) :
    Host.Outcome State Fault Refusal :=
  .next (serve p tag .readCrane (takeReadCrane crane) s)

end Sys2Proof.Machine
end

