-- ==== Sys2Proof/Machine/Counters.lean ====
section
/-! DEFINITION. The requests of the Activity Counters (chapter 11). What an event adds to them is in
Sys2Proof/Machine/Ops.lean. -/

namespace Sys2Proof.Machine

/-- The state with every counter changed. -/
def State.modCounters (s : State) (f : Fin 8 → Counter → Counter) : State :=
  { s with counters := { s.counters with counters := onEach f s.counters.counters } }

/-- The judged operands of SET_COUNTER (R188). -/
structure CounterSetting where
  counter : Fin 8
  selection : Selection
  filter : Filter
  freezeEnable : Bool
  preload : Option Nat
  deriving DecidableEq, Repr

/-- The operands of SET_COUNTER, if none of R188's cases for BAD_VALUE holds. -/
def counterSetting? (counter sel filterKind filterNumber freeze preloadGiven preload : Nat) :
    Option CounterSetting :=
  match slot? 8 counter, selection? sel, filter? filterKind filterNumber, flag? freeze,
    optional? preloadGiven preload with
  | some i, some q, some f, some z, some v => if q.carries f then some ⟨i, q, f, z, v⟩ else none
  | _, _, _, _, _ => none

/-- A counter after an accepted SET_COUNTER: the overflow flag is kept (R188). -/
def Counter.settle (x : CounterSetting) (c : Counter) : Counter :=
  { c with
    selection := x.selection
    filter := x.filter
    freezeEnable := x.freezeEnable
    value := match x.preload with
      | none => c.value
      | some v => BitVec.ofNat 32 v }

/-- The rule of SET_COUNTER (R188). -/
def takeSetCounter (counter sel filterKind filterNumber freeze preloadGiven preload : Nat)
    (s : State) : Taken :=
  match counterSetting? counter sel filterKind filterNumber freeze preloadGiven preload with
  | none => refuse s .badValue
  | some x => accept (s.modCounters fun i c => if i = x.counter then c.settle x else c) .empty

/-- SET_COUNTER (R188). -/
def execSetCounter (p : PortId) (tag : Byte)
    (counter sel filterKind filterNumber freeze preloadGiven preload : Nat) (s : State) :
    Host.Outcome State Fault Refusal :=
  .next (serve p tag .setCounter
    (takeSetCounter counter sel filterKind filterNumber freeze preloadGiven preload) s)

/-- The rule of READ_COUNTERS (R189). -/
def takeReadCounters (s : State) : Taken :=
  accept s (.counters s.counters.counters s.counters.frozen)

/-- READ_COUNTERS (R189). -/
def execReadCounters (p : PortId) (tag : Byte) (s : State) : Host.Outcome State Fault Refusal :=
  .next (serve p tag .readCounters takeReadCounters s)

/-- The rule of UNFREEZE_COUNTERS (R189). -/
def takeUnfreezeCounters (s : State) : Taken :=
  accept { s with counters := { s.counters with frozen := false } } .empty

/-- UNFREEZE_COUNTERS (R189). -/
def execUnfreezeCounters (p : PortId) (tag : Byte) (s : State) : Host.Outcome State Fault Refusal :=
  .next (serve p tag .unfreezeCounters takeUnfreezeCounters s)

/-- The rule of CLEAR_OVERFLOW (R189). -/
def takeClearOverflow (mask : Nat) (s : State) : Taken :=
  accept (s.modCounters fun i c => if inMask mask i then { c with overflow := false } else c) .empty

/-- CLEAR_OVERFLOW (R189). -/
def execClearOverflow (p : PortId) (tag : Byte) (mask : Nat) (s : State) :
    Host.Outcome State Fault Refusal :=
  .next (serve p tag .clearOverflow (takeClearOverflow mask) s)

/-- The rule of RESET_COUNTERS (R189). -/
def takeResetCounters (s : State) : Taken :=
  accept (s.modCounters fun _ c => { c with value := 0 }) .empty

/-- RESET_COUNTERS (R189). -/
def execResetCounters (p : PortId) (tag : Byte) (s : State) : Host.Outcome State Fault Refusal :=
  .next (serve p tag .resetCounters takeResetCounters s)

/-- The rule of RESET_COUNTER_SELECT (R189). -/
def takeResetCounterSelect (s : State) : Taken :=
  accept (s.modCounters fun _ c =>
    { c with selection := .nothing, filter := .any, freezeEnable := false }) .empty

/-- RESET_COUNTER_SELECT (R189). -/
def execResetCounterSelect (p : PortId) (tag : Byte) (s : State) :
    Host.Outcome State Fault Refusal :=
  .next (serve p tag .resetCounterSelect takeResetCounterSelect s)

end Sys2Proof.Machine
end

