-- ==== Sys2Proof/Machine/Ports.lean ====
section
/-! DEFINITION. The requests about a port's own record (sections 10.4 and 10.5): alerts, the mask, bed
snapshots with READ_BED, and READ_PORT; and the bytes of the replies that section 10.6 lays out. -/

namespace Sys2Proof.Machine

/-! ### Alerts and the mask (R179) -/

/-- The rule of READ_ALERTS: the pending set and the mask are answered and the set becomes empty (R179). -/
def takeReadAlerts (p : PortId) (s : State) : Taken :=
  accept (s.modPort p fun x => { x with alerts := 0 }) (.alerts (s.port p).alerts (s.port p).mask)

/-- READ_ALERTS (R179). -/
def execReadAlerts (p : PortId) (tag : Byte) (s : State) : Host.Outcome State Fault Refusal :=
  .next (serve p tag .readAlerts (takeReadAlerts p) s)

/-- The rule of SET_ALERT_MASK (R179). -/
def takeSetAlertMask (p : PortId) (mask : Nat) (s : State) : Taken :=
  accept (s.modPort p fun x => { x with mask := BitVec.ofNat 16 mask }) .empty

/-- SET_ALERT_MASK (R179). -/
def execSetAlertMask (p : PortId) (tag : Byte) (mask : Nat) (s : State) :
    Host.Outcome State Fault Refusal :=
  .next (serve p tag .setAlertMask (takeSetAlertMask p mask) s)

/-! ### Bed reports and snapshots (R180, R181) -/

/-- A bed's pieces in cast order with their states (R115). -/
def State.bedPieces (s : State) (x : Bed) : List (Nat × PieceState) :=
  x.cycle.pieces.filterMap fun id => (s.piece id).map fun y => (id, y.state)

/-- Every figure of the READ_BED reply as it stands (R35, R56, R76, R115, R180). -/
def State.bedReport (s : State) (b : BedId) (x : Bed) : BedReport where
  bed := b
  cycle := x.cycle.state
  phase := x.heat.phase
  status := x.agg.status
  held := x.agg.held
  tmin := x.agg.tmin
  tmax := x.agg.tmax
  setpoint := x.heat.setpoint
  base := x.heat.base
  requested := x.heat.requested
  granted := s.budget.granted[b]
  level := s.budget.levels[b]
  frost := x.heat.frost
  overheat := x.heat.overheat
  curtailed := x.heat.curtailed
  gap := x.maturity.gap
  gapCount := x.maturity.gapCount
  count := x.maturity.count
  last := x.maturity.last
  target := x.cycle.figures.map fun f => f.target
  minAge := x.cycle.figures.map fun f => f.minAge
  pourEnd := x.cycle.figures.map fun f => f.pourEnd
  release := x.cycle.release
  age := x.cycle.figures.map fun f => s.now - f.pourEnd
  scanNumber := x.agg.scanNumber
  pieces := s.bedPieces x

/-- An answer from a report: its stamps are formed at the read (R2, R181). -/
def State.bedReply (s : State) (snapshot : Bool) (r : BedReport) : BedReply where
  toBedFigures := r.toBedFigures
  snapshot := snapshot
  lastStamp := r.last.map s.stamp
  pourEndStamp := r.pourEnd.map s.stamp
  releaseStamp := r.release.map s.stamp

/-- A bed that the mask names is not defined (R180). -/
def State.namesUndefined (s : State) (mask : Nat) : Bool :=
  (List.finRange 16).any fun b => inMask mask b && (s.bed b).isNone

/-- The snapshot set with a snapshot of each named bed put in (R180). -/
def State.freeze (s : State) (mask : Nat) (old : Vector (Option BedReport) 16) :
    Vector (Option BedReport) 16 :=
  onEach (fun b r => if inMask mask b then (s.bed b).map (s.bedReport b) else r) old

/-- The rule of FREEZE_BEDS: all or nothing; the answer carries the number of the last completed scan, which
every aggregate bears (R35, R180). -/
def takeFreezeBeds (p : PortId) (mask : Nat) (s : State) : Taken :=
  if s.namesUndefined mask then refuse s .noSuch
  else
    accept (s.modPort p fun x => { x with snapshots := s.freeze mask x.snapshots })
      (.scanNumber s.scan.number)

/-- FREEZE_BEDS (R180). -/
def execFreezeBeds (p : PortId) (tag : Byte) (mask : Nat) (s : State) :
    Host.Outcome State Fault Refusal :=
  .next (serve p tag .freezeBeds (takeFreezeBeds p mask) s)

/-- The rule of UNFREEZE (R180). -/
def takeUnfreeze (p : PortId) (s : State) : Taken :=
  accept (s.modPort p fun x => { x with snapshots := Vector.replicate 16 none }) .empty

/-- UNFREEZE (R180). -/
def execUnfreeze (p : PortId) (tag : Byte) (s : State) : Host.Outcome State Fault Refusal :=
  .next (serve p tag .unfreeze (takeUnfreeze p) s)

/-- The rule of READ_BED: the port's snapshot of the bed, which leaves the set, or the live figures (R181). -/
def takeReadBed (p : PortId) (bed : Nat) (s : State) : Taken :=
  match slot? 16 bed with
  | none => refuse s .badValue
  | some b =>
      match (s.port p).snapshots[b] with
      | some r =>
          accept (s.modPort p fun x => { x with snapshots := x.snapshots.set b none })
            (.bed (s.bedReply true r))
      | none =>
          match s.bed b with
          | none => refuse s .noSuch
          | some x => accept s (.bed (s.bedReply false (s.bedReport b x)))

/-- READ_BED (R181). -/
def execReadBed (p : PortId) (tag : Byte) (bed : Nat) (s : State) : Host.Outcome State Fault Refusal :=
  .next (serve p tag .readBed (takeReadBed p bed) s)

/-! ### READ_PORT (R182) -/

/-- The state of a receiver. -/
def Receiver.state : Receiver → RxState
  | .hunt => .hunt
  | .length => .length
  | .collect _ _ => .collect

/-- The figures READ_PORT answers port `p` with about port `q` (R182). The port that asks is sending from
the taking of the request on (R175; notes/assumptions/14.md). -/
def State.portReport (s : State) (p q : PortId) : PortReport where
  role := (s.port q).role
  rx := (s.port q).rx.state
  rejects := (s.port q).rejects
  overruns := (s.port q).overruns
  sending := decide (p = q) || (s.port q).tx.sending
  mask := (s.port q).mask
  alerts := (s.port q).alerts
  lineActive := s.alertLine q
  snapshots := (List.finRange 16).filter fun b => ((s.port q).snapshots[b]).isSome

/-- The rule of READ_PORT (R182). -/
def takeReadPort (p : PortId) (port : Nat) (s : State) : Taken :=
  match slot? 4 port with
  | none => refuse s .badValue
  | some q => accept s (.port (s.portReport p q))

/-- READ_PORT (R182). -/
def execReadPort (p : PortId) (tag : Byte) (port : Nat) (s : State) :
    Host.Outcome State Fault Refusal :=
  .next (serve p tag .readPort (takeReadPort p port) s)

/-! ### The bytes of the replies (section 10.6) -/

/-- The code of a cycle state. -/
def CycleState.code : CycleState → Nat
  | .empty => 0 | .set => 1 | .casting => 2 | .curing => 3 | .releasable => 4 | .detensioning => 5
  | .stripping => 6

/-- The code of a phase. -/
def Phase.code : Phase → Nat
  | .off => 0 | .preset => 1 | .ramp => 2 | .hold => 3 | .cool => 4

/-- The code of an aggregate status. -/
def AggStatus.code : AggStatus → Nat
  | .live => 0 | .held => 1 | .blind => 2

/-- The code of a piece state. -/
def PieceState.code : PieceState → Nat
  | .onBed => 0 | .strippable => 1 | .inTransit => 2 | .stocked => 3 | .dispatchStaged => 4
  | .scrap => 5

/-- The code of a move state. -/
def MoveState.code : MoveState → Nat
  | .queued => 0 | .granted => 1 | .lifted => 2

/-- The code of a move kind. -/
def MoveKind.code : MoveKind → Nat
  | .strip => 0 | .restack => 1 | .load => 2 | .ret => 3

/-- The code of a reason of NONE. -/
def NoneReason.code : NoneReason → Nat
  | .queueEmpty => 0 | .powerWait => 1 | .spanWait => 2 | .noneEligible => 3

/-- A byte of flags, the first of the list at bit 0. -/
def flagByte : List Bool → Nat
  | [] => 0
  | c :: rest => (if c then 1 else 0) + 2 * flagByte rest

/-- A four-byte stamp; an absent one is sent as 0. -/
def putStamp (x : Option Word32) : List Byte := put4 ((x.map BitVec.toNat).getD 0)

/-- The body of a READ_BED reply, 55 + 3n bytes (section 10.6). -/
def BedReply.bytes (r : BedReply) : List Byte :=
  [put1 r.bed, put1 (if r.snapshot then 1 else 0), put1 r.cycle.code, put1 r.phase.code,
    put1 r.status.code, put1 r.held,
    put1 (flagByte [r.tmin.isSome, r.setpoint.isSome, r.lastStamp.isSome, r.target.isSome,
      r.releaseStamp.isSome]),
    put1 (flagByte [r.frost, r.overheat, r.curtailed, r.gap])]
    ++ putS2 (r.tmin.getD 0) ++ putS2 (r.tmax.getD 0) ++ putS2 (r.setpoint.getD 0)
    ++ put2 r.base ++ put2 r.requested ++ put2 r.granted ++ [put1 r.level, put1 r.gapCount]
    ++ put4 r.count ++ put4 (r.count / 600) ++ putStamp r.lastStamp
    ++ put2 (r.target.getD 0) ++ put2 (r.minAge.getD 0)
    ++ putStamp r.pourEndStamp ++ putStamp r.releaseStamp ++ putS4 (r.age.getD 0)
    ++ put4 r.scanNumber.toNat ++ [put1 r.pieces.length]
    ++ (r.pieces.map fun y => put2 y.1 ++ [put1 y.2.code]).flatten

/-- The location kind, number and position of a place. -/
def Place.codes : Place → Nat × Nat × Nat
  | .bed b n => (0, b, n)
  | .stack i n => (1, i, n)
  | .crane k => (2, k, 0)

/-- The byte of a pending move's crane: 0xFF while QUEUED. -/
def PendingReport.craneCode (m : PendingReport) : Nat := (m.crane.map Fin.val).getD 255

/-- The body of a READ_PIECE reply, 40 bytes (section 10.6). -/
def PieceReply.bytes (r : PieceReply) : List Byte :=
  put2 r.id ++ [put1 r.cls, put1 r.state.code] ++ put2 r.mass
    ++ [put1 r.place.codes.1, put1 r.place.codes.2.1, put1 r.place.codes.2.2,
      put1 (flagByte [r.hold.isSome, r.shipReady, r.gap, r.move.isSome, r.lastStamp.isSome]),
      put1 (r.hold.getD 0)]
    ++ put4 r.castStamp.toNat ++ putS4 r.age ++ put2 r.shipTarget ++ put2 r.shipAge
    ++ put4 r.count ++ put4 (r.count / 600) ++ putStamp r.lastStamp
    ++ match r.move with
      | none => [put1 0, put1 0, put1 0, put1 0, put1 0]
      | some m =>
          [put1 m.slot, put1 m.state.code, put1 m.kind.code, put1 m.dest, put1 m.craneCode]

/-- The body bytes of an answer, where section 10.6 lays them out: an empty body and the replies of READ_BED
and READ_PIECE. -/
def Answer.bytes? : Answer → Option (List Byte)
  | .empty => some []
  | .bed r => some r.bytes
  | .piece r => some r.bytes
  | _ => none

/-- The bytes of a response frame with a given body (section 10.6, R175). -/
def responseFrame (tag kind : Byte) (r : Result) (body : List Byte) : List Byte :=
  let checked := put1 (body.length + 3) :: tag :: kind :: r.code :: body
  startByte :: checked ++ putCheck (checkSequence checked)

/-- The bytes of a response, where section 10.6 lays its body out. -/
def Response.bytes? (r : Response) : Option (List Byte) :=
  r.answer.bytes?.map (responseFrame r.tag r.kind r.result)

end Sys2Proof.Machine
end

