-- ==== Sys2Proof/Machine/Frames.lean ====
section
/-! DEFINITION. The receiver of a port and the frames it completes (section 10.2), the taking of a completed
request by its kind (R177), and the response leaving the port. -/

namespace Sys2Proof.Machine

/-! ### The rule of each request (R177, steps 5 and 6) -/

/-- The request's own rule, with its crane checks; an event has none. -/
def requestRule : Instr → Option (State → Taken)
  | .powerOn _ _ _ _ _ => none
  | .restart => none
  | .shedAssertion => none
  | .shedDeassertion => none
  | .minuteExpiry => none
  | .grantTimeout => none
  | .liftOverdue => none
  | .scanTimerExpiry => none
  | .conversionCompletion _ => none
  | .byteReceived _ _ => none
  | .characterSilenceTimeout _ => none
  | .breakEnd _ => none
  | .frameCompletion _ _ _ _ _ => none
  | .responseSent _ => none
  | .linkUpdateDone => none
  | .lineTurnaround _ => none
  | .readClock _ _ => some takeReadClock
  | .setClock _ _ y => some (takeSetClock y)
  | .readMap _ _ k n q => some (takeReadMap k n q)
  | .defineBed _ _ b a f l r g q => some (takeDefineBed b a f l r g q)
  | .defineStack _ _ i a b k t o => some (takeDefineStack i a b k t o)
  | .setStackOpen _ _ i o => some (takeSetStackOpen i o)
  | .loadCrane _ _ c a q l h r m => some (takeLoadCrane c a q l h r m)
  | .defineClass _ _ c a st sa ht ha => some (takeDefineClass c a st sa ht ha)
  | .setLimits _ _ l ls b => some (takeSetLimits l ls b)
  | .setConfig _ _ v q x => some (takeSetConfig v q x)
  | .loadPiece _ _ id c m n a i rg r => some (takeLoadPiece id c m n a i rg r)
  | .loadBedState _ _ b cy n pa t ma q ph sp es =>
      some (takeLoadBedState b cy n pa t ma q ph sp es)
  | .commit _ _ => some takeCommit
  | .defineProbe _ _ c a b e rl tl rh th => some (takeDefineProbe c a b e rl tl rh th)
  | .readProbe _ _ c => some (takeReadProbe c)
  | .clearProbeTally _ _ m o => some (takeClearProbeTally m o)
  | .scanNow _ _ => some takeScanNow
  | .abortScan _ _ => some takeAbortScan
  | .readScan _ _ => some takeReadScan
  | .setProfile _ _ m q => some (takeSetProfile m q)
  | .readProfile _ _ b => some (takeReadProfile b)
  | .readBudget _ _ => some takeReadBudget
  | .bedSet p _ b => some (bedRequest p b ruleBedSet)
  | .cancelSet p _ b => some (bedRequest p b ruleCancelSet)
  | .pourStart p _ b => some (bedRequest p b rulePourStart)
  | .pourEnd p _ b es => some (bedRequest p b (rulePourEnd es))
  | .detensionRequest p _ b => some (bedRequest p b ruleDetensionRequest)
  | .detensionDone p _ b => some (bedRequest p b ruleDetensionDone)
  | .abandonBed p _ b => some (bedRequest p b ruleAbandonBed)
  | .readBed p _ b => some (takeReadBed p b)
  | .setHold _ _ id r => some (takeSetHold id r)
  | .clearHold _ _ id => some (takeClearHold id)
  | .deletePiece _ _ id => some (takeDeletePiece id)
  | .shipDispatch _ _ i => some (takeShipDispatch i)
  | .readPiece _ _ id => some (takeReadPiece id)
  | .readStack _ _ i => some (takeReadStack i)
  | .requestMove p _ k id d => some (takeRequestMove p k id d)
  | .cancelMove p _ sl id => some (takeCancelMove p sl id)
  | .readMove _ _ sl => some (takeReadMove sl)
  | .nextMove p _ c b => some (takeNextMove p c b)
  | .lifted p _ c sl id => some (craneReport p c sl (ruleLifted id))
  | .placed p _ c sl => some (craneReport p c sl rulePlaced)
  | .abortMove p _ c sl g st => some (takeAbortMove p c sl g st)
  | .setMode _ _ m l => some (takeSetMode m l)
  | .readCrane _ _ c => some (takeReadCrane c)
  | .readAlerts p _ => some (takeReadAlerts p)
  | .setAlertMask p _ m => some (takeSetAlertMask p m)
  | .freezeBeds p _ m => some (takeFreezeBeds p m)
  | .unfreeze p _ => some (takeUnfreeze p)
  | .readPort p _ q => some (takeReadPort p q)
  | .setCounter _ _ c sel fk fn fe pg v => some (takeSetCounter c sel fk fn fe pg v)
  | .readCounters _ _ => some takeReadCounters
  | .unfreezeCounters _ _ => some takeUnfreezeCounters
  | .clearOverflow _ _ m => some (takeClearOverflow m)
  | .resetCounters _ _ => some takeResetCounters
  | .resetCounterSelect _ _ => some takeResetCounterSelect

/-- The taking of a good frame's request: its kind, its length, then the state and role checks and its rule
(R177). -/
def takeFrame (p : PortId) (tag kind : Byte) (body : List Byte) (s : State) : Taken :=
  match RequestKind.ofCode kind with
  | none => refuse s .unknownKind
  | some k =>
      match (decodeBody p tag k body).bind requestRule with
      | none => refuse s .badLength
      | some rule => screened p k rule s

/-! ### The receiver (R174, R175) -/

/-- The state with a port's receiver set. -/
def State.setRx (s : State) (p : PortId) (r : Receiver) : State :=
  s.modPort p fun x => { x with rx := r }

/-- A frame discarded unanswered: the reject tally gains 1, saturating, and the counters see a frame reject
(R174, R175). The discard is seen also when the tally stands at 65535 already and rises no further, which
R174 and R185 leave open: the model's choice (notes/assumptions/29.md). -/
def rejectFrame (p : PortId) (s : State) : State :=
  ((s.modPort p fun x => { x with rejects := gainTally x.rejects }).event.see (.frameReject p)).close

/-- The completion of a frame: a bad check is a reject, and a good one arrives at the port (R175). -/
def completeFrame (p : PortId) (tag kind : Byte) (body : List Byte) (check : BitVec 16) (s : State) :
    State :=
  if check = requestCheck tag kind body then arrive p tag kind (takeFrame p tag kind body) s
  else rejectFrame p s

/-- The completion of a frame from the bytes kept in COLLECT: the tag, the kind, the body and the two check
bytes. -/
def completeKept (p : PortId) (len : Nat) (kept : List Byte) (s : State) : State :=
  match kept with
  | tag :: kind :: rest =>
      match rest.drop (len - 2) with
      | [hi, lo] => completeFrame p tag kind (rest.take (len - 2)) (getCheck hi lo) s
      | _ => s
  | _ => s

/-- A byte in LENGTH (R174). -/
def takeLength (p : PortId) (b : Byte) (s : State) : State :=
  if between 2 242 b.toNat then s.setRx p (.collect b.toNat []) else rejectFrame p (s.setRx p .hunt)

/-- A byte in COLLECT: kept, and the last check byte completes the frame (R174). -/
def takeKept (p : PortId) (b : Byte) (len : Nat) (kept : List Byte) (s : State) : State :=
  let all := kept ++ [b]
  if all.length < len + 2 then s.setRx p (.collect len all)
  else completeKept p len all (s.setRx p .hunt)

/-- BYTE_RECEIVED (R174). An OFF port takes no byte (R173). -/
def execByteReceived (p : PortId) (b : Byte) (s : State) : Host.Outcome State Fault Refusal :=
  if (s.port p).role = .off then .next s
  else
    match (s.port p).rx with
    | .hunt => .next (if b = startByte then s.setRx p .length else s)
    | .length => .next (takeLength p b s)
    | .collect len kept => .next (takeKept p b len kept s)

/-- CHARACTER_SILENCE_TIMEOUT: the frame under way is incomplete and is rejected; in HUNT there is none
(R174). -/
def execCharacterSilenceTimeout (p : PortId) (s : State) : Host.Outcome State Fault Refusal :=
  if (s.port p).role = .off then .next s
  else
    match (s.port p).rx with
    | .hunt => .next s
    | .length => .next (rejectFrame p (s.setRx p .hunt))
    | .collect _ _ => .next (rejectFrame p (s.setRx p .hunt))

/-- A response formed but not begun is dropped; one begun runs on (R176). -/
def Transmit.dropFormed : Transmit → Transmit
  | .idle => .idle
  | .formed _ => .idle
  | .begun r => .begun r

/-- A port after a break: its receiver in HUNT and a response not begun dropped (R176). -/
def Port.breakReset (x : Port) : Port := { x with rx := .hunt, tx := x.tx.dropFormed }

/-- BREAK_END (R176). -/
def execBreakEnd (p : PortId) (s : State) : Host.Outcome State Fault Refusal :=
  if (s.port p).role = .off then .next s else .next (s.modPort p Port.breakReset)

/-- FRAME_COMPLETION (R175): the completion of a frame with this content. The receiver returns to HUNT. -/
def execFrameCompletion (p : PortId) (tag kind : Byte) (body : List Byte) (check : BitVec 16)
    (s : State) : Host.Outcome State Fault Refusal :=
  if (s.port p).role = .off then .next s
  else .next (completeFrame p tag kind body check (s.setRx p .hunt))

/-! ### The response (R175) -/

/-- The last byte of a response leaves. -/
def Transmit.finish : Transmit → Transmit
  | .idle => .idle
  | .formed r => .formed r
  | .begun _ => .idle

/-- The line has turned round and a formed response begins. -/
def Transmit.begin : Transmit → Transmit
  | .idle => .idle
  | .formed r => .begun r
  | .begun r => .begun r

/-- RESPONSE_SENT (R175): the port is no longer sending. -/
def execResponseSent (p : PortId) (s : State) : Host.Outcome State Fault Refusal :=
  .next (s.modPort p fun x => { x with tx := x.tx.finish })

/-- LINE_TURNAROUND (R175): the formed response begins. -/
def execLineTurnaround (p : PortId) (s : State) : Host.Outcome State Fault Refusal :=
  .next (s.modPort p fun x => { x with tx := x.tx.begin })

end Sys2Proof.Machine
end

