-- ==== Sys2Proof/Machine/Start.lean ====
section
/-! DEFINITION. POWER_ON and RESTART: the values each chapter gives the machine at them. -/

namespace Sys2Proof.Machine

/-! ### POWER_ON -/

/-- The state after power-on with these straps and this level of the SHED line; the commands that wait and
the model's own count of free reads stay (R16, R39, R57, R77, R94, R116, R136, R155, R171, R183, R190). CLOCK_UNSET is raised at power-on (R2). -/
def powerOnState (roles : Vector Role 4) (shed : Bool) (s : State) : State :=
  { State.reset with
    budget := { State.reset.budget with shed := shed }
    ports := onEach (fun _ r => Port.powerOn r) roles
    freeReads := s.freeReads
    pending := s.pending }

/-- POWER_ON (R16). -/
def execPowerOn (r0 r1 r2 r3 : Role) (shed : Bool) (s : State) : Host.Outcome State Fault Refusal :=
  .next (powerOnState #v[r0, r1, r2, r3] shed s)

/-! ### RESTART -/

/-- A counter after a RESTART: its value 0 and its overflow flag clear (R190). -/
def Counter.restart (c : Counter) : Counter := { c with value := 0, overflow := false }

/-- A GRANTED move returns to QUEUED at a RESTART, without MOVE_REVOKED (R156). -/
def returnMove (s : State) (i : SlotId) : State :=
  match s.move i with
  | none => s
  | some m =>
      match m.progress with
      | .queued => s
      | .granted g => requeue i m g s
      | .lifted _ _ _ => s

/-- A port after a RESTART: reset as by a break, its tallies 0, its pending set and snapshots empty; its
role and mask are kept (R184). -/
def Port.restart (x : Port) : Port :=
  { x.breakReset with
    rejects := 0
    overruns := 0
    alerts := 0
    snapshots := Vector.replicate 16 none }

/-- What a RESTART does before its alerts and its allocation: a scan in flight ends, the counters are
cleared, every GRANTED move returns to QUEUED, the service mode and its counts take their power-on values,
and the ports are reset (R40, R156, R172, R184, R190). -/
def restartState (s : State) : State :=
  let s1 := (List.finRange 64).foldl returnMove (abandonScan s)
  { s1 with
    counters := ⟨onEach (fun _ c => c.restart) s1.counters.counters, false⟩
    arbiter := ⟨.strip, false, 0, 0⟩
    ports := onEach (fun _ x => x.restart) s1.ports }

/-- RESTART (R17, R18, R40, R58, R78, R95, R117, R137, R156, R172, R184, R190): CLOCK_UNSET is raised again
while the clock is unset, and in RUNNING one allocation is taken (R2, R95). -/
def execRestart (s : State) : Host.Outcome State Fault Refusal :=
  let s1 := restartState s
  .next (allocateRunning (s1.raiseIf s1.clock.unset .clockUnset).event).close

end Sys2Proof.Machine
end

