-- ==== Sys2Proof/Machine/Dispatch.lean ====
section
/-! DEFINITION. The effect of each command, one arm per constructor of Instr. -/

namespace Sys2Proof.Machine

open Sys2Proof

def exec (i : Instr) (s : State) : Host.Outcome State Fault Refusal :=
  match i with
  | .powerOn role0 role1 role2 role3 shed => Sys2Proof.Machine.execPowerOn role0 role1 role2 role3 shed s
  | .restart => Sys2Proof.Machine.execRestart s
  | .shedAssertion => Sys2Proof.Machine.execShedAssertion s
  | .shedDeassertion => Sys2Proof.Machine.execShedDeassertion s
  | .minuteExpiry => Sys2Proof.Machine.execMinuteExpiry s
  | .grantTimeout => Sys2Proof.Machine.execGrantTimeout s
  | .liftOverdue => Sys2Proof.Machine.execLiftOverdue s
  | .scanTimerExpiry => Sys2Proof.Machine.execScanTimerExpiry s
  | .conversionCompletion raw => Sys2Proof.Machine.execConversionCompletion raw s
  | .byteReceived p b => Sys2Proof.Machine.execByteReceived p b s
  | .characterSilenceTimeout p => Sys2Proof.Machine.execCharacterSilenceTimeout p s
  | .breakEnd p => Sys2Proof.Machine.execBreakEnd p s
  | .frameCompletion p tag kind body check => Sys2Proof.Machine.execFrameCompletion p tag kind body check s
  | .responseSent p => Sys2Proof.Machine.execResponseSent p s
  | .linkUpdateDone => Sys2Proof.Machine.execLinkUpdateDone s
  | .lineTurnaround p => Sys2Proof.Machine.execLineTurnaround p s
  | .readClock p tag => Sys2Proof.Machine.execReadClock p tag s
  | .setClock p tag yardMinute => Sys2Proof.Machine.execSetClock p tag yardMinute s
  | .readMap p tag kind number port => Sys2Proof.Machine.execReadMap p tag kind number port s
  | .defineBed p tag bed action firstBay lastBay rated guard bound => Sys2Proof.Machine.execDefineBed p tag bed action firstBay lastBay rated guard bound s
  | .defineStack p tag stack action bay kind tierLimit openFlag => Sys2Proof.Machine.execDefineStack p tag stack action bay kind tierLimit openFlag s
  | .setStackOpen p tag stack openFlag => Sys2Proof.Machine.execSetStackOpen p tag stack openFlag s
  | .loadCrane p tag crane action bound low high rating capacity => Sys2Proof.Machine.execLoadCrane p tag crane action bound low high rating capacity s
  | .defineClass p tag cls action stripTarget stripAge shipTarget shipAge => Sys2Proof.Machine.execDefineClass p tag cls action stripTarget stripAge shipTarget shipAge s
  | .setLimits p tag limit shedLimit baseLoad => Sys2Proof.Machine.execSetLimits p tag limit shedLimit baseLoad s
  | .setConfig p tag value port setting => Sys2Proof.Machine.execSetConfig p tag value port setting s
  | .loadPiece p tag id cls mass count age stack reasonGiven reason => Sys2Proof.Machine.execLoadPiece p tag id cls mass count age stack reasonGiven reason s
  | .loadBedState p tag bed cycle count pourAge target minAge profile phase setpoint entries => Sys2Proof.Machine.execLoadBedState p tag bed cycle count pourAge target minAge profile phase setpoint entries s
  | .commit p tag => Sys2Proof.Machine.execCommit p tag s
  | .defineProbe p tag channel assignment bed enabled rawLo tLo rawHi tHi => Sys2Proof.Machine.execDefineProbe p tag channel assignment bed enabled rawLo tLo rawHi tHi s
  | .readProbe p tag channel => Sys2Proof.Machine.execReadProbe p tag channel s
  | .clearProbeTally p tag mask overrun => Sys2Proof.Machine.execClearProbeTally p tag mask overrun s
  | .scanNow p tag => Sys2Proof.Machine.execScanNow p tag s
  | .abortScan p tag => Sys2Proof.Machine.execAbortScan p tag s
  | .readScan p tag => Sys2Proof.Machine.execReadScan p tag s
  | .setProfile p tag mask profile => Sys2Proof.Machine.execSetProfile p tag mask profile s
  | .readProfile p tag bed => Sys2Proof.Machine.execReadProfile p tag bed s
  | .readBudget p tag => Sys2Proof.Machine.execReadBudget p tag s
  | .bedSet p tag bed => Sys2Proof.Machine.execBedSet p tag bed s
  | .cancelSet p tag bed => Sys2Proof.Machine.execCancelSet p tag bed s
  | .pourStart p tag bed => Sys2Proof.Machine.execPourStart p tag bed s
  | .pourEnd p tag bed entries => Sys2Proof.Machine.execPourEnd p tag bed entries s
  | .detensionRequest p tag bed => Sys2Proof.Machine.execDetensionRequest p tag bed s
  | .detensionDone p tag bed => Sys2Proof.Machine.execDetensionDone p tag bed s
  | .abandonBed p tag bed => Sys2Proof.Machine.execAbandonBed p tag bed s
  | .readBed p tag bed => Sys2Proof.Machine.execReadBed p tag bed s
  | .setHold p tag id reason => Sys2Proof.Machine.execSetHold p tag id reason s
  | .clearHold p tag id => Sys2Proof.Machine.execClearHold p tag id s
  | .deletePiece p tag id => Sys2Proof.Machine.execDeletePiece p tag id s
  | .shipDispatch p tag stack => Sys2Proof.Machine.execShipDispatch p tag stack s
  | .readPiece p tag id => Sys2Proof.Machine.execReadPiece p tag id s
  | .readStack p tag stack => Sys2Proof.Machine.execReadStack p tag stack s
  | .requestMove p tag kind id dest => Sys2Proof.Machine.execRequestMove p tag kind id dest s
  | .cancelMove p tag slot id => Sys2Proof.Machine.execCancelMove p tag slot id s
  | .readMove p tag slot => Sys2Proof.Machine.execReadMove p tag slot s
  | .nextMove p tag crane bay => Sys2Proof.Machine.execNextMove p tag crane bay s
  | .lifted p tag crane slot id => Sys2Proof.Machine.execLifted p tag crane slot id s
  | .placed p tag crane slot => Sys2Proof.Machine.execPlaced p tag crane slot s
  | .abortMove p tag crane slot stackGiven stack => Sys2Proof.Machine.execAbortMove p tag crane slot stackGiven stack s
  | .setMode p tag mode lock => Sys2Proof.Machine.execSetMode p tag mode lock s
  | .readCrane p tag crane => Sys2Proof.Machine.execReadCrane p tag crane s
  | .readAlerts p tag => Sys2Proof.Machine.execReadAlerts p tag s
  | .setAlertMask p tag mask => Sys2Proof.Machine.execSetAlertMask p tag mask s
  | .freezeBeds p tag mask => Sys2Proof.Machine.execFreezeBeds p tag mask s
  | .unfreeze p tag => Sys2Proof.Machine.execUnfreeze p tag s
  | .readPort p tag port => Sys2Proof.Machine.execReadPort p tag port s
  | .setCounter p tag counter selection filterKind filterNumber freezeEnable preloadGiven preload => Sys2Proof.Machine.execSetCounter p tag counter selection filterKind filterNumber freezeEnable preloadGiven preload s
  | .readCounters p tag => Sys2Proof.Machine.execReadCounters p tag s
  | .unfreezeCounters p tag => Sys2Proof.Machine.execUnfreezeCounters p tag s
  | .clearOverflow p tag mask => Sys2Proof.Machine.execClearOverflow p tag mask s
  | .resetCounters p tag => Sys2Proof.Machine.execResetCounters p tag s
  | .resetCounterSelect p tag => Sys2Proof.Machine.execResetCounterSelect p tag s

end Sys2Proof.Machine
end

