-- ==== Sys2Proof/Machine/Step.lean ====
section
/-! DEFINITION. The step of the YC4: the command at the front of its queue. -/

namespace Sys2Proof.Machine

/-- One step: the command at the front of the queue runs on the state with the queue's rest; on an empty
queue the controller idles (notes/assumptions/5.md). -/
def step (s : State) : Host.Outcome State Fault Refusal :=
  match s.pending with
  | [] => .next s
  | i :: rest => exec i { s with pending := rest }

/-- The state with a command put at the front of its queue. -/
def State.queueFront (s : State) (i : Instr) : State := { s with pending := i :: s.pending }

/-- The state with the command a table word spells put at the front of its queue. No row of the opcode table
gives bits, so no word spells one and the state stays as it is (notes/assumptions/6.md). -/
def State.withFetchWord (s : State) (nbits w : Nat) : State :=
  match decodeTableWord nbits w with
  | none => s
  | some i => s.queueFront i

end Sys2Proof.Machine
end

