-- ==== Sys2Proof/Safety.lean ====
section
/-! DEFINITION. What the claims speak of: a port that takes a request, the state with an answer formed, the
moves bound to a stack, a crane or a port, and the invariants of a safe yard. -/

namespace Sys2Proof.Machine

/-! ### Requests and answers -/

/-- The port takes a request of this kind at this event and does not bar it: it is not sending, and the
state and role checks of R177 pass. -/
def State.takes (s : State) (p : PortId) (k : RequestKind) : Prop :=
  (s.port p).tx = .idle ∧ barred k (s.port p).role s.ctl = none

/-- The port has this role and is not sending, so a good frame there is taken (R175). -/
def State.asks (s : State) (p : PortId) (r : Role) : Prop :=
  (s.port p).role = r ∧ (s.port p).tx = .idle

/-- The port is not OFF and is not sending: a request of a kind granted to any role is taken there. -/
def State.hears (s : State) (p : PortId) : Prop :=
  (s.port p).role ≠ .off ∧ (s.port p).tx = .idle

/-- The state with a response formed at a port and nothing else changed. -/
def State.answered (s : State) (p : PortId) (tag : Byte) (k : RequestKind) (r : Result) (a : Answer) :
    State :=
  s.modPort p fun x => { x with tx := .formed ⟨tag, k.code, r, a⟩ }

/-- The state with a refusal formed at a port and the refused request counted (R177, R185). -/
def State.refused (s : State) (p : PortId) (tag : Byte) (k : RequestKind) (r : Result) (a : Answer) :
    State :=
  Event.close ⟨s.answered p tag k r a, [.requestRefused p]⟩

/-! ### Invariants -/

/-- Ls is at least B plus the ratings of the enrolled cranes, and Ls ≤ L ≤ 20000 (R10, R82). -/
def State.limitsSafe (s : State) : Prop := limitsHold s.limits s.enrolledRatings = true

/-- A reservation is held only by a HOLDING crane, at its enrolled rating (R82, R83). -/
def State.reservationsSafe (s : State) : Prop :=
  ∀ k r, (s.crane k).reservation = some r →
    (s.crane k).held.isSome ∧ ∃ e, (s.crane k).enrolment = some e ∧ e.rating = r.rating

/-- In LOADING nothing is granted and no reservation is held (R12, R89). -/
def State.loadingIdle (s : State) : Prop :=
  s.ctl = .loading → total s.budget.granted = 0 ∧ ∀ k, (s.crane k).reservation = none

/-- The granted heat and the reservations stay within the effective limit less the base load (R89). -/
def State.feederSafe (s : State) : Prop :=
  total s.budget.granted + s.reservedSum + s.limits.baseLoad ≤ s.effectiveLimit

/-- All that keeps the feeder within its limit. -/
def State.powerSafe (s : State) : Prop :=
  s.limitsSafe ∧ s.reservationsSafe ∧ s.loadingIdle ∧ s.feederSafe

/-- The number of moves of the table that a test picks. -/
def State.countMoves (s : State) (pick : Move → Bool) : Nat :=
  (s.moveList.filter fun x => pick x.2).length

/-- Every port's charged count is the number of moves in the table that it requested (R141). -/
def State.creditSafe (s : State) : Prop :=
  ∀ p : PortId, s.moves.charged[p] = s.countMoves fun m => m.requester == p

/-- A crane holds a slot exactly when the slot's move is granted to it (R158). -/
def State.holdingSafe (s : State) : Prop :=
  (∀ k h, (s.crane k).held = some h →
    ∃ m g, s.move h.slot = some m ∧ m.grant? = some g ∧ g.crane = k) ∧
  ∀ i m g, s.move i = some m → m.grant? = some g →
    ∃ h, (s.crane g.crane).held = some h ∧ h.slot = i

/-- The captured spans of moves that different cranes hold, each widened by the clearance captured with it,
share no bay (R162). -/
def State.spansSafe (s : State) : Prop :=
  ∀ i j m n g h, s.move i = some m → s.move j = some n → m.grant? = some g → n.grant? = some h →
    g.crane ≠ h.crane →
    widenedMeet g.spanLow g.spanHigh g.clearance h.spanLow h.spanHigh h.clearance = false

/-- The move is in GRANTED or LIFTED with this destination. -/
def Move.boundFor (i : StackId) (m : Move) : Bool := m.grant?.isSome && m.dest == i

/-- In LOADING the Move Table is empty, a granted move's destination is defined, a stack's incoming count is
the number of granted moves bound for it, and its pieces plus that count are at most its tier limit
(R12, R124). -/
def State.stacksSafe (s : State) : Prop :=
  (s.ctl = .loading → ∀ i, s.move i = none) ∧
  (∀ i m g, s.move i = some m → m.grant? = some g → (s.stack m.dest).isSome) ∧
  ∀ i x, s.stack i = some x →
    x.incoming = s.countMoves (Move.boundFor i) ∧ x.contents.length + x.incoming ≤ x.defn.tierLimit

/-- The configuration value of every row is in its range, and frost_off is above frost_on (R11). -/
def State.settingsSafe (s : State) : Prop :=
  (∀ row port v, s.settings.value? row port = some v →
    (settingRange row).1 ≤ v ∧ v ≤ (settingRange row).2) ∧
  s.settings.frostOn < s.settings.frostOff

/-- In every profile held, stored or working, the ceiling is above the hold temperature (R59). -/
def State.profilesSafe (s : State) : Prop :=
  (∀ b : BedId, s.profiles[b].holdTemp < s.profiles[b].ceiling) ∧
  ∀ b x q, s.bed b = some x → x.heat.working = some q → q.holdTemp < q.ceiling

/-- At most 1024 pieces are registered (R121). -/
def State.recordsSafe (s : State) : Prop := s.pieces.length ≤ maxPieces

/-- The minutes known to remain of the scan timer's countdown lie between 1 and the interval with which it
began, which is at most 15 (R24, R38). -/
def State.timerSafe (s : State) : Prop :=
  1 ≤ s.scan.remaining ∧ s.scan.remaining ≤ s.scan.countdown ∧ s.scan.countdown ≤ 15

end Sys2Proof.Machine
end

