-- ==== Sys2Proof/Certificates/Slice0/Obligations.lean ====
section
/-! DEFINITION. The statements about the YC4 for the provers, chapter by chapter. An answered request is
written as the whole next state: State.answered changes nothing but the port's response, and
State.refused nothing but the response and what the counters see of the refusal. -/

open Sys2Proof Sys2Proof.Machine

/-! ### The step and its queue -/

/-- The step on a queue with a command in front is that command's effect on the state with the queue's rest;
on an empty queue the controller idles (the model's choice, notes/assumptions/5.md). -/
def Obligations.StepRunsTheFrontCommand : Prop :=
  (∀ (c : Instr) (rest : List Instr) (s : State),
    step { s with pending := c :: rest } = exec c { s with pending := rest }) ∧
  ∀ s : State, step { s with pending := [] } = .next { s with pending := [] }

/-- Every command, request or event, is answered with a next state (that none stops is read from the rules:
notes/assumptions/24.md); none touches the commands that wait, POWER_ON included (the model's choice,
notes/assumptions/26.md), and none but POWER_ON changes a port's role (R173). -/
def Obligations.EveryCommandCompletesAndKeepsTheRoles : Prop :=
  ∀ (c : Instr) (s : State), ∃ t, exec c s = .next t ∧ t.pending = s.pending ∧
    ((∀ r0 r1 r2 r3 shed, c ≠ .powerOn r0 r1 r2 r3 shed) →
      ∀ p, (t.port p).role = (s.port p).role)

/-! ### Allocations, as many statements meet them -/

/-- The heat that an allocation gives each slot: the guards first, each in full or all cut by one fraction,
then what is left shared by what each still asks, in full or all cut by one fraction, every quotient
truncated (R85, R86). -/
def Sys2Proof.Machine.shares (guard demand : BedId → Nat) (heat : Nat) (out : BedId → Nat) : Prop :=
  let g := ∑ b, guard b
  let first (b : BedId) := if g ≤ heat then guard b else guard b * heat / g
  let left := heat - ∑ b, first b
  let extra (b : BedId) := demand b - first b
  let x := ∑ b, extra b
  ∀ b, out b = first b + if x ≤ left then extra b else extra b * left / x

/-- The guard kW a slot brings to the allocation: that of a bed in frost and not in overheat (R80). -/
def Sys2Proof.Machine.State.guardAt (s : State) (b : BedId) : Nat :=
  match s.bed b with
  | none => 0
  | some x => if x.heat.frost ∧ ¬ x.heat.overheat then x.defn.guard else 0

/-- The demand a slot brings to the allocation: none from a slot not defined or a bed in EMPTY or SET
(R74). -/
def Sys2Proof.Machine.State.demandAt (s : State) (b : BedId) : Nat :=
  match s.bed b with
  | none => 0
  | some x => if x.cycle.state = .empty ∨ x.cycle.state = .set then 0 else x.heat.requested

/-- The sum of the reservations held (R80). -/
def Sys2Proof.Machine.State.reservations (s : State) : Nat :=
  ∑ k : CraneId, match (s.crane k).reservation with
    | none => 0
    | some r => r.rating

/-- The effective limit (R80). -/
def Sys2Proof.Machine.State.limitNow (s : State) : Nat :=
  if s.budget.shed then s.limits.shedLimit else s.limits.limit

/-- `t` is `u` with an allocation taken: all slots granted together, the curtailed flags, levels and minute
written, the levels on the link or waiting behind the update in progress, CURTAILED raised if a bed is
curtailed; beside the counters nothing else changes (R85 to R88). -/
def Sys2Proof.Machine.State.allocatesTo (u t : State) : Prop :=
  t = { u with beds := t.beds, budget := t.budget, ports := t.ports, counters := t.counters } ∧
  t.budget =
    { u.budget with
      granted := t.budget.granted
      levels := t.budget.levels
      lastAllocation := some u.now
      link := match u.budget.link.sending with
        | none => { u.budget.link with sending := some t.budget.levels }
        | some _ => { u.budget.link with waiting := true } } ∧
  shares u.guardAt u.demandAt (u.limitNow - u.limits.baseLoad - u.reservations)
    (fun b => t.budget.granted[b]) ∧
  (∀ b, t.bed b = (u.bed b).map fun x =>
    { x with heat := { x.heat with curtailed := decide (t.budget.granted[b] < x.heat.requested) } }) ∧
  (∀ b : BedId, t.budget.levels[b] = match u.bed b with
    | none => 0
    | some x => if x.defn.rated = 0 then 0 else 255 * t.budget.granted[b] / x.defn.rated) ∧
  ∀ p, (∃ a, t.port p = { u.port p with alerts := (u.port p).alerts ||| a }) ∧
    ((u.port p).role ≠ .off → (u.port p).mask.getLsbD 8 = true →
      (∃ b x, t.bed b = some x ∧ x.heat.curtailed = true) → (t.port p).alerts.getLsbD 8 = true)

/-! ### POWER_ON and RESTART -/

/-- POWER_ON gives every block its power-on values, with the roles and the shed flag as sampled (R16, R39,
R57, R77, R94, R116, R136, R155, R171, R183, R190). -/
def Obligations.PowerOnGivesEveryBlockItsValues : Prop :=
  ∀ (r0 r1 r2 r3 : Role) (shed : Bool) (s : State), ∃ t,
    exec (.powerOn r0 r1 r2 r3 shed) s = .next t ∧
    t.ctl = .loading ∧ t.clock = ⟨0, 0, true⟩ ∧ t.limits = ⟨0, 0, 0⟩ ∧
    t.settings = ⟨5, 3, 3, 150, -100, 800, 50, 70, 200, 5, 20, 2, 4, 0, 0, #v[16, 16, 16, 16]⟩ ∧
    (∀ c : ClassId, t.classes[c] = none) ∧ (∀ b, t.bed b = none) ∧ (∀ i, t.stack i = none) ∧
    (∀ b : BedId, t.profiles[b] = ⟨120, 150, 600, 100, 10, 10, 20, 700⟩) ∧
    (∀ k, t.crane k = ⟨none, none, none, none, none⟩) ∧
    (∀ c : Channel, t.scan.probes[c] =
      ⟨.unassigned, false, 1, -400, 4094, 950, none, .never, 0, 0, none, false⟩) ∧
    t.scan.inFlight = none ∧ t.scan.number = 0 ∧ t.scan.lastDone = none ∧ t.scan.countdown = 5 ∧
    t.scan.remaining = 5 ∧ t.scan.overruns = 0 ∧ t.scan.yard = ⟨none, .blind, 0⟩ ∧
    t.budget.shed = shed ∧ t.budget.lastAllocation = none ∧ t.budget.link.sending = none ∧
    (∀ b : BedId, t.budget.granted[b] = 0 ∧ t.budget.levels[b] = 0 ∧ t.budget.link.panels[b] = 0) ∧
    t.pieces = [] ∧ (∀ i, t.move i = none) ∧ t.moves.seq = 0 ∧ (∀ p : PortId, t.moves.charged[p] = 0) ∧
    t.arbiter = ⟨.strip, false, 0, 0⟩ ∧
    (∀ p, (t.port p).role = #v[r0, r1, r2, r3][p] ∧ (t.port p).rx = .hunt ∧ (t.port p).tx = .idle ∧
      (t.port p).rejects = 0 ∧ (t.port p).overruns = 0 ∧
      (t.port p).mask = (match #v[r0, r1, r2, r3][p] with
        | .office => 0xFFFF#16
        | .bedside => 0x0CE8#16
        | .crane => 0x1600#16
        | .off => 0#16) ∧
      (t.port p).alerts = (match #v[r0, r1, r2, r3][p] with
        | .office => 0x8000#16
        | _ => 0#16) ∧
      ∀ b : BedId, (t.port p).snapshots[b] = none) ∧
    (∀ i : Fin 8, t.counters.counters[i] = ⟨.nothing, .any, 0, false, false⟩) ∧
    t.counters.frozen = false

/-- A move as a RESTART leaves it: a GRANTED move returns to QUEUED, any other stays (R156). -/
def Sys2Proof.Machine.Move.afterRestart (m : Move) : Move :=
  match m.progress with
  | .queued => m
  | .granted _ => { m with progress := .queued }
  | .lifted _ _ _ => m

/-- The move is GRANTED with this destination. -/
def Sys2Proof.Machine.Move.grantedTo (i : StackId) (m : Move) : Bool :=
  match m.progress with
  | .queued => false
  | .granted _ => m.dest == i
  | .lifted _ _ _ => false

/-- A port as a RESTART leaves it: its receiver in HUNT, a response not begun dropped, its tallies 0, its
snapshots gone, and pending only the CLOCK_UNSET that the RESTART raises again while the clock is unset; its
role and mask stay (R2, R184). -/
def Sys2Proof.Machine.Port.restartedTo (x : Port) (unset : Bool) : Port :=
  { x with
    rx := .hunt
    tx := match x.tx with
      | .begun r => .begun r
      | _ => .idle
    rejects := 0
    overruns := 0
    alerts := if unset = true ∧ x.role ≠ .off ∧ x.mask.getLsbD 15 = true then 0x8000 else 0
    snapshots := Vector.replicate 16 none }

/-- What the curtailments and the granted heat of one allocation add to a counter (R185). -/
def Sys2Proof.Machine.State.allocationAmount (t : State) (c : Counter) : Nat :=
  match c.selection with
  | .curtailment => (Finset.univ.filter fun b : BedId =>
      (t.bed b).any (fun x => x.heat.curtailed) = true ∧ (c.filter = .any ∨ c.filter = .bed b)).card
  | .grantedHeat => ∑ b : BedId, if c.filter = .any ∨ c.filter = .bed b then t.budget.granted[b] else 0
  | _ => 0

/-- RESTART keeps the yard and returns the transient state: the scan in flight ends; every GRANTED move
returns to QUEUED, its destination giving up the place and its crane becoming IDLE without its reservation,
with its enrolment, last bay and last move kept; the service mode becomes STRIP; the ports are reset; and the
counters' values and flags are cleared. In LOADING that is all. In RUNNING an allocation follows, which the
cleared counters count, and it alone may raise CURTAILED or COUNTER_OVERFLOW; no other alert stands afterwards
but CLOCK_UNSET (R2, R17, R40, R58, R78, R95, R117, R137, R156, R172, R184, R190). -/
def Obligations.RestartKeepsTheYardAndResetsTheRest : Prop :=
  ∀ s : State, ∃ u t, exec .restart s = .next t ∧
    u = { s with
      scan := { s.scan with inFlight := none }
      moves := { s.moves with slots := u.moves.slots }
      stackSlots := u.stackSlots
      cranes := u.cranes
      arbiter := ⟨.strip, false, 0, 0⟩
      ports := u.ports
      counters := ⟨u.counters.counters, false⟩ } ∧
    (∀ i, u.move i = (s.move i).map Move.afterRestart) ∧
    (∀ i, u.stack i = (s.stack i).map fun x =>
      { x with incoming := x.incoming - s.countMoves (Move.grantedTo i) }) ∧
    (∀ k, (∃ i m g, s.move i = some m ∧ m.progress = .granted g ∧ g.crane = k) →
      u.crane k = { s.crane k with held := none, reservation := none }) ∧
    (∀ k, (∀ i m g, s.move i = some m → m.progress = .granted g → g.crane ≠ k) →
      u.crane k = s.crane k) ∧
    (∀ p, u.port p = (s.port p).restartedTo s.clock.unset) ∧
    (∀ i : Fin 8, u.counters.counters[i] = { s.counters.counters[i] with value := 0, overflow := false }) ∧
    (s.ctl = .loading → t = u) ∧
    (s.ctl = .running → u.allocatesTo t ∧
      (∀ i : Fin 8, t.counters.counters[i] =
        { s.counters.counters[i] with
          value := BitVec.ofNat 32 (t.allocationAmount s.counters.counters[i])
          overflow := decide (4294967296 ≤ t.allocationAmount s.counters.counters[i]) }) ∧
      (t.counters.frozen = true ↔ ∃ i : Fin 8, s.counters.counters[i].freezeEnable = true ∧
        4294967296 ≤ t.allocationAmount s.counters.counters[i]) ∧
      ∀ p n, n < 16 → ((t.port p).alerts.getLsbD n = true ↔
        (u.port p).alerts.getLsbD n = true ∨
        ((s.port p).role ≠ .off ∧ (s.port p).mask.getLsbD n = true ∧
          (n = 8 ∧ (∃ b x, t.bed b = some x ∧ x.heat.curtailed = true) ∨
            n = 14 ∧ t.counters.frozen = true))))

/-! ### The Yard Map (chapter 1) -/

/-- SET_CLOCK from an OFFICE port, in either state: the offset becomes the yard minute less the run minute
modulo 2^32 and the flag is cleared; from then on the present minute is reported as the yard minute given,
and a stored minute `m` as `m` plus the offset (R2). -/
def Obligations.SetClockMovesEveryStamp : Prop :=
  ∀ (p : PortId) (tag : Byte) (y : Int) (s : State), s.asks p .office → ∃ t,
    exec (.setClock p tag y) s = .next t ∧
    t = State.answered
      { s with clock := ⟨s.clock.runMinute, BitVec.ofInt 32 y - BitVec.ofInt 32 s.clock.runMinute, false⟩ }
      p tag .setClock .ok .empty ∧
    t.stamp t.now = BitVec.ofInt 32 y ∧
    ∀ m : Int, t.stamp m = BitVec.ofInt 32 (m - s.clock.runMinute + y)

/-- READ_CLOCK and READ_MAP, from a port of any role and in either state, answer the stored fields and change
nothing: a slot without a definition is answered as such, and a number out of range is refused with
BAD_VALUE (R3; that the number is not judged for the limits, nor the port for any entry but a credit limit, is
read from section 10.6: notes/assumptions/11.md). -/
def Obligations.ReadClockAndReadMapAnswerStoredFields : Prop :=
  ∀ (p : PortId) (tag : Byte) (s : State), s.hears p →
    let map (kind number port : Nat) (a : Answer) : Prop :=
      exec (.readMap p tag kind number port) s = .next (s.answered p tag .readMap .ok a)
    let bad (kind number port : Nat) : Prop :=
      exec (.readMap p tag kind number port) s = .next (s.refused p tag .readMap .badValue .empty)
    exec (.readClock p tag) s = .next (s.answered p tag .readClock .ok
      (.clock s.clock.runMinute (BitVec.ofInt 32 s.clock.runMinute + s.clock.offset) s.clock.offset
        s.clock.unset s.ctl)) ∧
    (∀ (b : BedId) q, map 0 b q (.mapBed ((s.bed b).map Bed.defn))) ∧
    (∀ (i : StackId) q, map 1 i q (.mapStack ((s.stack i).map Stack.defn))) ∧
    (∀ (k : CraneId) q, map 2 k q (.mapCrane (s.crane k).enrolment)) ∧
    (∀ (c : ClassId) q, map 3 c q (.mapClass s.classes[c])) ∧
    (∀ n q, map 4 n q (.mapLimits s.limits)) ∧
    (∀ q, map 5 0 q (.mapValue s.settings.scanInterval) ∧ map 5 1 q (.mapValue s.settings.holdLimit) ∧
      map 5 2 q (.mapValue s.settings.faultPersistence) ∧ map 5 3 q (.mapValue s.settings.stepLimit) ∧
      map 5 4 q (.mapValue s.settings.datum) ∧ map 5 5 q (.mapValue s.settings.maturityCeiling) ∧
      map 5 6 q (.mapValue s.settings.frostOn) ∧ map 5 7 q (.mapValue s.settings.frostOff) ∧
      map 5 8 q (.mapValue s.settings.differentialLimit) ∧ map 5 9 q (.mapValue s.settings.grantTimeout) ∧
      map 5 10 q (.mapValue s.settings.liftOverdue) ∧ map 5 11 q (.mapValue s.settings.clearance) ∧
      map 5 12 q (.mapValue s.settings.starveLimit) ∧ map 5 13 q (.mapValue s.settings.stripLow) ∧
      map 5 14 q (.mapValue s.settings.dispatchLow)) ∧
    (∀ q : PortId, map 5 15 q (.mapValue (s.settings.creditLimit[q] : Nat))) ∧
    (∀ n q, 16 ≤ n → bad 0 n q) ∧ (∀ n q, 96 ≤ n → bad 1 n q) ∧ (∀ n q, 4 ≤ n → bad 2 n q) ∧
    (∀ n q, 32 ≤ n → bad 3 n q) ∧ (∀ n q, 16 ≤ n → bad 5 n q) ∧ (∀ q, 4 ≤ q → bad 5 15 q) ∧
    ∀ k n q, 6 ≤ k → bad k n q

/-- The definition DEFINE_BED gives passes R4: each field in its range, the guard kW at most the rated kW, a
bound port of the BEDSIDE role, and in RUNNING a span in order that shares no bay with another bed's. -/
def Sys2Proof.Machine.State.bedDefinable (s : State) (b : BedId) (d : BedDef) : Prop :=
  d.firstBay ≤ 255 ∧ d.lastBay ≤ 255 ∧ d.rated ≤ 2000 ∧ d.guard ≤ d.rated ∧
  (∀ q, d.bound = some q → (s.port q).role = .bedside) ∧
  (s.ctl = .running → d.firstBay ≤ d.lastBay ∧
    ∀ c y, c ≠ b → s.bed c = some y →
      ¬ ∃ bay, d.firstBay ≤ bay ∧ bay ≤ d.lastBay ∧ y.defn.firstBay ≤ bay ∧ bay ≤ y.defn.lastBay)

/-- What DEFINE_BED changes in a bed is allowed in its cycle state by the table of R5. -/
def Sys2Proof.Machine.Bed.changeable (x : Bed) (d : BedDef) : Prop :=
  (d.firstBay ≠ x.defn.firstBay ∨ d.lastBay ≠ x.defn.lastBay → x.cycle.state = .empty) ∧
  (d.rated ≠ x.defn.rated ∨ d.guard ≠ x.defn.guard → x.cycle.state = .empty ∨ x.cycle.state = .set)

/-- The bound port byte of DEFINE_BED: the port's number, or 0xFF for none. -/
def Sys2Proof.Machine.boundByte (q : Option PortId) : Nat := (q.map Fin.val).getD 255

/-- DEFINE_BED from an OFFICE port. With a definition: one that fails R4 is BAD_VALUE, a change the bed's cycle
state does not allow is WRONG_STATE, a slot not defined becomes an EMPTY bed, and an allowed change replaces
the definition and nothing else. With a removal: accepted on an EMPTY bed no probe is assigned to, and on a
slot not defined, where it changes nothing. A bed number, an action or a bound port that is none is BAD_VALUE
(R4, R5). -/
def Obligations.DefineBedByItsChecksAndCycleState : Prop :=
  ∀ (p : PortId) (tag : Byte) (b : BedId) (s : State), s.asks p .office →
    (∀ d : BedDef,
      let run := exec (.defineBed p tag b 0 d.firstBay d.lastBay d.rated d.guard (boundByte d.bound)) s
      let done (x : Bed) := (s.setBed b (some x)).answered p tag .defineBed .ok .empty
      (¬ s.bedDefinable b d → run = .next (s.refused p tag .defineBed .badValue .empty)) ∧
      (s.bedDefinable b d → s.bed b = none → run = .next (done
        ⟨d, ⟨.empty, [], none, none⟩, ⟨0, none, false, 0⟩,
          ⟨none, .off, none, 0, 0, 0, false, false, false⟩, ⟨none, none, .blind, 0, s.scan.number⟩⟩)) ∧
      ∀ x, s.bedDefinable b d → s.bed b = some x →
        (x.changeable d → run = .next (done { x with defn := d })) ∧
        (¬ x.changeable d → run = .next (s.refused p tag .defineBed .wrongState .empty))) ∧
    ∀ f l r g q : Nat,
      let run := exec (.defineBed p tag b 1 f l r g q) s
      (s.bed b = none → run = .next (s.answered p tag .defineBed .ok .empty)) ∧
      (∀ x, s.bed b = some x →
        if x.cycle.state = .empty ∧ ∀ c : Channel, s.scan.probes[c].assignment ≠ .bed b then
          run = .next ((s.setBed b none).answered p tag .defineBed .ok .empty)
        else run = .next (s.refused p tag .defineBed .wrongState .empty)) ∧
      ∀ n a, 16 ≤ n ∨ 2 ≤ a ∨ (a = 0 ∧ 4 ≤ q ∧ q ≠ 255) →
        exec (.defineBed p tag n a f l r g q) s = .next (s.refused p tag .defineBed .badValue .empty)

/-- A defined stack may be changed or removed: it holds no piece, nothing is bound for it, and no move in the
table names it (R6). -/
def Sys2Proof.Machine.State.stackIdle (s : State) (i : StackId) (x : Stack) : Prop :=
  x.contents = [] ∧ x.incoming = 0 ∧ ∀ j m, s.move j = some m → m.source ≠ .stack i ∧ m.dest ≠ i

/-- DEFINE_STACK and SET_STACK_OPEN from an OFFICE port: a field out of range is BAD_VALUE, a stack in use is
WRONG_STATE, a definition leaves the stack empty, and opening or closing changes only the open flag, whatever
the stack holds (R6, R7; that SET_STACK_OPEN of a number from 96, or with an open byte from 2, is BAD_VALUE is
read from section 10.6: notes/assumptions/15.md). -/
def Obligations.StacksAreDefinedRemovedAndOpened : Prop :=
  ∀ (p : PortId) (tag : Byte) (i : StackId) (s : State), s.asks p .office →
    (∀ bay tier (o : Bool) (k : StackKind),
      let run := exec (.defineStack p tag i 0 bay (if k = .stock then 0 else 1) tier (if o then 1 else 0)) s
      (¬ (bay ≤ 255 ∧ 1 ≤ tier ∧ tier ≤ 6) →
        run = .next (s.refused p tag .defineStack .badValue .empty)) ∧
      (bay ≤ 255 ∧ 1 ≤ tier ∧ tier ≤ 6 → (∀ x, s.stack i = some x → s.stackIdle i x) →
        run = .next ((s.setStack i (some ⟨⟨bay, k, tier, o⟩, [], 0⟩)).answered p tag .defineStack .ok
          .empty)) ∧
      (bay ≤ 255 ∧ 1 ≤ tier ∧ tier ≤ 6 → ∀ x, s.stack i = some x → ¬ s.stackIdle i x →
        run = .next (s.refused p tag .defineStack .wrongState .empty))) ∧
    (∀ bay k tier o,
      let run := exec (.defineStack p tag i 1 bay k tier o) s
      (s.stack i = none → run = .next (s.answered p tag .defineStack .ok .empty)) ∧
      ∀ x, s.stack i = some x →
        (s.stackIdle i x → run = .next ((s.setStack i none).answered p tag .defineStack .ok .empty)) ∧
        (¬ s.stackIdle i x → run = .next (s.refused p tag .defineStack .wrongState .empty))) ∧
    (∀ n a bay k tier o, 96 ≤ n ∨ 2 ≤ a ∨ (a = 0 ∧ (2 ≤ k ∨ 2 ≤ o)) →
      exec (.defineStack p tag n a bay k tier o) s =
        .next (s.refused p tag .defineStack .badValue .empty)) ∧
    (∀ o : Bool,
      (s.stack i = none → exec (.setStackOpen p tag i (if o then 1 else 0)) s =
        .next (s.refused p tag .setStackOpen .noSuch .empty)) ∧
      ∀ x, s.stack i = some x → exec (.setStackOpen p tag i (if o then 1 else 0)) s =
        .next ((s.setStack i (some { x with defn := { x.defn with isOpen := o } })).answered p tag
          .setStackOpen .ok .empty)) ∧
    ∀ n o, 96 ≤ n ∨ 2 ≤ o → exec (.setStackOpen p tag n o) s =
      .next (s.refused p tag .setStackOpen .badValue .empty)

/-- The rating a crane is enrolled with; 0 for a crane not enrolled. -/
def Sys2Proof.Machine.Crane.rating (c : Crane) : Nat := (c.enrolment.map Enrolment.rating).getD 0

/-- LOAD_CRANE from an OFFICE port: the fields, the ratings against the shed limit with the new rating in
place of the present one, and the crane's state are checked in that order; an enrolment replaces the figures
of an enrolled crane and gives any other crane its power-on record, and a withdrawal clears the slot
(R8, R171). -/
def Obligations.LoadCraneChecksInOrder : Prop :=
  ∀ (p : PortId) (tag : Byte) (k : CraneId) (s : State), s.asks p .office →
    (∀ e : Enrolment,
      exec (.loadCrane p tag k 0 e.bound e.low e.high e.rating e.capacity) s = .next
        (if ¬ ((s.port e.bound).role = .crane ∧ e.low ≤ e.high ∧ e.high ≤ 255 ∧
            1 ≤ e.rating ∧ e.rating ≤ 5000 ∧ 1 ≤ e.capacity ∧ e.capacity ≤ 1000) then
          s.refused p tag .loadCrane .badValue .empty
        else if s.limits.shedLimit <
            s.limits.baseLoad + ∑ j : CraneId, (if j = k then e.rating else (s.crane j).rating) then
          s.refused p tag .loadCrane .badValue .empty
        else if (s.crane k).held.isSome then s.refused p tag .loadCrane .busy .empty
        else (s.modCrane k fun c =>
          if c.enrolment.isSome then { c with enrolment := some e }
          else ⟨some e, none, none, none, c.reservation⟩).answered p tag .loadCrane .ok .empty)) ∧
    (∀ q l h r m,
      exec (.loadCrane p tag k 1 q l h r m) s = .next
        (if s.limits.shedLimit <
            s.limits.baseLoad + ∑ j : CraneId, (if j = k then 0 else (s.crane j).rating) then
          s.refused p tag .loadCrane .badValue .empty
        else if (s.crane k).held.isSome then s.refused p tag .loadCrane .busy .empty
        else (s.modCrane k fun c => ⟨none, none, none, none, c.reservation⟩).answered p tag .loadCrane .ok
          .empty)) ∧
    ∀ n a q l h r m, 4 ≤ n ∨ 2 ≤ a ∨ (a = 0 ∧ 4 ≤ q) →
      exec (.loadCrane p tag n a q l h r m) s = .next (s.refused p tag .loadCrane .badValue .empty)

/-- DEFINE_CLASS from an OFFICE port, in either state: figures in their ranges are stored, a removal clears the
slot, and a number or a figure out of range is BAD_VALUE; no bed and no piece changes (R9). -/
def Obligations.DefineClassReachesNoPiece : Prop :=
  ∀ (p : PortId) (tag : Byte) (c : ClassId) (s : State), s.asks p .office →
    (∀ x : ProductClass,
      exec (.defineClass p tag c 0 x.stripTarget x.stripAge x.shipTarget x.shipAge) s = .next
        (if x.stripTarget ≤ 5000 ∧ x.stripAge ≤ 4320 ∧ x.shipTarget ≤ 30000 ∧ x.shipAge ≤ 2000 then
          State.answered { s with classes := s.classes.set c (some x) } p tag .defineClass .ok .empty
        else s.refused p tag .defineClass .badValue .empty)) ∧
    (∀ a1 a2 a3 a4, exec (.defineClass p tag c 1 a1 a2 a3 a4) s =
      .next (State.answered { s with classes := s.classes.set c none } p tag .defineClass .ok .empty)) ∧
    ∀ n a a1 a2 a3 a4, 32 ≤ n ∨ 2 ≤ a →
      exec (.defineClass p tag n a a1 a2 a3 a4) s = .next (s.refused p tag .defineClass .badValue .empty)

/-- SET_LIMITS from an OFFICE port: refused with BAD_VALUE unless the three inequalities hold; in LOADING an
accepted one stores the figures and nothing more, and in RUNNING an allocation is taken at once with them,
the reservations standing unchanged (R10). -/
def Obligations.SetLimitsAllocatesInRunning : Prop :=
  ∀ (p : PortId) (tag : Byte) (l ls b : Nat) (s : State), s.asks p .office →
    let fit := ls ≤ l ∧ l ≤ 20000 ∧ b + ∑ j : CraneId, (s.crane j).rating ≤ ls
    let run := exec (.setLimits p tag l ls b) s
    (¬ fit → run = .next (s.refused p tag .setLimits .badValue .empty)) ∧
    (fit → s.ctl = .loading → run = .next
      (State.answered { s with limits := ⟨l, ls, b⟩ } p tag .setLimits .ok .empty)) ∧
    (fit → s.ctl = .running → ∃ t, run = .next t ∧
      State.allocatesTo (State.answered { s with limits := ⟨l, ls, b⟩ } p tag .setLimits .ok .empty) t)

/-- The range of each configuration value, by its row in the table of section 1.7 counted from 0. -/
def Sys2Proof.Machine.configRanges : List (Int × Int) :=
  [(1, 15), (0, 7), (1, 7), (10, 300), (-150, 50), (400, 950), (-100, 200), (-80, 250), (50, 400), (1, 30),
    (1, 60), (0, 8), (1, 15), (0, 15), (0, 15), (1, 64)]

/-- SET_CONFIG from an OFFICE port, in either state: the value named is stored when it is in its range, as the
table of section 1.7 gives it, and leaves frost_off above frost_on, and is then read back; every other value,
and all else, stays (R11; that the port is not judged for a value other than a credit limit is read from
section 10.6: notes/assumptions/11.md). -/
def Obligations.SetConfigStoresOneValueInRange : Prop :=
  ∀ (p : PortId) (tag : Byte) (row port : Nat) (x : Int) (s : State), s.asks p .office →
    let run := exec (.setConfig p tag row port x) s
    let known := row < 15 ∨ (row = 15 ∧ port < 4)
    let fit := (∃ lo hi, configRanges[row]? = some (lo, hi) ∧ lo ≤ x ∧ x ≤ hi) ∧
      (row = 6 → x < s.settings.frostOff) ∧ (row = 7 → s.settings.frostOn < x)
    (¬ (known ∧ fit) → run = .next (s.refused p tag .setConfig .badValue .empty)) ∧
    (known ∧ fit → ∃ c, run = .next (State.answered { s with settings := c } p tag .setConfig .ok .empty) ∧
      c.value? row port = some x ∧
      ∀ r q, r ≠ row ∨ (row = 15 ∧ q ≠ port) → c.value? r q = s.settings.value? r q)

/-- LOAD_PIECE from an OFFICE port in LOADING restores a piece to the top of a stack under the checks of R13 in
their order: the record it fills, the stack it is pushed on, and SHIP_READY raised when the piece is found
ready; in RUNNING it is WRONG_STATE (R12, R13; that the reason byte is not judged when no hold is given is
read from section 10.6: notes/assumptions/11.md). -/
def Obligations.LoadPieceRestoresAStackedPiece : Prop :=
  ∀ (p : PortId) (tag : Byte) (id cls mass count age stack given reason : Nat) (s : State),
    s.asks p .office →
    let run := exec (.loadPiece p tag id cls mass count age stack given reason) s
    let stop (r : Result) := run = .next (s.refused p tag .loadPiece r .empty)
    (s.ctl = .running → stop .wrongState) ∧
    (s.ctl = .loading →
      (¬ (1 ≤ id ∧ id ≤ 65535 ∧ cls < 32 ∧ stack < 96 ∧ 1 ≤ mass ∧ mass ≤ 1000 ∧ count ≤ 4294967295 ∧
          age ≤ 2000000 ∧ given < 2)
        → stop .badValue) ∧
      ∀ (c : ClassId) (i : StackId), c.val = cls → i.val = stack →
        1 ≤ id ∧ id ≤ 65535 ∧ 1 ≤ mass ∧ mass ≤ 1000 ∧ count ≤ 4294967295 ∧
          age ≤ 2000000 ∧ given < 2 →
        (s.classes[c] = none ∨ s.stack i = none → stop .noSuch) ∧
        ∀ k x, s.classes[c] = some k → s.stack i = some x →
          let ready : Bool := 600 * k.shipTarget ≤ count && 60 * k.shipAge ≤ age
          let kept : Piece :=
            { id := id, cls := cls, mass := mass, castMinute := s.now - age, shipTarget := k.shipTarget,
              shipAge := k.shipAge, state := if x.defn.kind = .stock then .stocked else .dispatchStaged,
              location := .stack i, hold := if given = 1 then some reason else none, shipReady := ready,
              move := none, count := count, last := some s.now, gap := false }
          if (s.piece id).isSome then stop .duplicate
          else if 1024 ≤ s.pieces.length then stop .full
          else if x.defn.tierLimit ≤ x.contents.length then stop .noRoom
          else if x.defn.kind = .dispatch ∧ ready = false then stop .badValue
          else
            ∃ l, l.Perm (kept :: s.pieces) ∧ run = .next (State.answered
              ((({ s with pieces := l } : State).setStack i
                (some { x with contents := x.contents ++ [id] })).raiseIf ready .shipReady)
              p tag .loadPiece .ok .empty))

/-- The figures of a profile are in the ranges of R59 and its ceiling is above its hold temperature. -/
abbrev Sys2Proof.Profile.legal (q : Profile) : Prop :=
  q.preset ≤ 600 ∧ 10 ≤ q.rampRate ∧ q.rampRate ≤ 300 ∧ 300 ≤ q.holdTemp ∧ q.holdTemp ≤ 750 ∧
  10 ≤ q.coolRate ∧ q.coolRate ≤ 300 ∧ 5 ≤ q.bandLow ∧ q.bandLow ≤ 50 ∧ 5 ≤ q.bandHigh ∧
  q.bandHigh ≤ 50 ∧ 1 ≤ q.step ∧ q.step ≤ 250 ∧ 500 ≤ q.ceiling ∧ q.ceiling ≤ 850 ∧
  q.holdTemp < q.ceiling

/-- A list of pieces to cast is in range: 1 to 12 entries, each with an id of 1 to 65535, a class of 0 to 31
and a mass of 1 to 1000. -/
abbrev Sys2Proof.castable (es : List PieceEntry) : Prop :=
  1 ≤ es.length ∧ es.length ≤ 12 ∧
  ∀ y ∈ es, 1 ≤ y.id ∧ y.id ≤ 65535 ∧ y.cls < 32 ∧ 1 ≤ y.mass ∧ y.mass ≤ 1000

/-- The piece that an entry of a list casts on a bed at a pour-end minute, with its class's ship figures
captured: ON_BED, without HOLD, SHIP_READY or a move, its own count 0 and its own minute absent. -/
def Sys2Proof.Machine.State.castAs (s : State) (b : BedId) (pourEnd : Int) (y : PieceEntry) : Piece :=
  { id := y.id, cls := y.cls, mass := y.mass, castMinute := pourEnd,
    shipTarget := ((s.classOf y).map ProductClass.shipTarget).getD 0,
    shipAge := ((s.classOf y).map ProductClass.shipAge).getD 0,
    state := .onBed, location := .bed b, hold := none, shipReady := false, move := none, count := 0,
    last := none, gap := false }

/-- LOAD_BED_STATE from an OFFICE port in LOADING restores a curing or releasable bed and its pieces under the
checks of R14 in their order: the bed's cycle, maturity and regulation records, and one piece record an
entry; in RUNNING it is WRONG_STATE (R12, R14). -/
def Obligations.LoadBedStateRestoresBedAndPieces : Prop :=
  ∀ (p : PortId) (tag : Byte) (bed count pourAge target minAge : Nat) (c : CycleState) (ph : Phase)
    (q : Profile) (sp : Int) (es : List PieceEntry) (s : State), s.asks p .office →
    let run := exec (.loadBedState p tag bed c.code count pourAge target minAge q ph.code sp es) s
    let stop (r : Result) := run = .next (s.refused p tag .loadBedState r .empty)
    let fit := count ≤ 4294967295 ∧ pourAge ≤ 2000000 ∧ target ≤ 5000 ∧ minAge ≤ 4320 ∧ q.legal ∧ -400 ≤ sp ∧ sp ≤ 950 ∧
      castable es ∧
      ((c = .curing ∧ (ph = .preset ∨ (ph = .ramp ∧ sp < q.holdTemp) ∨ (ph = .hold ∧ sp = q.holdTemp))) ∨
        (c = .releasable ∧ (ph = .cool ∨ ph = .off)))
    (s.ctl = .running → stop .wrongState) ∧
    (s.ctl = .loading → ∀ cy n, 7 ≤ cy ∨ 5 ≤ n →
      exec (.loadBedState p tag bed cy count pourAge target minAge q n sp es) s =
        .next (s.refused p tag .loadBedState .badValue .empty)) ∧
    (s.ctl = .loading → (¬ (bed < 16 ∧ fit) → stop .badValue) ∧
      ∀ b : BedId, b.val = bed → fit →
        (s.bed b = none → stop .noSuch) ∧
        ∀ x, s.bed b = some x →
          if x.cycle.state ≠ .empty then stop .wrongState
          else if ¬ ∀ y ∈ es, (s.classOf y).isSome then stop .noSuch
          else if ¬ ((es.map PieceEntry.id).Nodup ∧ ∀ y ∈ es, s.piece y.id = none) then stop .duplicate
          else if 1024 < s.pieces.length + es.length then stop .full
          else ∃ l, l.Perm (es.map (s.castAs b (s.now - pourAge)) ++ s.pieces) ∧
            run = .next (State.answered (({ s with pieces := l } : State).setBed b (some
              { x with
                cycle := ⟨c, es.map PieceEntry.id, some ⟨target, minAge, s.now - pourAge⟩,
                  if c = .releasable then some s.now else none⟩
                maturity := ⟨count, some s.now, false, 0⟩
                heat := ⟨some q, ph, some sp, 0, 0, 0, false, false, false⟩ }))
              p tag .loadBedState .ok .empty))

/-- COMMIT from an OFFICE port: in LOADING a map that passes the three checks starts RUNNING with the commit
minute as the last-accounted minute of the beds in CURING or RELEASABLE and of the pieces in STOCKED or
DISPATCH_STAGED, and without an allocation; any other map is BAD_VALUE; in RUNNING it is WRONG_STATE
(R15). -/
def Obligations.CommitStartsRunningFromAGoodMap : Prop :=
  ∀ (p : PortId) (tag : Byte) (s : State), s.asks p .office →
    let run := exec (.commit p tag) s
    let good := (∀ b x, s.bed b = some x → x.defn.firstBay ≤ x.defn.lastBay) ∧
      (∀ b x c y, s.bed b = some x → s.bed c = some y → b ≠ c → ¬ ∃ bay,
        x.defn.firstBay ≤ bay ∧ bay ≤ x.defn.lastBay ∧ y.defn.firstBay ≤ bay ∧ bay ≤ y.defn.lastBay) ∧
      1 ≤ s.limits.limit ∧ s.limits.shedLimit ≤ s.limits.limit ∧ s.limits.limit ≤ 20000 ∧
      s.limits.baseLoad + ∑ j : CraneId, (s.crane j).rating ≤ s.limits.shedLimit
    (s.ctl = .running → run = .next (s.refused p tag .commit .wrongState .empty)) ∧
    (s.ctl = .loading → ¬ good → run = .next (s.refused p tag .commit .badValue .empty)) ∧
    (s.ctl = .loading → good → ∃ t, run = .next t ∧
      t = State.answered { s with ctl := .running, beds := t.beds, pieces := t.pieces }
        p tag .commit .ok .empty ∧
      (∀ b, t.bed b = (s.bed b).map fun x =>
        if x.cycle.state = .curing ∨ x.cycle.state = .releasable then
          { x with maturity := { x.maturity with last := some s.now } }
        else x) ∧
      t.pieces = s.pieces.map fun x =>
        if x.state = .stocked ∨ x.state = .dispatchStaged then { x with last := some s.now } else x)

/-! ### The Scan Unit (chapter 2) -/

/-- DEFINE_PROBE from an OFFICE port: the ranges, the bed, the scan in flight and the number of probes are
checked in that order; a change of the assignment or of a calibration figure forgets the reading and keeps
the tally, and any other request changes only the enabled flag (R20, R21; that the bed byte is not judged
unless the assignment is BED is read from section 10.6: notes/assumptions/11.md). -/
def Obligations.DefineProbeChecksInOrder : Prop :=
  ∀ (p : PortId) (tag : Byte) (c : Channel) (a : Assignment) (bed : Nat) (en : Bool) (rl rh : Nat)
    (tl th : Int) (s : State), s.asks p .office → (∀ b : BedId, a = .bed b → bed = b) →
    let code := match a with
      | .unassigned => 0
      | .bed _ => 1
      | .yard => 2
    let others := (Finset.univ.filter fun d : Channel => d ≠ c ∧ s.scan.probes[d].assignment = a).card
    let q := s.scan.probes[c]
    let q' : Probe :=
      if q.assignment = a ∧ q.rawLo = rl ∧ q.tLo = tl ∧ q.rawHi = rh ∧ q.tHi = th then
        { q with enabled := en }
      else ⟨a, en, rl, tl, rh, th, none, .never, 0, q.tally, none, false⟩
    let run := exec (.defineProbe p tag c code bed (if en then 1 else 0) rl tl rh th) s
    let stop (r : Result) := run = .next (s.refused p tag .defineProbe r .empty)
    (if ¬ (1 ≤ rl ∧ rl < rh ∧ rh ≤ 4094 ∧ -400 ≤ tl ∧ tl ≤ 950 ∧ -400 ≤ th ∧ th ≤ 950) then stop .badValue
      else if ∃ b : BedId, a = .bed b ∧ s.bed b = none then stop .noSuch
      else if s.scan.inFlight ≠ none then stop .busyScan
      else if (a = .yard ∧ 4 ≤ others) ∨ (∃ b : BedId, a = .bed b ∧ 6 ≤ others) then stop .full
      else run = .next (State.answered
        { s with scan := { s.scan with probes := s.scan.probes.set c q' } } p tag .defineProbe .ok .empty)) ∧
    ∀ n k e, 64 ≤ n ∨ 3 ≤ k ∨ (k = 1 ∧ 16 ≤ bed) ∨ 2 ≤ e →
      exec (.defineProbe p tag n k bed e rl tl rh th) s =
        .next (s.refused p tag .defineProbe .badValue .empty)

/-- READ_PROBE, from a port of any role, answers every field of the channel's record and changes nothing;
CLEAR_PROBE_TALLY, from an OFFICE port, clears the tallies of the channels its mask names and, with its flag,
the overrun tally, and touches nothing else, whether or not a scan is in flight (R22). -/
def Obligations.ReadProbeAndClearProbeTally : Prop :=
  ∀ (p : PortId) (tag : Byte) (s : State),
    (s.hears p →
      (∀ c : Channel, exec (.readProbe p tag c) s =
        .next (s.answered p tag .readProbe .ok (.probe s.scan.probes[c]))) ∧
      ∀ n, 64 ≤ n → exec (.readProbe p tag n) s = .next (s.refused p tag .readProbe .badValue .empty)) ∧
    (s.asks p .office →
      (∀ (mask : Nat) (o : Bool), ∃ ps : Vector Probe 64,
        exec (.clearProbeTally p tag mask (if o then 1 else 0)) s = .next (State.answered
          { s with scan := { s.scan with probes := ps, overruns := if o then 0 else s.scan.overruns } }
          p tag .clearProbeTally .ok .empty) ∧
        ∀ c : Channel, ps[c] =
          if mask.testBit c then { s.scan.probes[c] with tally := 0 } else s.scan.probes[c]) ∧
      exec (.clearProbeTally p tag 0 0) s = .next (s.answered p tag .clearProbeTally .ok .empty) ∧
      ∀ mask n, 2 ≤ n → exec (.clearProbeTally p tag mask n) s =
        .next (s.refused p tag .clearProbeTally .badValue .empty))

/-- The channel belongs to the scan set: enabled and assigned (R23). -/
def Sys2Proof.Machine.State.scanned (s : State) (c : Channel) : Prop :=
  s.scan.probes[c].enabled = true ∧ s.scan.probes[c].assignment ≠ .unassigned

/-- A scan just started with this channel under conversion: every read mark is clear and the countdown begins
again at the scan interval as stored (R24, R27). -/
def Sys2Proof.Machine.State.startedAt (s : State) (c : Channel) : State :=
  { s with scan :=
    { s.scan with
      probes := onEach (fun _ q => { q with mark := false }) s.scan.probes
      countdown := s.settings.scanInterval
      remaining := s.settings.scanInterval
      inFlight := some c } }

/-- A scan starts at the timer's expiry and at SCAN_NOW on the lowest channel of its set. While one is in
flight the expiry is an overrun, tallied, alerted, counted and restarting the countdown, and SCAN_NOW is
refused. ABORT_SCAN ends a scan in flight and changes nothing else, and is refused when there is none
(R24 to R27, R29). -/
def Obligations.ScansStartOverrunAndAbort : Prop :=
  ∀ (p : PortId) (tag : Byte) (s : State),
    (∀ c : Channel, s.scan.inFlight = none → s.scanned c → (∀ d, s.scanned d → c ≤ d) →
      exec .scanTimerExpiry s = .next (s.startedAt c) ∧
      (s.asks p .office → exec (.scanNow p tag) s =
        .next ((s.startedAt c).answered p tag .scanNow .ok (.scanNumber (s.scan.number + 1))))) ∧
    (s.scan.inFlight ≠ none →
      exec .scanTimerExpiry s = .next (Event.close ⟨State.raise
        { s with scan :=
          { s.scan with
            overruns := if s.scan.overruns < 65535 then s.scan.overruns + 1 else 65535
            countdown := s.settings.scanInterval
            remaining := s.settings.scanInterval } } .scanOverrun .everyPort, [.scanOverrun]⟩) ∧
      (s.asks p .office →
        exec (.scanNow p tag) s = .next (s.refused p tag .scanNow .busyScan .empty) ∧
        exec (.abortScan p tag) s = .next (State.answered
          { s with scan := { s.scan with inFlight := none } } p tag .abortScan .ok .empty))) ∧
    (s.scan.inFlight = none → s.asks p .office →
      exec (.abortScan p tag) s = .next (s.refused p tag .abortScan .wrongState .empty))

/-- The temperature a non-rail code stands for by a probe's calibration: the exact quotient, its lower
temperature included, rounded to the nearest whole tenth with halves away from zero, and clamped to −400 to
950 (R30). -/
def Sys2Proof.Machine.Probe.reads (q : Probe) (raw : Nat) (t : Int) : Prop :=
  let d : Int := q.rawHi - q.rawLo
  let n : Int := q.tLo * d + (raw - q.rawLo) * (q.tHi - q.tLo)
  ∃ r : Int, 2 * |r * d - n| ≤ d ∧ (2 * |r * d - n| = d → |n| < |r * d|) ∧ t = max (-400) (min 950 r)

/-- A bit of the alert kinds stands pending at a port whose mask enabled it at the event. -/
def Sys2Proof.Machine.alertedAt (s t : State) (p : PortId) (bit : Nat) : Prop :=
  (s.port p).mask.getLsbD bit = true → (t.port p).alerts.getLsbD bit = true

/-- A conversion completion: a rail code, or from a VALID probe a temperature beyond the step limit from its
reading, counts against the probe, makes it FAULT at the fault persistence with PROBE_FAULT raised on the entry
alone, and is counted; any other code stores its temperature. Before the last channel of the scan the next
higher channel of the set is put under conversion and nothing else changes. On the last channel the probe
record, PROBE_FAULT and the count are the same, and the scan completes (R28, R30 to R33). -/
def Obligations.ConversionsAreConvertedAndJudged : Prop :=
  ∀ (raw : BitVec 12) (temp : Int) (c : Channel) (s : State), s.scan.inFlight = some c →
    let q := s.scan.probes[c]
    q.rawLo < q.rawHi → (raw ≠ 0 → raw ≠ 4095 → q.reads raw.toNat temp) →
    let n := min (q.consecutive + 1) 7
    let failed : Probe :=
      { q with
        tally := min (q.tally + 1) 254
        consecutive := n
        readState := if s.settings.faultPersistence ≤ n then .fault else q.readState }
    let good : Probe :=
      { q with
        reading := some temp
        consecutive := 0
        lastScan := some (s.scan.number + 1)
        mark := true
        readState := .valid }
    let bad := raw = 0 ∨ raw = 4095 ∨
      (q.readState = .valid ∧ ∃ old ∈ q.reading, s.settings.stepLimit < |temp - old|)
    let enters := bad ∧ q.readState ≠ .fault ∧ s.settings.faultPersistence ≤ n
    (∀ d, c < d → s.scanned d → (∀ e, c < e → s.scanned e → d ≤ e) →
      let put (x : Probe) : State :=
        { s with scan := { s.scan with probes := s.scan.probes.set c x, inFlight := some d } }
      exec (.conversionCompletion raw) s = .next
        (if bad then Event.close ⟨(put failed).raiseIf
            (q.readState ≠ .fault ∧ s.settings.faultPersistence ≤ n) .probeFault,
            [.probeFault (match q.assignment with
              | .bed b => some b
              | _ => none)]⟩
          else put good)) ∧
    ((∀ d, s.scanned d → d ≤ c) → ∃ t, exec (.conversionCompletion raw) s = .next t ∧
      t.scan.inFlight = none ∧
      (bad → t.scan.probes = s.scan.probes.set c failed) ∧
      (¬ bad → t.scan.probes = s.scan.probes.set c good) ∧
      (∀ p, (enters → (s.port p).role ≠ .off → alertedAt s t p 2) ∧
        (¬ enters → (t.port p).alerts.getLsbD 2 = (s.port p).alerts.getLsbD 2)) ∧
      (s.counters.frozen = false → ∀ i : Fin 8, s.counters.counters[i].selection = .probeFault →
        let f := s.counters.counters[i].filter
        let matched := f = .any ∨ ∃ b, q.assignment = .bed b ∧ f = .bed b
        (bad → matched →
          t.counters.counters[i].value = s.counters.counters[i].value + 1) ∧
        (¬ (bad ∧ matched) → t.counters.counters[i].value = s.counters.counters[i].value)))

/-- The event completes a scan: the completion of the highest channel of the set of the scan in flight, or a
start with an empty set (R27, R28, R37). -/
def Sys2Proof.Machine.State.completesScan (s : State) (i : Instr) : Prop :=
  (∃ raw c, i = .conversionCompletion raw ∧ s.scan.inFlight = some c ∧ ∀ d, s.scanned d → d ≤ c) ∨
  (s.scan.inFlight = none ∧ (∀ d, ¬ s.scanned d) ∧
    (i = .scanTimerExpiry ∨ ∃ p tag, i = .scanNow p tag ∧ s.asks p .office))

/-- A reading usable for an assignment: of a probe so assigned, VALID and read in this scan (R34). -/
def Sys2Proof.Machine.State.usableReading (s : State) (a : Assignment) (r : Int) : Prop :=
  ∃ c : Channel, s.scan.probes[c].assignment = a ∧ s.scan.probes[c].readState = .valid ∧
    s.scan.probes[c].mark = true ∧ s.scan.probes[c].reading = some r

/-- The port sees a bed's alerts: OFFICE and CRANE ports do, and a BEDSIDE port for a bed bound to it
(R178). -/
def Sys2Proof.Machine.State.watches (s : State) (p : PortId) (b : BedId) : Prop :=
  (s.port p).role = .office ∨ (s.port p).role = .crane ∨
    ((s.port p).role = .bedside ∧ ∃ x, s.bed b = some x ∧ x.defn.bound = some p)

/-- A scan's completion: the number advances, the minute is noted, SCAN_DONE is raised, and every defined
bed's aggregate and the yard's are formed from the usable readings, or pass from LIVE to HELD and BLIND
without one, BED_BLIND and YARD_BLIND being raised on becoming BLIND. A start that finds its set empty clears every
read mark, begins the countdown again and completes at the same event, SCAN_NOW being answered with the number
of that scan; the end of a conversion leaves the countdown. In LOADING nothing else of a bed, no piece and no
heat changes (R12, R24, R25, R27, R34 to R37). -/
def Obligations.ScanCompletionFormsAggregates : Prop :=
  ∀ (i : Instr) (s : State), s.completesScan i → ∃ t, exec i s = .next t ∧
    t.scan.inFlight = none ∧ t.scan.number = s.scan.number + 1 ∧ t.scan.lastDone = some s.now ∧
    t.clock = s.clock ∧ t.scan.overruns = s.scan.overruns ∧
    (∀ p, (s.port p).role ≠ .off → alertedAt s t p 0) ∧
    (∀ c : Channel, s.scan.inFlight = none → t.scan.probes[c] = { s.scan.probes[c] with mark := false }) ∧
    (t.scan.countdown, t.scan.remaining) = (match s.scan.inFlight with
      | none => (s.settings.scanInterval, s.settings.scanInterval)
      | some _ => (s.scan.countdown, s.scan.remaining)) ∧
    (∀ p tag, i = .scanNow p tag →
      (t.port p).tx = .formed ⟨tag, 0x13, .ok, .scanNumber (s.scan.number + 1)⟩) ∧
    (∀ b x, s.bed b = some x → ∃ y, t.bed b = some y ∧ y.defn = x.defn ∧
      y.agg.scanNumber = t.scan.number ∧
      ((∃ r, t.usableReading (.bed b) r) → y.agg.status = .live ∧ y.agg.held = 0 ∧
        ∃ lo hi, y.agg.tmin = some lo ∧ y.agg.tmax = some hi ∧ t.usableReading (.bed b) lo ∧
          t.usableReading (.bed b) hi ∧ ∀ r, t.usableReading (.bed b) r → lo ≤ r ∧ r ≤ hi) ∧
      ((∀ r, ¬ t.usableReading (.bed b) r) → y.agg.tmin = x.agg.tmin ∧ y.agg.tmax = x.agg.tmax ∧
        (y.agg.status, y.agg.held) =
          (if x.agg.status = .blind then (.blind, x.agg.held)
          else if x.agg.held < s.settings.holdLimit then (.held, x.agg.held + 1)
          else (.blind, x.agg.held))) ∧
      (x.agg.status ≠ .blind → y.agg.status = .blind → ∀ p, s.watches p b → alertedAt s t p 3)) ∧
    ((∃ r, t.usableReading .yard r) → t.scan.yard.status = .live ∧ t.scan.yard.held = 0 ∧
      ∃ lo, t.scan.yard.temp = some lo ∧ t.usableReading .yard lo ∧
        ∀ r, t.usableReading .yard r → lo ≤ r) ∧
    ((∀ r, ¬ t.usableReading .yard r) → t.scan.yard.temp = s.scan.yard.temp ∧
      (t.scan.yard.status, t.scan.yard.held) =
        (if s.scan.yard.status = .blind then (.blind, s.scan.yard.held)
        else if s.scan.yard.held < s.settings.holdLimit then (.held, s.scan.yard.held + 1)
        else (.blind, s.scan.yard.held))) ∧
    (s.scan.yard.status ≠ .blind → t.scan.yard.status = .blind →
      ∀ p, (s.port p).role ≠ .off → alertedAt s t p 4) ∧
    (s.ctl = .loading → t.pieces = s.pieces ∧ t.budget = s.budget ∧
      ∀ b x, s.bed b = some x → ∃ a, t.bed b = some { x with agg := a })

/-! ### The Maturity Unit (chapter 3) -/

/-- The bed is accounted at a scan result: CURING, RELEASABLE, DETENSIONING or STRIPPING (R43). -/
def Sys2Proof.Machine.Bed.cures (x : Bed) : Prop :=
  x.cycle.state = .curing ∨ x.cycle.state = .releasable ∨ x.cycle.state = .detensioning ∨
    x.cycle.state = .stripping

/-- What a scan result adds to a count at a temperature (clamped to the datum and the maturity ceiling) over
the minutes since `m`, cut to 60 (R44 to R46). -/
def Sys2Proof.Machine.Settings.adds (c : Settings) (temp now m : Int) : Nat :=
  ((max c.datum (min temp c.maturityCeiling) - c.datum) * min (now - m) 60).toNat

/-- A scan result in RUNNING accounts every bed from CURING to STRIPPING with its coldest reading, the datum
when it is BLIND, and every piece off the beds with the yard temperature; the count saturates, the minute is
now, and a period cut to 60 minutes sets the gap flag and raises a bed's gap count. Other records stay. Then
a piece not SCRAP becomes SHIP_READY when the count it reports meets 600 times its ship target and its age its
ship minimum age, with SHIP_READY raised; the flag is never cleared (R43 to R49, R51, R52). -/
def Obligations.ScanResultsAccountMaturityAndShipReadiness : Prop :=
  ∀ (i : Instr) (s : State), s.completesScan i → s.ctl = .running → ∃ t, exec i s = .next t ∧
    (∀ b x, s.bed b = some x → ∃ y, t.bed b = some y ∧
      (¬ x.cures → y.maturity = x.maturity) ∧
      ∀ m temp, x.cures → x.maturity.last = some m →
        (y.agg.status = .blind ∧ temp = s.settings.datum ∨
          y.agg.status ≠ .blind ∧ y.agg.tmin = some temp) →
        y.maturity =
          ⟨min (x.maturity.count + s.settings.adds temp s.now m) 4294967295, some s.now,
            x.maturity.gap || decide (60 < s.now - m),
            if 60 < s.now - m then min (x.maturity.gapCount + 1) 255 else x.maturity.gapCount⟩) ∧
    ∀ id x, s.piece id = some x → ∃ y, t.piece id = some y ∧
      y.state = x.state ∧ y.location = x.location ∧ y.hold = x.hold ∧ y.move = x.move ∧
      (y.shipReady = true ↔ x.shipReady = true ∨
        (x.state ≠ .scrap ∧ 600 * x.shipTarget ≤ (t.maturityOf y).count ∧
          60 * (x.shipAge : Int) ≤ s.now - x.castMinute)) ∧
      (y.shipReady ≠ x.shipReady → ∀ p, (s.port p).role ≠ .off → alertedAt s t p 13) ∧
      (x.state = .onBed ∨ x.state = .strippable ∨ x.state = .scrap →
        y.count = x.count ∧ y.last = x.last ∧ y.gap = x.gap) ∧
      ∀ m temp, x.state = .stocked ∨ x.state = .dispatchStaged ∨ x.state = .inTransit →
        x.last = some m →
        (t.scan.yard.status = .blind ∧ temp = s.settings.datum ∨
          t.scan.yard.status ≠ .blind ∧ t.scan.yard.temp = some temp) →
        y.count = min (x.count + s.settings.adds temp s.now m) 4294967295 ∧ y.last = some s.now ∧
        y.gap = (x.gap || decide (60 < s.now - m))

/-- Every bed's count is within its range, and a bed before its cure holds no maturity (R41, R42). -/
def Sys2Proof.Machine.State.maturitySafe (s : State) : Prop :=
  ∀ b x, s.bed b = some x → x.maturity.count ≤ 4294967295 ∧
    (¬ x.cures → x.maturity = ⟨0, none, false, 0⟩)

/-- Every step keeps the maturity of beds before their cure absent, and in RUNNING, but for POWER_ON, no step
lowers a bed's count unless it leaves the bed EMPTY (R42, R53). -/
def Obligations.BedMaturityNeverDecreasesInRunning : Prop :=
  ∀ s t, s.maturitySafe → step s = .next t → t.maturitySafe ∧
    (s.ctl = .running → (∀ r0 r1 r2 r3 shed, s.pending.head? ≠ some (.powerOn r0 r1 r2 r3 shed)) →
      ∀ b x y, s.bed b = some x → t.bed b = some y →
        x.maturity.count ≤ y.maturity.count ∨ y.cycle.state = .empty)

/-! ### Release and the Heat Regulator (chapters 4 and 6) -/

/-- A CURING bed whose count meets its release target and whose age meets its release minimum age. -/
def Sys2Proof.Machine.Bed.mature (x : Bed) (count : Nat) (now : Int) : Prop :=
  x.cycle.state = .curing ∧ ∃ f, x.cycle.figures = some f ∧ 600 * f.target ≤ count ∧
    (f.minAge : Int) ≤ now - f.pourEnd

/-- The release evaluation of a scan result in RUNNING, by the count the same result has left: a mature bed
becomes RELEASABLE with its release minute now and BED_RELEASABLE raised toward it, and every other bed's
cycle record stays; its pieces and captured figures stay (R106, R107). -/
def Obligations.ScanResultsReleaseMatureBeds : Prop :=
  ∀ (i : Instr) (s : State), s.completesScan i → s.ctl = .running → ∃ t, exec i s = .next t ∧
    ∀ b x, s.bed b = some x → ∃ y, t.bed b = some y ∧
      (x.mature y.maturity.count s.now →
        y.cycle = { x.cycle with state := .releasable, release := some s.now } ∧
        ∀ p, s.watches p b → alertedAt s t p 5) ∧
      (¬ x.mature y.maturity.count s.now → y.cycle = x.cycle)

/-- The phase steps of a scan result in RUNNING for a bed in cure, over its accounting period: PRESET is left
for RAMP or HOLD when its minutes have passed and the bed is not BLIND, RAMP advances the setpoint to HOLD and
COOL lowers it to OFF with the carry kept in sixtieths, and a release at the same result enters COOL first
(R65 to R67, R73). Under a BLIND yard COOL ends at or below 0, as R67 states, and at or below a datum above 0 as
well, read from R54's word that the datum acts on that end (notes/assumptions/13.md). -/
def Obligations.ScanResultsMoveThePhases : Prop :=
  ∀ (i : Instr) (s : State), s.completesScan i → s.ctl = .running → ∃ t, exec i s = .next t ∧
    ∀ b x q f sp m coolEnd, s.bed b = some x → x.cures → x.heat.working = some q →
      x.cycle.figures = some f → x.heat.setpoint = some sp → x.maturity.last = some m →
      (t.scan.yard.status = .blind ∧ coolEnd = max 0 s.settings.datum ∨
        t.scan.yard.status ≠ .blind ∧ t.scan.yard.temp = some coolEnd) →
      ∃ y, t.bed b = some y ∧ y.heat.working = some q ∧
        let released := x.cycle.state = .curing ∧ y.cycle.state = .releasable
        let phase := if released then .cool else x.heat.phase
        let carry := if released then 0 else x.heat.carry
        let due := (min (s.now - m) 60).toNat
        let ends (ph : Phase) (t : Int) (c : Nat) :=
          y.heat.phase = ph ∧ y.heat.setpoint = some t ∧ y.heat.carry = c
        match phase with
        | .off => ends .off sp carry
        | .hold => ends .hold sp carry
        | .preset =>
            if y.agg.status = .blind ∨ s.now - f.pourEnd < q.preset then ends .preset sp carry
            else ∀ tmax, y.agg.tmax = some tmax →
              if (q.holdTemp : Int) ≤ tmax then ends .hold q.holdTemp 0 else ends .ramp tmax 0
        | .ramp =>
            let sp1 := sp + ((q.rampRate * due + carry) / 60 : Nat)
            if (q.holdTemp : Int) ≤ sp1 then ends .hold q.holdTemp 0
            else ends .ramp sp1 ((q.rampRate * due + carry) % 60)
        | .cool =>
            let sp1 := max (-400) (sp - ((q.coolRate * due + carry) / 60 : Nat))
            if sp1 ≤ coolEnd then ends .off sp1 0
            else ends .cool sp1 ((q.coolRate * due + carry) % 60)

/-- The demand a scan result in RUNNING forms for a regulated bed. On a reading: the base demand by the band
about the new setpoint, its raise withheld while the bed stands curtailed; the frost flag by the coldest
reading and the overheat flag by the warmest, each alert on entry alone; and the requested demand, where
overheat gives nothing and frost at least the guard. BLIND: base and flags held, and the guard kW unless in
overheat. A bed in EMPTY or SET is not regulated (R63, R69 to R73, R75). -/
def Obligations.ScanResultsFormDemand : Prop :=
  ∀ (i : Instr) (s : State), s.completesScan i → s.ctl = .running → ∃ t, exec i s = .next t ∧
    ∀ b x, s.bed b = some x → ∃ y, t.bed b = some y ∧
      y.heat.curtailed = decide (t.budget.granted[b] < y.heat.requested) ∧
      (x.cycle.state = .empty ∨ x.cycle.state = .set →
        y.heat = { x.heat with curtailed := y.heat.curtailed }) ∧
      (x.cures ∨ x.cycle.state = .casting →
        let idle := y.heat.phase = .off ∨ y.heat.phase = .preset
        let q := x.heat.working.getD s.profiles[b]
        (y.agg.status = .blind →
          y.heat.base = (if idle then 0 else x.heat.base) ∧ y.heat.frost = x.heat.frost ∧
          y.heat.overheat = x.heat.overheat ∧
          y.heat.requested = if x.heat.overheat then 0 else x.defn.guard) ∧
        ∀ tmin tmax sp, y.agg.status ≠ .blind → y.agg.tmin = some tmin → y.agg.tmax = some tmax →
          (¬ idle → y.heat.setpoint = some sp) →
          y.heat.base =
            (if idle then 0
            else if (q.bandLow : Int) ≤ sp - tmax then
              if x.heat.curtailed then x.heat.base else min x.defn.rated (x.heat.base + q.step)
            else if sp - tmax ≤ -(q.bandHigh : Int) then x.heat.base - q.step
            else x.heat.base) ∧
          (y.heat.frost = true ↔
            if x.heat.frost then tmin < s.settings.frostOff else tmin ≤ s.settings.frostOn) ∧
          (y.heat.overheat = true ↔
            if x.heat.overheat then (q.ceiling : Int) - 20 < tmax else (q.ceiling : Int) ≤ tmax) ∧
          y.heat.requested =
            (if y.heat.overheat then 0
            else if y.heat.frost then max y.heat.base x.defn.guard else y.heat.base) ∧
          (x.heat.frost = false → y.heat.frost = true → ∀ p, s.watches p b → alertedAt s t p 6) ∧
          (x.heat.overheat = false → y.heat.overheat = true → ∀ p, s.watches p b → alertedAt s t p 7))

/-- SET_PROFILE from an OFFICE port writes the eight figures into the stored profile of every slot its mask
names, defined or not, and changes nothing else, a figure out of range being BAD_VALUE; READ_PROFILE, from a
port of any role, answers the stored profile and the working profile where there is one (R60, R61). -/
def Obligations.ProfilesAreStoredBySlotAndRead : Prop :=
  ∀ (p : PortId) (tag : Byte) (s : State),
    (s.asks p .office → ∀ (mask : Nat) (q : Profile),
      (¬ q.legal → exec (.setProfile p tag mask q) s =
        .next (s.refused p tag .setProfile .badValue .empty)) ∧
      (q.legal → ∃ l : Vector Profile 16,
        exec (.setProfile p tag mask q) s =
          .next (State.answered { s with profiles := l } p tag .setProfile .ok .empty) ∧
        ∀ b : BedId, l[b] = if mask.testBit b then q else s.profiles[b])) ∧
    (s.hears p →
      (∀ b : BedId, exec (.readProfile p tag b) s = .next (s.answered p tag .readProfile .ok
        (.profiles s.profiles[b] (match s.bed b with
          | none => none
          | some x => x.heat.working)))) ∧
      ∀ n, 16 ≤ n → exec (.readProfile p tag n) s =
        .next (s.refused p tag .readProfile .badValue .empty))

/-! ### The Feeder Budget Unit (chapter 5) -/

/-- The heat that an allocation gives is the guards', then what is left shared by what each slot still asks; it
never exceeds the heat budget, never gives a slot more than it asks when its guard is within what it asks, and
gives every guard in full when the guards fit, and every demand in full when the demands fit too. An
allocation grants exactly that heat (R80, R85, R86). -/
def Obligations.AllocationsFitTheHeatBudget : Prop :=
  ∀ e : Event,
    let s := e.st
    let heat := s.limitNow - s.limits.baseLoad - s.reservations
    let out (b : BedId) : Nat := (allocate e).st.budget.granted[b]
    (allocate e).st.budget.granted = s.allotment ∧ shares s.guardAt s.demandAt heat out ∧
    ∑ b, out b ≤ heat ∧ (∀ b, s.guardAt b ≤ s.demandAt b → out b ≤ s.demandAt b) ∧
    (∑ b, s.guardAt b ≤ heat → ∀ b, s.guardAt b ≤ out b) ∧
    (∑ b, s.guardAt b ≤ heat → (∀ b, s.guardAt b ≤ s.demandAt b) → ∑ b, s.demandAt b ≤ heat →
      ∀ b, out b = s.demandAt b)

/-- Each SHED edge sets or clears the shed flag and raises SHED_CHANGE, whatever the flag was (the model's
choice where the line already stood so, notes/assumptions/20.md); in RUNNING an
allocation is taken with the new effective limit, and in LOADING none. The reservations stand. When an update
completes on the heat output link the panels hold the levels it carried, and the latest levels follow at once
if any came meanwhile (R81, R88; that a completion with no update in progress changes nothing is
notes/assumptions/3.md). -/
def Obligations.ShedEdgesReallocateAndLevelsFollow : Prop :=
  ∀ (level : Bool) (s : State),
    let run := exec (if level then .shedAssertion else .shedDeassertion) s
    let u := State.raise { s with budget := { s.budget with shed := level } } .shedChange .everyPort
    (s.ctl = .loading → run = .next u) ∧
    (s.ctl = .running → ∃ t, run = .next t ∧ u.allocatesTo t) ∧
    (∀ p, (s.port p).role ≠ .off → alertedAt s u p 9) ∧
    exec .linkUpdateDone s = .next
      (match s.budget.link.sending with
      | none => s
      | some v =>
          { s with budget :=
            { s.budget with
              link := ⟨if s.budget.link.waiting then some s.budget.levels else none, false, v⟩ } })

/-- READ_BUDGET, from a port of any role, answers the limits, the shed flag, the figures of R80, every
reservation, every slot's line and the minute of the last allocation, and changes nothing (R93). -/
def Obligations.ReadBudgetFormsItsFigures : Prop :=
  ∀ (p : PortId) (tag : Byte) (s : State), s.hears p → ∃ r,
    exec (.readBudget p tag) s = .next (s.answered p tag .readBudget .ok (.budget r)) ∧
    r.limits = s.limits ∧ r.shed = s.budget.shed ∧ r.effective = s.limitNow ∧
    r.reserved = s.reservations ∧
    r.heatBudget = (s.limitNow : Int) - s.limits.baseLoad - s.reservations ∧
    r.guards = ∑ b, s.guardAt b ∧ r.spare = r.heatBudget - r.guards ∧
    (∀ k : CraneId, r.reservations[k] = (s.crane k).reservation) ∧
    (∀ b : BedId, r.beds[b] = match s.bed b with
      | none => ⟨0, s.budget.granted[b], s.budget.levels[b], false, false⟩
      | some x => ⟨x.heat.requested, s.budget.granted[b], s.budget.levels[b], x.heat.curtailed,
          x.heat.frost && !x.heat.overheat && decide (0 < x.defn.guard)⟩) ∧
    r.lastAllocation = s.budget.lastAllocation.map fun m => BitVec.ofInt 32 m + s.clock.offset

/-- After every event the granted heat and the crane reservations together are at most the effective limit
less the base load: every step keeps it, with what it rests on (the limits carry every enrolled crane, a
reservation is held at the enrolled rating of a holding crane, and in LOADING nothing is granted or held)
(R82, R89). -/
def Obligations.EveryStepKeepsTheFeederWithinItsLimit : Prop :=
  ∀ s t, s.powerSafe → step s = .next t → t.powerSafe ∧
    ∑ b : BedId, t.budget.granted[b] + t.reservations + t.limits.baseLoad ≤ t.limitNow

/-! ### The Bed Cycle Controller (chapter 6) -/

/-- The port, tag, kind and bed number of a bed request. -/
def Sys2Proof.Instr.bedRequest? : Instr → Option (PortId × Byte × RequestKind × Nat)
  | .bedSet p tag b => some (p, tag, .bedSet, b)
  | .cancelSet p tag b => some (p, tag, .cancelSet, b)
  | .pourStart p tag b => some (p, tag, .pourStart, b)
  | .pourEnd p tag b _ => some (p, tag, .pourEnd, b)
  | .detensionRequest p tag b => some (p, tag, .detensionRequest, b)
  | .detensionDone p tag b => some (p, tag, .detensionDone, b)
  | .abandonBed p tag b => some (p, tag, .abandonBed, b)
  | _ => none

/-- The port, tag, kind and crane number of a crane's request, with the slot number of a report. -/
def Sys2Proof.Instr.craneRequest? : Instr → Option (PortId × Byte × RequestKind × Nat × Nat)
  | .nextMove p tag c _ => some (p, tag, .nextMove, c, 0)
  | .lifted p tag c n _ => some (p, tag, .lifted, c, n)
  | .placed p tag c n => some (p, tag, .placed, c, n)
  | .abortMove p tag c n _ _ => some (p, tag, .abortMove, c, n)
  | _ => none

/-- The checks the seven bed requests share, in order: NOT_READY in LOADING, NOT_PERMITTED by the port's role,
BAD_VALUE for the number, NO_SUCH for the bed, and NOT_BOUND with the bed's cycle state for a BEDSIDE port it
is not bound to. The checks a crane's requests share: NOT_READY in LOADING, NOT_PERMITTED from another role,
BAD_VALUE for the crane's number, NO_SUCH for a crane not enrolled, NOT_BOUND from another port than its own,
and for a report BAD_VALUE for the slot's number (R98, R148, R159, R177; that LOADING refuses a crane's
requests from any port is notes/assumptions/7.md). -/
def Obligations.BedAndCraneRequestsShareTheirChecks : Prop :=
  ∀ (i : Instr) (p : PortId) (tag : Byte) (k : RequestKind) (n slot : Nat) (s : State), s.hears p →
    let stop (r : Result) (a : Answer) := exec i s = .next (s.refused p tag k r a)
    let role := (s.port p).role
    (i.bedRequest? = some (p, tag, k, n) →
      if s.ctl = .loading then stop .notReady .empty
      else if role = .crane ∨ (role = .bedside ∧ k = .abandonBed) then stop .notPermitted .empty
      else if 16 ≤ n then stop .badValue .empty
      else ∀ b : BedId, b.val = n →
        (s.bed b = none → stop .noSuch .empty) ∧
        ∀ x, s.bed b = some x → role = .bedside → x.defn.bound ≠ some p →
          stop .notBound (.cycle x.cycle.state)) ∧
    (i.craneRequest? = some (p, tag, k, n, slot) →
      if s.ctl = .loading then stop .notReady .empty
      else if role ≠ .crane then stop .notPermitted .empty
      else if 4 ≤ n then stop .badValue .empty
      else ∀ j : CraneId, j.val = n →
        ((s.crane j).enrolment = none → stop .noSuch .empty) ∧
        ∀ e, (s.crane j).enrolment = some e →
          (e.bound ≠ p → stop .notBound .empty) ∧ (e.bound = p → 64 ≤ slot → stop .badValue .empty))

/-- In RUNNING the port may make bed requests for this defined bed: an OFFICE port, or the BEDSIDE port it is
bound to, not sending. -/
def Sys2Proof.Machine.State.tends (s : State) (p : PortId) (b : BedId) (x : Bed) : Prop :=
  s.ctl = .running ∧ (s.port p).tx = .idle ∧ s.bed b = some x ∧
  ((s.port p).role = .office ∨ ((s.port p).role = .bedside ∧ x.defn.bound = some p))

/-- BED_SET takes an EMPTY bed to SET and CANCEL_SET a SET bed to EMPTY, both with the regulation record at
its idle values; POUR_START takes a SET bed to CASTING and leaves that record; in any other state each is
refused with WRONG_STATE and the state the bed stands in. No allocation is taken (R68, R99 to R101). -/
def Obligations.BedsAreSetCancelledAndPoured : Prop :=
  ∀ (p : PortId) (tag : Byte) (b : BedId) (x : Bed) (s : State), s.tends p b x →
    let idle : Regulation := ⟨x.heat.working, .off, none, 0, 0, 0, false, false, false⟩
    let moved (k : RequestKind) (c : CycleState) (h : Regulation) : State :=
      (s.setBed b (some { x with cycle := { x.cycle with state := c }, heat := h })).answered p tag k .ok
        (.cycle c)
    let stays (k : RequestKind) : State := s.refused p tag k .wrongState (.cycle x.cycle.state)
    exec (.bedSet p tag b) s =
      .next (if x.cycle.state = .empty then moved .bedSet .set idle else stays .bedSet) ∧
    exec (.cancelSet p tag b) s =
      .next (if x.cycle.state = .set then moved .cancelSet .empty idle else stays .cancelSet) ∧
    exec (.pourStart p tag b) s =
      .next (if x.cycle.state = .set then moved .pourStart .casting x.heat else stays .pourStart)

/-- The figure is the largest among the classes of a list's entries. -/
def Sys2Proof.Machine.State.largestOf (s : State) (f : ProductClass → Nat) (es : List PieceEntry)
    (n : Nat) : Prop :=
  (∃ y ∈ es, ∃ c, s.classOf y = some c ∧ f c = n) ∧ ∀ y ∈ es, ∀ c, s.classOf y = some c → f c ≤ n

/-- POUR_END on a CASTING bed is checked in the order of R102; accepted, it creates one piece an entry,
captures the largest strip figures, starts the bed's maturity and takes the stored profile into PRESET at one
event. On a CURING bed the same ids are answered REPEAT with the captured figures; any other list, and any
other state, is WRONG_STATE. A refused POUR_END creates nothing (R102, R103, R105). -/
def Obligations.PourEndCastsOnceAndRepeats : Prop :=
  ∀ (p : PortId) (tag : Byte) (b : BedId) (x : Bed) (es : List PieceEntry) (s : State), s.tends p b x →
    let run := exec (.pourEnd p tag b es) s
    let stop (r : Result) := run = .next (s.refused p tag .pourEnd r (.cycle x.cycle.state))
    let stamp (m : Int) := BitVec.ofInt 32 m + s.clock.offset
    (x.cycle.state = .casting →
      if ¬ castable es then stop .badValue
      else if ¬ ∀ y ∈ es, (s.classOf y).isSome then stop .noSuch
      else if ¬ ((es.map PieceEntry.id).Nodup ∧ ∀ y ∈ es, s.piece y.id = none) then stop .duplicate
      else if 1024 < s.pieces.length + es.length then stop .full
      else ∃ target minAge l, s.largestOf ProductClass.stripTarget es target ∧
        s.largestOf ProductClass.stripAge es minAge ∧ l.Perm (es.map (s.castAs b s.now) ++ s.pieces) ∧
        run = .next (State.answered (({ s with pieces := l } : State).setBed b (some
          { x with
            cycle := ⟨.curing, es.map PieceEntry.id, some ⟨target, minAge, s.now⟩, x.cycle.release⟩
            maturity := ⟨0, some s.now, false, 0⟩
            heat :=
              { x.heat with
                working := some s.profiles[b]
                phase := .preset
                setpoint := some (x.agg.tmax.getD 0)
                carry := 0
                base := 0 } }))
          p tag .pourEnd .ok (.poured .curing (stamp s.now) target minAge))) ∧
    (∀ f, x.cycle.state = .curing → x.cycle.figures = some f →
      if es.map PieceEntry.id = x.cycle.pieces then
        run = .next (s.answered p tag .pourEnd .repeated
          (.poured .curing (stamp f.pourEnd) f.target f.minAge))
      else stop .wrongState) ∧
    (x.cycle.state ≠ .casting → x.cycle.state ≠ .curing → stop .wrongState)

/-- A bed back in EMPTY: its definition and aggregate stay, all else is at the EMPTY values (R114). -/
def Sys2Proof.Machine.Bed.cleared (x : Bed) : Bed :=
  ⟨x.defn, ⟨.empty, [], none, none⟩, ⟨0, none, false, 0⟩, ⟨none, .off, none, 0, 0, 0, false, false, false⟩,
    x.agg⟩

/-- DETENSION_REQUEST is judged by the state, the bed's aggregate, the yard's and their difference, in that
order, and accepted takes the bed to DETENSIONING in phase OFF with base demand 0. DETENSION_DONE makes the
bed's pieces STRIPPABLE and the bed STRIPPING, or, with an empty list, returns it to EMPTY with an allocation
(R108 to R110, R114). -/
def Obligations.BedsAreDetensioned : Prop :=
  ∀ (p : PortId) (tag : Byte) (b : BedId) (x : Bed) (s : State), s.tends p b x →
    let ask := exec (.detensionRequest p tag b) s
    let stop (r : Result) := ask = .next (s.refused p tag .detensionRequest r (.cycle x.cycle.state))
    let did := exec (.detensionDone p tag b) s
    (if x.cycle.state ≠ .releasable then stop .wrongState
      else if x.agg.status = .blind then stop .blind
      else if s.scan.yard.status = .blind then stop .noAmbient
      else ∀ tmax yard, x.agg.tmax = some tmax → s.scan.yard.temp = some yard →
        if s.settings.differentialLimit < tmax - yard then stop .tooWarm
        else ask = .next ((s.setBed b (some
          { x with
            cycle := { x.cycle with state := .detensioning }
            heat := { x.heat with phase := .off, carry := 0, base := 0 } })).answered p tag
          .detensionRequest .ok (.cycle .detensioning))) ∧
    (if x.cycle.state ≠ .detensioning then
        did = .next (s.refused p tag .detensionDone .wrongState (.cycle x.cycle.state))
      else if x.cycle.pieces = [] then
        ∃ t, did = .next t ∧ State.allocatesTo
          ((s.setBed b (some x.cleared)).answered p tag .detensionDone .ok (.cycle .empty)) t
      else did = .next (State.answered
        (({ s with pieces := s.pieces.map fun y =>
            if y.id ∈ x.cycle.pieces then { y with state := .strippable } else y } : State).setBed b
          (some { x with cycle := { x.cycle with state := .stripping } }))
        p tag .detensionDone .ok (.cycle .stripping)))

/-- A piece's pending move and the move's piece name each other, and every move's piece is registered
(R126, R138). -/
def Sys2Proof.Machine.State.linksSafe (s : State) : Prop :=
  (∀ i m, s.move i = some m → (s.piece m.piece).isSome) ∧
  ∀ id x i, s.piece id = some x → (x.move = some i ↔ ∃ m, s.move i = some m ∧ m.piece = id)

/-- ABANDON_BED from an OFFICE port: WRONG_STATE in EMPTY and SET; from CASTING or with an empty list the bed
returns to EMPTY with an allocation; otherwise the QUEUED moves of its pieces are dropped with MOVE_DROPPED
toward their requesters, its pieces become SCRAP with its count and gap, the bed is STRIPPING in phase OFF
with its demand formed again, and an allocation is taken (R68, R111, R114). -/
def Obligations.AbandonBedScrapsItsPieces : Prop :=
  ∀ (p : PortId) (tag : Byte) (b : BedId) (x : Bed) (s : State),
    s.tends p b x → (s.port p).role = .office → s.linksSafe →
    let run := exec (.abandonBed p tag b) s
    if x.cycle.state = .empty ∨ x.cycle.state = .set then
      run = .next (s.refused p tag .abandonBed .wrongState (.cycle x.cycle.state))
    else if x.cycle.state = .casting ∨ x.cycle.pieces = [] then
      ∃ t, run = .next t ∧ State.allocatesTo
        ((s.setBed b (some x.cleared)).answered p tag .abandonBed .ok (.cycle .empty)) t
    else ∃ t y, run = .next t ∧ (t.port p).tx = .formed ⟨tag, 0x26, .ok, .cycle .stripping⟩ ∧
      t.budget.lastAllocation = some s.now ∧ t.bed b = some y ∧ y.defn = x.defn ∧
      y.cycle = { x.cycle with state := .stripping } ∧ y.maturity = x.maturity ∧ y.agg = x.agg ∧
      y.heat =
        { x.heat with
          phase := .off
          carry := 0
          base := 0
          requested := if x.heat.overheat then 0 else if x.heat.frost then x.defn.guard else 0
          curtailed := decide (t.budget.granted[b] < y.heat.requested) } ∧
      (∀ i m, s.move i = some m → m.progress = .queued → m.piece ∈ x.cycle.pieces →
        t.move i = none ∧ ((s.port m.requester).role ≠ .off → alertedAt s t m.requester 11)) ∧
      (∀ i m, s.move i = some m → m.progress ≠ .queued ∨ m.piece ∉ x.cycle.pieces →
        t.move i = some m) ∧
      (∀ id z, s.piece id = some z → id ∈ x.cycle.pieces → ∃ w, t.piece id = some w ∧
        w.state = .scrap ∧ w.location = z.location ∧ w.hold = z.hold ∧ w.shipReady = z.shipReady ∧
        (z.state ≠ .scrap →
          w.count = x.maturity.count ∧ w.gap = x.maturity.gap ∧ w.last = some s.now) ∧
        (z.state = .scrap → w.count = z.count ∧ w.gap = z.gap ∧ w.last = z.last)) ∧
      ∀ id, id ∉ x.cycle.pieces → t.piece id = s.piece id

/-! ### The Piece Registry (chapter 7) -/

/-- SET_HOLD and CLEAR_HOLD from an OFFICE port, in either state and in every state of the piece, write the hold
of the piece named and nothing else, answering its state; an id of 0 is BAD_VALUE and one not registered
NO_SUCH (R122). -/
def Obligations.HoldsAreWrittenOnOnePiece : Prop :=
  ∀ (p : PortId) (tag : Byte) (id reason : Nat) (s : State), s.asks p .office →
    let put (h : Option Nat) : State :=
      { s with pieces := s.pieces.map fun y => if y.id = id then { y with hold := h } else y }
    (id = 0 ∨ 65535 < id →
      exec (.setHold p tag id reason) s = .next (s.refused p tag .setHold .badValue .empty) ∧
      exec (.clearHold p tag id) s = .next (s.refused p tag .clearHold .badValue .empty)) ∧
    (1 ≤ id → id ≤ 65535 → s.piece id = none →
      exec (.setHold p tag id reason) s = .next (s.refused p tag .setHold .noSuch .empty) ∧
      exec (.clearHold p tag id) s = .next (s.refused p tag .clearHold .noSuch .empty)) ∧
    ∀ x, 1 ≤ id → id ≤ 65535 → s.piece id = some x →
      exec (.setHold p tag id reason) s =
        .next ((put (some reason)).answered p tag .setHold .ok (.pieceState x.state)) ∧
      exec (.clearHold p tag id) s =
        .next ((put none).answered p tag .clearHold .ok (.pieceState x.state))

/-- The piece has a move in GRANTED or LIFTED (R126). -/
def Sys2Proof.Machine.State.moving (s : State) (x : Piece) : Prop :=
  ∃ i m, x.move = some i ∧ s.move i = some m ∧ m.progress ≠ .queued

/-- The QUEUED moves of these pieces have left the table with MOVE_DROPPED raised toward their requesters, and
every other move stands (R146). -/
def Sys2Proof.Machine.State.dropsTo (s t : State) (ids : List Nat) : Prop :=
  ∀ i m, s.move i = some m →
    (m.progress = .queued ∧ m.piece ∈ ids → t.move i = none ∧
      ((s.port m.requester).role ≠ .off → alertedAt s t m.requester 11)) ∧
    (¬ (m.progress = .queued ∧ m.piece ∈ ids) → t.move i = some m)

/-- DELETE_PIECE from an OFFICE port refuses a piece in motion, and one in a stack that is not its top.
Otherwise the piece's queued move is dropped, it leaves its bed's list or its stack, its record alone is
freed, and a STRIPPING bed left without pieces returns to EMPTY, with an allocation in RUNNING; the answer
carries the state and the place it had (R113, R114, R130, R131). -/
def Obligations.DeletePieceFreesOneRecord : Prop :=
  ∀ (p : PortId) (tag : Byte) (id : Nat) (s : State), s.asks p .office → s.linksSafe →
    let run := exec (.deletePiece p tag id) s
    let stop (r : Result) := run = .next (s.refused p tag .deletePiece r .empty)
    let top (x : Piece) := ∀ i, x.location = .stack i →
      ∃ y, s.stack i = some y ∧ y.contents.getLast? = some id
    (id = 0 ∨ 65535 < id → stop .badValue) ∧
    (1 ≤ id → id ≤ 65535 → s.piece id = none → stop .noSuch) ∧
    ∀ x, 1 ≤ id → id ≤ 65535 → s.piece id = some x →
      (s.moving x → stop .inMotion) ∧ (¬ s.moving x → ¬ top x → stop .notTop) ∧
      (¬ s.moving x → top x → ∃ t, run = .next t ∧ s.dropsTo t [id] ∧
        (t.port p).tx = .formed ⟨tag, 0x32, .ok, .deleted x.state (s.place x)⟩ ∧
        t.piece id = none ∧ (∀ n, n ≠ id → t.piece n = s.piece n) ∧
        (∀ i, t.stack i = (s.stack i).map fun y =>
          if x.location = .stack i then { y with contents := y.contents.filter (· ≠ id) } else y) ∧
        (∀ b y, x.location = .bed b → s.bed b = some y →
          let l := y.cycle.pieces.filter (· ≠ id)
          if y.cycle.state = .stripping ∧ l = [] then
            t.bed b = some y.cleared ∧ (s.ctl = .running → t.budget.lastAllocation = some s.now)
          else t.beds = s.beds.set b (some { y with cycle := { y.cycle with pieces := l } }) ∧
            t.budget = s.budget) ∧
        ((∀ b, x.location ≠ .bed b) → t.beds = s.beds ∧ t.budget = s.budget))

/-- SHIP_DISPATCH from an OFFICE port takes a DISPATCH stack with nothing bound for it and no piece in motion:
every piece is freed, their queued moves are dropped, the stack is empty and keeps its definition, and the
answer carries the ids from bottom to top (R132). -/
def Obligations.ShipDispatchFreesAWholeStack : Prop :=
  ∀ (p : PortId) (tag : Byte) (i : StackId) (s : State), s.asks p .office → s.linksSafe →
    let run := exec (.shipDispatch p tag i) s
    let stop (r : Result) := run = .next (s.refused p tag .shipDispatch r .empty)
    (s.stack i = none → stop .noSuch) ∧
    (∀ x, s.stack i = some x →
      let busy := x.incoming ≠ 0 ∨ ∃ id ∈ x.contents, ∃ y, s.piece id = some y ∧ s.moving y
      (x.defn.kind = .stock → stop .badValue) ∧
      (x.defn.kind = .dispatch → busy → stop .busy) ∧
      (x.defn.kind = .dispatch → ¬ busy → ∃ t, run = .next t ∧ s.dropsTo t x.contents ∧
        (t.port p).tx = .formed ⟨tag, 0x33, .ok, .shipped x.contents⟩ ∧
        t.stackSlots = s.stackSlots.set i (some { x with contents := [] }) ∧
        (∀ id ∈ x.contents, t.piece id = none) ∧
        (∀ id, id ∉ x.contents → t.piece id = s.piece id) ∧ t.beds = s.beds ∧ t.budget = s.budget)) ∧
    ∀ n, 96 ≤ n → exec (.shipDispatch p tag n) s =
      .next (s.refused p tag .shipDispatch .badValue .empty)

/-! ### The Move Table (chapter 8) -/

/-- The piece's present place as a source. -/
def Sys2Proof.Machine.Location.isSource (l : Location) (src : Source) : Prop :=
  (∃ b, l = .bed b ∧ src = .bed b) ∨ ∃ i, l = .stack i ∧ src = .stack i

/-- The piece's state and place fit the kind of move (R139). -/
def Sys2Proof.Machine.State.movable (s : State) (k : MoveKind) (x : Piece) : Prop :=
  match k with
  | .strip => (x.state = .onBed ∨ x.state = .strippable) ∧ ∃ b y, x.location = .bed b ∧
      s.bed b = some y ∧ (y.cycle.state = .releasable ∨ y.cycle.state = .detensioning ∨
        y.cycle.state = .stripping)
  | .restack => x.state = .stocked ∧ ∃ i, x.location = .stack i
  | .load => x.state = .stocked ∧ ∃ i, x.location = .stack i
  | .ret => x.state = .dispatchStaged ∧ ∃ i, x.location = .stack i

/-- REQUEST_MOVE in RUNNING is checked in the order of R142. A request for a piece with a QUEUED move merges:
the move takes the kind, the destination and the piece's present place and keeps its slot, number and
requester. A new entry is limited by the port's credit and the free slots, takes the lowest free slot and the
next sequence number, and is charged to the port (R140 to R144). -/
def Obligations.RequestMoveMergesOrEnters : Prop :=
  ∀ (p : PortId) (tag : Byte) (k : MoveKind) (id : Nat) (d : StackId) (s : State),
    s.ctl = .running → s.asks p .office ∨ s.asks p .bedside →
    let bedside := (s.port p).role = .bedside
    let run := exec (.requestMove p tag k.code id d) s
    let stop (r : Result) := run = .next (s.refused p tag .requestMove r .empty)
    (bedside → k ≠ .strip → stop .notPermitted) ∧
    ((bedside → k = .strip) → (id = 0 ∨ 65535 < id → stop .badValue) ∧
      (1 ≤ id → id ≤ 65535 → s.piece id = none → stop .noSuch) ∧
      ∀ x, 1 ≤ id → id ≤ 65535 → s.piece id = some x →
        (s.moving x → stop .inMotion) ∧
        (¬ s.moving x → ¬ s.movable k x → stop .wrongState) ∧
        ∀ src, ¬ s.moving x → s.movable k x → x.location.isSource src →
          let bound := bedside → ∃ b y, x.location = .bed b ∧ s.bed b = some y ∧ y.defn.bound = some p
          let heldUp := k = .load ∧ x.hold ≠ none
          (¬ bound → stop .notBound) ∧ (bound → heldUp → stop .held) ∧
          (bound → ¬ heldUp → s.stack d = none → stop .noSuch) ∧
          ∀ y, bound → ¬ heldUp → s.stack d = some y →
            let good := (y.defn.kind = .dispatch ↔ k = .load) ∧ y.defn.isOpen = true ∧ src ≠ .stack d
            (¬ good → stop .badValue) ∧
            (∀ i m, good → x.move = some i → s.move i = some m → run = .next (Event.close
              ⟨(s.setMove i (some { m with kind := k, source := src, dest := d })).answered p tag
                .requestMove .merged (.entered i m.seq), [.moveMerged p]⟩)) ∧
            (good → x.move = none →
              (s.settings.creditLimit[p] ≤ s.moves.charged[p] → stop .noCredit) ∧
              (s.moves.charged[p] < s.settings.creditLimit[p] → (∀ i, s.move i ≠ none) → stop .full) ∧
              ∀ i, s.moves.charged[p] < s.settings.creditLimit[p] → s.move i = none →
                (∀ j, j < i → s.move j ≠ none) →
                run = .next (Event.close ⟨State.answered
                  { s with
                    moves :=
                      ⟨s.moves.slots.set i (some ⟨k, id, src, d, p, s.moves.seq + 1, .queued⟩),
                        s.moves.seq + 1, s.moves.charged.set p (s.moves.charged[p] + 1)⟩
                    pieces := s.pieces.map fun z => if z.id = id then { z with move := some i } else z }
                  p tag .requestMove .ok (.entered i (s.moves.seq + 1)), [.moveEntered p]⟩))) ∧
    ∀ c n, 4 ≤ c ∨ 96 ≤ n → exec (.requestMove p tag c id n) s = .next
      (s.refused p tag .requestMove (if bedside ∧ c ≠ 0 then .notPermitted else .badValue) .empty)

/-- CANCEL_MOVE in RUNNING, from the requester or an OFFICE port, takes a QUEUED move for the piece named out of
the table: its slot is free, its requester's credit returned and its piece's pending move absent, without an
alert; its checks come in the order of R145. -/
def Obligations.CancelMoveWithdrawsAQueuedMove : Prop :=
  ∀ (p : PortId) (tag : Byte) (id : Nat) (s : State),
    s.ctl = .running → s.asks p .office ∨ s.asks p .bedside →
    let stop (n : Nat) (r : Result) :=
      exec (.cancelMove p tag n id) s = .next (s.refused p tag .cancelMove r .empty)
    (∀ n, 64 ≤ n ∨ id = 0 ∨ 65535 < id → stop n .badValue) ∧
    ∀ i : SlotId, 1 ≤ id → id ≤ 65535 →
      (s.move i = none → stop i .noSuch) ∧
      ∀ m, s.move i = some m →
        if m.piece ≠ id then stop i .noSuch
        else if m.requester ≠ p ∧ (s.port p).role ≠ .office then stop i .notPermitted
        else if m.progress ≠ .queued then stop i .inMotion
        else exec (.cancelMove p tag i id) s = .next (State.answered
          { s with
            moves :=
              { s.moves with
                slots := s.moves.slots.set i none
                charged := s.moves.charged.set m.requester (s.moves.charged[m.requester] - 1) }
            pieces := s.pieces.map fun z => if z.id = id then { z with move := none } else z }
          p tag .cancelMove .ok .empty)

/-- The port is a crane's own CRANE port, not sending, in RUNNING. -/
def Sys2Proof.Machine.State.drives (s : State) (p : PortId) (k : CraneId) (e : Enrolment) : Prop :=
  s.ctl = .running ∧ s.asks p .crane ∧ (s.crane k).enrolment = some e ∧ e.bound = p

/-- LIFTED of a move GRANTED to the crane for the piece named: the move is LIFTED now with its flag clear, the
piece leaves its source for the crane, IN_TRANSIT unless SCRAP and with its bed's count and gap when it came
from a bed, a STRIPPING bed left without pieces returns to EMPTY with an allocation, and the crane, its
reservation and the destination stand. A LIFTED answered REPEAT, BAD_VALUE or TOO_LATE changes nothing (R50,
R114, R127, R148). -/
def Obligations.LiftedTakesThePieceOffItsSource : Prop :=
  ∀ (p : PortId) (tag : Byte) (k : CraneId) (e : Enrolment) (i : SlotId) (id : Nat) (s : State),
    s.drives p k e →
    let run := exec (.lifted p tag k i id) s
    let stop (r : Result) := run = .next (s.refused p tag .lifted r .empty)
    ((∀ m, s.move i = some m → ∀ g, m.grant? = some g → g.crane ≠ k) → stop .tooLate) ∧
    ∀ m g, s.move i = some m → m.grant? = some g → g.crane = k →
      (m.piece ≠ id → stop .badValue) ∧
      (m.piece = id → m.progress ≠ .granted g → run = .next (s.answered p tag .lifted .repeated .empty)) ∧
      (m.piece = id → m.progress = .granted g → ∃ t, run = .next t ∧
        (t.port p).tx = .formed ⟨tag, 0x49, .ok, .empty⟩ ∧
        t.moves = { s.moves with
          slots := s.moves.slots.set i (some { m with progress := .lifted g s.now false }) } ∧
        t.cranes = s.cranes ∧ (∀ n, n ≠ id → t.piece n = s.piece n) ∧
        (∀ x, s.piece id = some x → ∃ y, t.piece id = some y ∧ y.location = .crane k ∧
          y.move = x.move ∧ y.hold = x.hold ∧ y.shipReady = x.shipReady ∧
          y.state = (if x.state = .scrap then .scrap else .inTransit) ∧
          (∀ b z, m.source = .bed b → s.bed b = some z → x.state ≠ .scrap →
            y.count = z.maturity.count ∧ y.last = some s.now ∧ y.gap = (x.gap || z.maturity.gap)) ∧
          (∀ n, m.source = .stack n → y.count = x.count ∧ y.last = x.last ∧ y.gap = x.gap)) ∧
        (∀ n, t.stack n = (s.stack n).map fun z =>
          if m.source = .stack n then { z with contents := z.contents.filter (· ≠ id) } else z) ∧
        (∀ b z, m.source = .bed b → s.bed b = some z →
          let l := z.cycle.pieces.filter (· ≠ id)
          if z.cycle.state = .stripping ∧ l = [] then
            t.bed b = some z.cleared ∧ t.budget.lastAllocation = some s.now
          else t.beds = s.beds.set b (some { z with cycle := { z.cycle with pieces := l } }) ∧
            t.budget = s.budget) ∧
        ((∀ b, m.source ≠ .bed b) → t.beds = s.beds ∧ t.budget = s.budget))

/-- The state at the end of a lifted move: the piece pushed on a stack and in the state its kind gives, the
destination's incoming count lowered, the move out of the table with its credit returned, and the crane IDLE
without its reservation, its last completed move noted (R128, R149, R151). -/
def Sys2Proof.Machine.State.ended (s : State) (k : CraneId) (i : SlotId) (m : Move) (onto : StackId)
    (tier : Nat) (st : PieceState) (how : Ending) : State :=
  (((({ s with
    moves :=
      { s.moves with
        slots := s.moves.slots.set i none
        charged := s.moves.charged.set m.requester (s.moves.charged[m.requester] - 1) }
    pieces := s.pieces.map fun z =>
      if z.id = m.piece then
        { z with
          location := .stack onto
          state := if z.state = .scrap then .scrap else st
          move := none }
      else z } : State).modStack m.dest fun y => { y with incoming := y.incoming - 1 }).modStack onto
    fun y => { y with contents := y.contents ++ [m.piece] }).modCrane k fun c =>
      { c with held := none, reservation := none, lastMove := some ⟨i, m.piece, onto, tier, how⟩ })

/-- PLACED of a move the crane has LIFTED ends it on its destination, with an allocation, and answers the stack
and the tier. For the slot of the last completed move of an IDLE crane it is answered REPEAT with that stack
and tier, and in any other case WRONG_STATE (R128, R149). -/
def Obligations.PlacedEndsALiftedMove : Prop :=
  ∀ (p : PortId) (tag : Byte) (k : CraneId) (e : Enrolment) (i : SlotId) (s : State), s.drives p k e →
    let run := exec (.placed p tag k i) s
    (∀ m g minute flag y, s.move i = some m → m.progress = .lifted g minute flag → g.crane = k →
      s.stack m.dest = some y → ∃ t, run = .next t ∧
        State.allocatesTo
          ((s.ended k i m m.dest (y.contents.length + 1)
            (if m.kind = .load then .dispatchStaged else .stocked) .placed).answered p tag .placed .ok
            (.setDown m.dest (y.contents.length + 1))) t) ∧
    ((∀ m g minute flag, s.move i = some m → m.progress = .lifted g minute flag → g.crane ≠ k) →
      (∀ l, (s.crane k).held = none → (s.crane k).lastMove = some l → l.slot = i →
        run = .next (s.answered p tag .placed .repeated (.setDown l.stack l.tier))) ∧
      ((∀ l, (s.crane k).lastMove = some l → (s.crane k).held ≠ none ∨ l.slot ≠ i) →
        run = .next (s.refused p tag .placed .wrongState .empty)))

/-- ABORT_MOVE of a move GRANTED to the crane hands it back to QUEUED with its place, its reservation and the
crane given up. Of a move it has LIFTED it sets the piece down on the stack named, under the checks of R151 in
their order, and ends the move as diverted. Each takes an allocation. Otherwise it is answered REPEAT for the
slot of the last completed move of an IDLE crane, and TOO_LATE (R129, R150, R151). -/
def Obligations.AbortMoveHandsBackOrDiverts : Prop :=
  ∀ (p : PortId) (tag : Byte) (k : CraneId) (e : Enrolment) (i : SlotId) (given : Bool) (n : Nat)
    (s : State), s.drives p k e →
    let run := exec (.abortMove p tag k i (if given then 1 else 0) n) s
    let stop (r : Result) := run = .next (s.refused p tag .abortMove r .empty)
    (∀ m g, s.move i = some m → m.progress = .granted g → g.crane = k → ∃ t, run = .next t ∧
      State.allocatesTo
        ((((s.setMove i (some { m with progress := .queued })).modStack m.dest fun y =>
          { y with incoming := y.incoming - 1 }).modCrane k fun c =>
            { c with held := none, reservation := none }).answered p tag .abortMove .ok .empty) t) ∧
    (∀ m g minute flag, s.move i = some m → m.progress = .lifted g minute flag → g.crane = k →
      (¬ (given ∧ n < 96) → stop .badValue) ∧
      ∀ onto : StackId, given = true → onto.val = n → (s.stack onto = none → stop .noSuch) ∧
        ∀ y, s.stack onto = some y →
          if onto ≠ m.dest ∧ ¬ (y.defn.isOpen = true ∧ y.defn.kind = .stock) then stop .badValue
          else if onto ≠ m.dest ∧ y.defn.tierLimit ≤ y.contents.length + y.incoming then stop .noRoom
          else if ¬ (g.spanLow ≤ y.defn.bay ∧ y.defn.bay ≤ g.spanHigh) then stop .badValue
          else ∃ t, run = .next t ∧ State.allocatesTo
            ((s.ended k i m onto (y.contents.length + 1)
              (if y.defn.kind = .dispatch then .dispatchStaged else .stocked) .diverted).answered p tag
              .abortMove .diverted (.setDown onto (y.contents.length + 1))) t) ∧
    ((∀ m g, s.move i = some m → m.grant? = some g → g.crane ≠ k) →
      (∀ l, (s.crane k).held = none → (s.crane k).lastMove = some l → l.slot = i →
        run = .next (s.answered p tag .abortMove .repeated (.setDown l.stack l.tier))) ∧
      ((∀ l, (s.crane k).lastMove = some l → (s.crane k).held ≠ none ∨ l.slot ≠ i) → stop .tooLate)) ∧
    ∀ a, 2 ≤ a → exec (.abortMove p tag k i a n) s =
      .next (s.refused p tag .abortMove .badValue .empty)

/-- The move is GRANTED and its grant is as old as the grant timeout at this minute (R152). -/
def Sys2Proof.Machine.State.expires (s : State) (now : Int) (m : Move) (g : Grant) : Prop :=
  m.progress = .granted g ∧ (s.settings.grantTimeout : Int) ≤ now - g.minute

/-- The move's grant, if it has one that is not lifted, is as old as the grant timeout at this minute. -/
def Sys2Proof.Machine.State.lapses (s : State) (now : Int) (m : Move) : Bool :=
  match m.progress with
  | .queued => false
  | .granted g => decide ((s.settings.grantTimeout : Int) ≤ now - g.minute)
  | .lifted _ _ _ => false

/-- The port sees the alerts of a move with this grant: the move's requester, the port bound to its crane and
every OFFICE port do, but for an OFF port (R178). -/
def Sys2Proof.Machine.State.watchesMove (s : State) (q : PortId) (m : Move) (g : Grant) : Prop :=
  (s.port q).role ≠ .off ∧ (q = m.requester ∨ (s.port q).role = .office ∨
    ∃ e, (s.crane g.crane).enrolment = some e ∧ e.bound = q)

/-- A minute expiry advances the run minute, saturating, and in RUNNING judges the moves at the new minute: a
timed-out grant is revoked to QUEUED, its destination giving up the place and its crane becoming IDLE without
its reservation, with its enrolment, last bay and last move kept; MOVE_REVOKED is raised and counted for each
and one allocation taken for all; a lift that comes overdue has its flag set and LIFT_OVERDUE raised, once;
every other move stands, and nothing else changes. GRANT_TIMEOUT and LIFT_OVERDUE judge the one or the other
at the minute as it stands (notes/assumptions/2.md) (R1, R124, R129, R152, R153, R178). -/
def Obligations.MinuteExpiriesJudgeTheMoves : Prop :=
  ∀ (i : Instr) (s : State), i = .minuteExpiry ∨ i = .grantTimeout ∨ i = .liftOverdue →
    let now := if i = .minuteExpiry then min (s.now + 1) 2147483647 else s.now
    let revoked (m : Move) (g : Grant) := s.ctl = .running ∧ i ≠ .liftOverdue ∧ s.expires now m g
    let overdue (minute : Int) (flag : Bool) := s.ctl = .running ∧ i ≠ .grantTimeout ∧ flag = false ∧
      (s.settings.liftOverdue : Int) ≤ now - minute
    let revokes (pick : Move → Bool) : Nat :=
      if s.ctl = .running ∧ i ≠ .liftOverdue then s.countMoves fun m => s.lapses now m && pick m else 0
    ∃ u t, exec i s = .next t ∧
      u = { s with
        clock := { s.clock with runMinute := now }
        moves := { s.moves with slots := u.moves.slots }
        stackSlots := u.stackSlots
        cranes := u.cranes
        ports := u.ports } ∧
      (∀ j, s.move j = none → u.move j = none) ∧
      (∀ j m, s.move j = some m → m.progress = .queued → u.move j = some m) ∧
      (∀ j m g, s.move j = some m → m.progress = .granted g →
        (¬ revoked m g → u.move j = some m) ∧
        (revoked m g → u.move j = some { m with progress := .queued } ∧
          u.crane g.crane = { s.crane g.crane with held := none, reservation := none })) ∧
      (∀ j m g minute flag, s.move j = some m → m.progress = .lifted g minute flag →
        (¬ overdue minute flag → u.move j = some m) ∧
        (overdue minute flag → u.move j = some { m with progress := .lifted g minute true })) ∧
      (∀ k, (∀ j m g, s.move j = some m → revoked m g → g.crane ≠ k) → u.crane k = s.crane k) ∧
      (∀ n, u.stack n = (s.stack n).map fun x =>
        { x with incoming := x.incoming - revokes fun m => m.dest == n }) ∧
      (∀ q, ∃ a, u.port q = { s.port q with alerts := a } ∧ ∀ n, n < 16 → (a.getLsbD n = true ↔
        (s.port q).alerts.getLsbD n = true ∨ ((s.port q).mask.getLsbD n = true ∧
          (n = 10 ∧ (∃ j m g, s.move j = some m ∧ revoked m g ∧ s.watchesMove q m g) ∨
            n = 12 ∧ ∃ j m g minute flag, s.move j = some m ∧ m.progress = .lifted g minute flag ∧
              overdue minute flag ∧ s.watchesMove q m g)))) ∧
      ((∃ j m g, s.move j = some m ∧ revoked m g) → u.allocatesTo t ∧
        (s.counters.frozen = false → ∀ c : Fin 8, s.counters.counters[c].selection = .moveRevoked →
          s.counters.counters[c].filter = .any → t.counters.counters[c].value =
            s.counters.counters[c].value + BitVec.ofNat 32 (revokes fun _ => true))) ∧
      ((∀ j m g, s.move j = some m → ¬ revoked m g) → t = u)

/-! ### The Crane Arbiter (chapter 9) -/

/-- The first and last bay of a source. -/
def Sys2Proof.Machine.State.sourceBays (s : State) (src : Source) (a b : Nat) : Prop :=
  match src with
  | .bed n => ∃ x, s.bed n = some x ∧ a = x.defn.firstBay ∧ b = x.defn.lastBay
  | .stack n => ∃ x, s.stack n = some x ∧ a = x.defn.bay ∧ b = x.defn.bay

/-- The bays a move would run over from the crane's bay: from the least to the greatest of that bay, the
source's and the destination's (R162). -/
def Sys2Proof.Machine.State.runsOver (s : State) (bay : Nat) (m : Move) (lo hi : Nat) : Prop :=
  ∃ a b y, s.sourceBays m.source a b ∧ s.stack m.dest = some y ∧
    lo = min (min bay y.defn.bay) (min a b) ∧ hi = max (max bay y.defn.bay) (max a b)

/-- The piece can be taken from its source now, the destination is open with room, and the crane reaches both
and bears the piece (R160). -/
def Sys2Proof.Machine.State.suits (s : State) (e : Enrolment) (m : Move) : Prop :=
  (match m.source with
    | .bed b => ∃ x, s.bed b = some x ∧ x.cycle.state = .stripping
    | .stack n => (∃ x, s.stack n = some x ∧ x.contents.getLast? = some m.piece) ∧
        (m.kind = .load → ∃ y, s.piece m.piece = some y ∧ y.shipReady = true ∧ y.hold = none)) ∧
  (∃ y, s.stack m.dest = some y ∧ y.defn.isOpen = true ∧
    y.contents.length + y.incoming < y.defn.tierLimit ∧ e.low ≤ y.defn.bay ∧ y.defn.bay ≤ e.high) ∧
  (∃ a b, s.sourceBays m.source a b ∧ e.low ≤ a ∧ a ≤ e.high ∧ e.low ≤ b ∧ b ≤ e.high) ∧
  ∃ x, s.piece m.piece = some x ∧ x.mass ≤ e.capacity

/-- The crane's rating fits beside the guards in full (R90, R161). -/
def Sys2Proof.Machine.State.affords (s : State) (e : Enrolment) : Prop :=
  (e.rating : Int) ≤ (s.limitNow : Int) - s.limits.baseLoad - s.reservations - (∑ b, s.guardAt b : Nat)

/-- The move's span, widened by the clearance, shares no bay with the captured span of any move another crane
holds, widened by its own (R162). -/
def Sys2Proof.Machine.State.clearOf (s : State) (k : CraneId) (bay : Nat) (m : Move) : Prop :=
  ∀ lo hi j n g, s.runsOver bay m lo hi → s.move j = some n → n.grant? = some g → g.crane ≠ k →
    ¬ ∃ x : Int, (lo : Int) - s.settings.clearance ≤ x ∧ x ≤ (hi : Int) + s.settings.clearance ∧
      (g.spanLow : Int) - g.clearance ≤ x ∧ x ≤ (g.spanHigh : Int) + g.clearance

/-- The move is QUEUED and eligible for the crane at the bay (R160 to R162). -/
def Sys2Proof.Machine.State.offers (s : State) (k : CraneId) (e : Enrolment) (bay : Nat) (i : SlotId)
    (m : Move) : Prop :=
  s.move i = some m ∧ m.progress = .queued ∧ s.suits e m ∧ s.affords e ∧ s.clearOf k bay m

/-- A move of this kind is served in this mode (R163). -/
def Sys2Proof.Machine.servedIn (mode : ServiceMode) (k : MoveKind) : Prop :=
  k = .restack ∨ (mode = .strip ∧ k = .strip) ∨ (mode = .dispatch ∧ (k = .load ∨ k = .ret))

/-- The number of QUEUED moves of the kinds that count for a class (R166). -/
def Sys2Proof.Machine.State.line (s : State) (mode : ServiceMode) : Nat :=
  (Finset.univ.filter fun i : SlotId => (s.move i).any fun m =>
    m.progress = .queued ∧ (if mode = .strip then m.kind = .strip else m.kind = .load ∨ m.kind = .ret)).card

/-- The arbiter as the mode switch of a NEXT_MOVE leaves it (R167). -/
def Sys2Proof.Machine.State.turned (s : State) : Arbiter :=
  let a := s.arbiter
  if a.lock then a
  else match a.mode with
    | .strip =>
        if (s.line .strip ≤ s.settings.stripLow ∨ s.settings.starveLimit ≤ a.dispatchStarve) ∧
            0 < s.line .dispatch then { a with mode := .dispatch, dispatchStarve := 0 }
        else a
    | .dispatch =>
        if (s.line .dispatch ≤ s.settings.dispatchLow ∨ s.settings.starveLimit ≤ a.stripStarve) ∧
            0 < s.line .strip then { a with mode := .strip, stripStarve := 0 }
        else a

/-- The arbiter after a grant of a move of this kind (R168). -/
def Sys2Proof.Machine.State.starved (s : State) (k : MoveKind) (a : Arbiter) : Arbiter :=
  match k with
  | .restack => a
  | .strip =>
      { a with
        stripStarve := 0
        dispatchStarve := if 0 < s.line .dispatch then min (a.dispatchStarve + 1) 255 else a.dispatchStarve }
  | _ =>
      { a with
        dispatchStarve := 0
        stripStarve := if 0 < s.line .strip then min (a.stripStarve + 1) 255 else a.stripStarve }

/-- The move is the one selection takes in this mode: eligible, and older than every other eligible move of its
class; and of the other class only when the mode's class has none (R140, R163). -/
def Sys2Proof.Machine.State.picks (s : State) (k : CraneId) (e : Enrolment) (bay : Nat)
    (mode : ServiceMode) (i : SlotId) (m : Move) : Prop :=
  s.offers k e bay i m ∧ ∀ j n, s.offers k e bay j n → j ≠ i →
    (servedIn mode m.kind → servedIn mode n.kind → s.moves.seq - n.seq < s.moves.seq - m.seq) ∧
    (¬ servedIn mode m.kind → ¬ servedIn mode n.kind ∧ s.moves.seq - n.seq < s.moves.seq - m.seq)

/-- A NEXT_MOVE from an IDLE crane on its rail evaluates the mode switch once and then grants the oldest eligible
move of the mode's class, or else the oldest of the other: the move captures the crane, the minute, the
rating, the span and the clearance; its destination counts it; the crane is HOLDING it at its tier with its
reservation set; the starve counts follow; and an allocation is taken. The answer carries the move (R159 to
R164, R167, R168). -/
def Obligations.NextMoveGrantsTheOldestEligibleMove : Prop :=
  ∀ (p : PortId) (tag : Byte) (k : CraneId) (e : Enrolment) (bay : Nat) (s : State), s.drives p k e →
    s.reservationsSafe → e.low ≤ bay → bay ≤ e.high → (s.crane k).held = none →
    ∀ i m y z lo hi, s.picks k e bay s.turned.mode i m → s.stack m.dest = some y →
      s.piece m.piece = some z → s.runsOver bay m lo hi →
      let tier := y.contents.length + y.incoming + 1
      let g : Grant := ⟨k, s.now, e.rating, lo, hi, s.settings.clearance⟩
      ∃ t src, exec (.nextMove p tag k bay) s = .next t ∧
        t.moves = { s.moves with slots := s.moves.slots.set i (some { m with progress := .granted g }) } ∧
        t.stackSlots = s.stackSlots.set m.dest (some { y with incoming := y.incoming + 1 }) ∧
        t.cranes = s.cranes.set k
          { s.crane k with
            held := some ⟨i, tier, src⟩
            lastBay := some bay
            reservation := some ⟨e.rating, i⟩ } ∧
        (match m.source with
          | .bed b => ∃ x, s.bed b = some x ∧ src = .bed b x.defn.firstBay x.defn.lastBay
          | .stack n => ∃ x, s.stack n = some x ∧
              src = .stack n x.defn.bay (x.contents.findIdx (· = m.piece) + 1)) ∧
        t.arbiter = s.starved m.kind s.turned ∧ t.pieces = s.pieces ∧
        t.budget.lastAllocation = some s.now ∧
        shares s.guardAt s.demandAt (s.limitNow - s.limits.baseLoad - s.reservations - e.rating)
          (fun b => t.budget.granted[b]) ∧
        (t.port p).tx = .formed ⟨tag, 0x48, .ok, .grant
          ⟨i, m.seq, m.kind, m.piece, z.mass, src, m.dest, y.defn.bay, tier,
            BitVec.ofInt 32 s.now + s.clock.offset, false⟩⟩

/-- A NEXT_MOVE from a HOLDING crane is answered REPEAT with the move it holds, its source as the grant's
answer gave it (read from R159: notes/assumptions/10.md), and notes only the bay; from an
IDLE crane without an eligible move it is answered NONE with the reason R165 gives, the mode switch and the bay
standing and nothing granted; and off its rail it is BAD_VALUE (R159, R165, R167). -/
def Obligations.NextMoveRepeatsOrAnswersNone : Prop :=
  ∀ (p : PortId) (tag : Byte) (k : CraneId) (e : Enrolment) (bay : Nat) (s : State), s.drives p k e →
    let run := exec (.nextMove p tag k bay) s
    let u := s.modCrane k fun c => { c with lastBay := some bay }
    (¬ (e.low ≤ bay ∧ bay ≤ e.high) → run = .next (s.refused p tag .nextMove .badValue .empty)) ∧
    (e.low ≤ bay → bay ≤ e.high →
      (∀ h m g y z, (s.crane k).held = some h → s.move h.slot = some m → m.grant? = some g →
        s.stack m.dest = some y → s.piece m.piece = some z →
        run = .next (u.answered p tag .nextMove .repeated (.grant
          ⟨h.slot, m.seq, m.kind, m.piece, z.mass, h.source, m.dest, y.defn.bay, h.tier,
            BitVec.ofInt 32 g.minute + s.clock.offset, decide (m.progress ≠ .granted g)⟩))) ∧
      ((s.crane k).held = none → (∀ i m, ¬ s.offers k e bay i m) →
        let queued := (Finset.univ.filter fun i : SlotId =>
          (s.move i).any fun m => m.progress = .queued).card
        ∃ reason,
          run = .next (Event.close ⟨State.answered { u with arbiter := s.turned } p tag .nextMove .noWork
              (.noMove reason s.turned.mode queued),
            (if s.turned.mode = s.arbiter.mode then [] else [.modeSwitch]) ++
              if reason = .powerWait then [.powerWait k] else []⟩) ∧
          let waits (why : Move → Prop) :=
            ∃ i m, s.move i = some m ∧ m.progress = .queued ∧ s.suits e m ∧ why m
          (reason = .queueEmpty ↔ queued = 0) ∧
          (reason = .powerWait ↔ ¬ s.affords e ∧ waits (s.clearOf k bay)) ∧
          (reason = .spanWait ↔ s.affords e ∧ waits fun m => ¬ s.clearOf k bay m)))

/-- SET_MODE from an OFFICE port, in either state, sets the mode and the lock; a change clears the starve count
of the new mode's class and is counted as a mode switch. Anything else stays (R169). -/
def Obligations.SetModeSetsModeAndLock : Prop :=
  ∀ (p : PortId) (tag : Byte) (s : State), s.asks p .office →
    (∀ (mode : ServiceMode) (lock : Bool),
      exec (.setMode p tag (if mode = .strip then 0 else 1) (if lock then 1 else 0)) s =
        .next (Event.close ⟨State.answered
          { s with arbiter :=
            { mode := mode
              lock := lock
              stripStarve := if s.arbiter.mode = .dispatch ∧ mode = .strip then 0 else s.arbiter.stripStarve
              dispatchStarve :=
                if s.arbiter.mode = .strip ∧ mode = .dispatch then 0 else s.arbiter.dispatchStarve } }
          p tag .setMode .ok (.service mode lock),
          if mode = s.arbiter.mode then [] else [.modeSwitch]⟩)) ∧
    ∀ m l, 2 ≤ m ∨ 2 ≤ l → exec (.setMode p tag m l) s =
      .next (s.refused p tag .setMode .badValue .empty)

/-- The state of a move (R138). -/
def Sys2Proof.Machine.Progress.stage : Progress → MoveState
  | .queued => .queued
  | .granted _ => .granted
  | .lifted _ _ _ => .lifted

/-- The crane that a move is granted to, from its grant onward. -/
def Sys2Proof.Machine.Progress.crane? : Progress → Option CraneId
  | .queued => none
  | .granted g => some g.crane
  | .lifted g _ _ => some g.crane

/-- A move as READ_MOVE reports it: every field present, the grant and lift minutes as stamps with the minutes
elapsed since each, and the age (R138, R140, R154). -/
def Sys2Proof.Machine.State.reportOf (s : State) (m : Move) : MoveReport :=
  let stamp (n : Int) := BitVec.ofInt 32 n + s.clock.offset
  let report (g : Option Grant) (minute : Option Int) (flag : Option Bool) : MoveReport :=
    { kind := m.kind, piece := m.piece, source := m.source, dest := m.dest, requester := m.requester,
      seq := m.seq, state := m.progress.stage,
      grant := g.map fun g => ⟨g.crane, g.rating, g.spanLow, g.spanHigh, g.clearance⟩, overdue := flag,
      grantStamp := g.map fun g => stamp g.minute, sinceGrant := g.map fun g => s.now - g.minute,
      liftStamp := minute.map stamp, sinceLift := minute.map fun n => s.now - n,
      age := s.moves.seq - m.seq }
  match m.progress with
  | .queued => report none none none
  | .granted g => report (some g) none none
  | .lifted g minute flag => report (some g) (some minute) (some flag)

/-- READ_PIECE, READ_STACK, READ_MOVE and READ_CRANE, from a port of any role, change nothing but the answer.
READ_PIECE gives the record with its place and its pending move, and the bed's maturity for a piece on a bed
and its own elsewhere; READ_STACK the stack with every figure of its entries, its incoming count and its free
room; READ_MOVE every field of the slot's move, its minutes as stamps, with its age and the table's figures;
READ_CRANE the crane with the state, span and clearance of the move it holds, and the arbiter with the QUEUED
counts. READ_SCAN gives the Scan Unit, its minutes remaining only known to lie between 1 and those known
before, which it takes the place of (notes/assumptions/4.md: a free value; the minutes known and the count of
reads are the model's own fields) (R38, R49, R56, R134, R135, R154, R170). -/
def Obligations.ReadsOfPiecesStacksMovesCranesAndScans : Prop :=
  ∀ (p : PortId) (tag : Byte) (s : State), s.hears p →
    let stamp (m : Int) := BitVec.ofInt 32 m + s.clock.offset
    (1 ≤ s.scan.remaining → ∃ remaining, 1 ≤ remaining ∧ remaining ≤ s.scan.remaining ∧
      exec (.readScan p tag) s = .next (State.answered
        { s with
          scan := { s.scan with remaining := remaining }
          freeReads := s.freeReads + 1 } p tag .readScan .ok (.scan
          { inFlight := s.scan.inFlight.map fun c => (c, (Finset.univ.filter fun d : Channel =>
              s.scan.probes[d].enabled = true ∧ s.scan.probes[d].assignment ≠ .unassigned).card)
            number := s.scan.number
            lastDone := s.scan.lastDone.map stamp
            interval := s.settings.scanInterval
            remaining := remaining
            overruns := s.scan.overruns
            yard := s.scan.yard }))) ∧
    (∀ id x, 1 ≤ id → id ≤ 65535 → s.piece id = some x → ∃ r,
      exec (.readPiece p tag id) s = .next (s.answered p tag .readPiece .ok (.piece r)) ∧
      (r.id, r.cls, r.mass, r.state, r.hold, r.shipReady, r.shipTarget, r.shipAge) =
        (id, x.cls, x.mass, x.state, x.hold, x.shipReady, x.shipTarget, x.shipAge) ∧
      r.castStamp = stamp x.castMinute ∧ r.age = s.now - x.castMinute ∧
      (∀ b y, x.location = .bed b → s.bed b = some y → id ∈ y.cycle.pieces →
        r.place = .bed b (y.cycle.pieces.findIdx (· = id) + 1)) ∧
      (∀ i y, x.location = .stack i → s.stack i = some y → id ∈ y.contents →
        r.place = .stack i (y.contents.findIdx (· = id) + 1)) ∧
      (∀ k, x.location = .crane k → r.place = .crane k) ∧
      (∀ b y, x.state = .onBed ∨ x.state = .strippable → x.location = .bed b → s.bed b = some y →
        r.count = y.maturity.count ∧ r.gap = y.maturity.gap ∧ r.lastStamp = y.maturity.last.map stamp) ∧
      (x.state ≠ .onBed → x.state ≠ .strippable →
        r.count = x.count ∧ r.gap = x.gap ∧ r.lastStamp = x.last.map stamp) ∧
      (x.move = none → r.move = none) ∧
      (∀ i m, x.move = some i → s.move i = some m →
        r.move = some ⟨i, m.progress.stage, m.kind, m.dest, m.progress.crane?⟩)) ∧
    (∀ n, n = 0 ∨ 65535 < n →
      exec (.readPiece p tag n) s = .next (s.refused p tag .readPiece .badValue .empty)) ∧
    (∀ n, 1 ≤ n → n ≤ 65535 → s.piece n = none →
      exec (.readPiece p tag n) s = .next (s.refused p tag .readPiece .noSuch .empty)) ∧
    (∀ n, 96 ≤ n → exec (.readStack p tag n) s = .next (s.refused p tag .readStack .badValue .empty)) ∧
    (∀ i : StackId, s.stack i = none →
      exec (.readStack p tag i) s = .next (s.refused p tag .readStack .noSuch .empty)) ∧
    (∀ n, 64 ≤ n → exec (.readMove p tag n) s = .next (s.refused p tag .readMove .badValue .empty)) ∧
    (∀ n, 4 ≤ n → exec (.readCrane p tag n) s = .next (s.refused p tag .readCrane .badValue .empty)) ∧
    (∀ (i : StackId) x, s.stack i = some x → ∃ l,
      exec (.readStack p tag i) s = .next (s.answered p tag .readStack .ok
        (.stack x.defn l x.incoming (x.defn.tierLimit - (x.contents.length + x.incoming)))) ∧
      ((∀ id ∈ x.contents, (s.piece id).isSome) → l.length = x.contents.length ∧
        ∀ (n : Nat) id y, x.contents[n]? = some id → s.piece id = some y →
          l[n]? = some ⟨id, y.state, y.shipReady, y.hold, y.move⟩)) ∧
    (∀ i : SlotId, exec (.readMove p tag i) s = .next (s.answered p tag .readMove .ok (.table
      { slot := (s.move i).map s.reportOf
        occupied := (Finset.univ.filter fun j : SlotId => (s.move j).isSome).card
        seq := s.moves.seq
        charged := s.moves.charged
        creditLimit := s.settings.creditLimit }))) ∧
    ∀ k : CraneId, ∃ held,
      exec (.readCrane p tag k) s = .next (s.answered p tag .readCrane .ok (.crane
        { enrolment := (s.crane k).enrolment
          slot := (s.crane k).held.map Held.slot
          tier := (s.crane k).held.map Held.tier
          lastBay := (s.crane k).lastBay
          lastMove := (s.crane k).lastMove
          heldMove := held
          reservation := (s.crane k).reservation
          arbiter := s.arbiter
          queuedStrip := s.line .strip
          queuedDispatch := s.line .dispatch
          queuedRestack := (Finset.univ.filter fun i : SlotId =>
            (s.move i).any fun m => m.progress = .queued ∧ m.kind = .restack).card })) ∧
      ((s.crane k).held = none → held = none) ∧
      ∀ h m g, (s.crane k).held = some h → s.move h.slot = some m → m.grant? = some g →
        held = some ⟨m.progress.stage, g.spanLow, g.spanHigh, g.clearance⟩

/-! ### The Station Ports (chapter 10) -/

/-- The alert kinds in the order of their bits (section 10.6). -/
def Sys2Proof.Machine.alertKinds : Vector AlertKind 16 :=
  #v[.scanDone, .scanOverrun, .probeFault, .bedBlind, .yardBlind, .bedReleasable, .frost, .overheat,
    .curtailed, .shedChange, .moveRevoked, .moveDropped, .liftOverdue, .shipReady, .counterOverflow,
    .clockUnset]

/-- Which ports are to see an alert: an OFF port none; of a bed's, every OFFICE and CRANE port and the BEDSIDE
port bound to the bed; of a move's, every OFFICE port, its requester and the port bound to its crane; and of
every other kind every port (R178). -/
def Sys2Proof.Machine.Toward.reaches (w : Toward) (p : PortId) (r : Role) : Prop :=
  r ≠ .off ∧ match w with
    | .everyPort => True
    | .bed bound => r ≠ .bedside ∨ bound = some p
    | .move requester cranePort => r = .office ∨ p = requester ∨ cranePort = some p

/-- READ_ALERTS, from a port of any role, answers the pending set and the mask and empties the set;
SET_ALERT_MASK replaces the mask and leaves every pending kind; and the alert line is active exactly while the
set holds a kind the mask enables (R179). An alert raised joins the pending set of each port that is to see it
and whose mask enables the kind; the set of every other port stays, whether the port is OFF, is not to see it or
has the kind disabled, and nothing else changes (R178). -/
def Obligations.AlertsAreReadMaskedAndShownOnTheLine : Prop :=
  ∀ (p : PortId) (tag : Byte) (mask : BitVec 16) (s : State),
    (∀ q, s.alertLine q = true ↔ ∃ n < 16,
      (s.port q).alerts.getLsbD n = true ∧ (s.port q).mask.getLsbD n = true) ∧
    (s.hears p →
      (∃ t, exec (.readAlerts p tag) s = .next t ∧
        t = (s.modPort p fun x => { x with alerts := 0 }).answered p tag .readAlerts .ok
          (.alerts (s.port p).alerts (s.port p).mask) ∧
        t.alertLine p = false) ∧
      exec (.setAlertMask p tag mask.toNat) s = .next
        ((s.modPort p fun x => { x with mask := mask }).answered p tag .setAlertMask .ok .empty)) ∧
    ∀ (n : Fin 16) (w : Toward), let t := s.raise alertKinds[n] w
      t = { s with ports := t.ports } ∧
      (∀ q, w.reaches q (s.port q).role → (s.port q).mask.getLsbD n = true → ∃ a,
        t.port q = { s.port q with alerts := a } ∧ ∀ m, m < 16 →
          (a.getLsbD m = true ↔ m = n.val ∨ (s.port q).alerts.getLsbD m = true)) ∧
      ∀ q, ¬ w.reaches q (s.port q).role ∨ (s.port q).mask.getLsbD n = false → t.port q = s.port q

/-- The state with a port's snapshot set written. -/
def Sys2Proof.Machine.State.withSnapshots (s : State) (p : PortId)
    (l : Vector (Option BedReport) 16) : State :=
  s.modPort p fun x => { x with snapshots := l }

/-- The reply to READ_BED from a report, its stamps formed with the present offset (R181). -/
def Sys2Proof.Machine.State.replyOf (s : State) (snapshot : Bool) (r : BedReport) : Answer :=
  let stamp (m : Int) := BitVec.ofInt 32 m + s.clock.offset
  .bed
    { toBedFigures := r.toBedFigures
      snapshot := snapshot
      lastStamp := r.last.map stamp
      pourEndStamp := r.pourEnd.map stamp
      releaseStamp := r.release.map stamp }

/-- FREEZE_BEDS, from a port of any role, puts a snapshot of every bed its mask names into that port's set alone
and carries the scan number, or freezes nothing when one is not defined; UNFREEZE empties the set; READ_BED
answers a snapshot once, removing it, and then the bed's live figures. A report holds the bed's figures as
they stand, its pieces in cast order each with its state (R35, R56, R76, R115, R180, R181; that the number
carried is the Scan Unit's, for an empty mask too, is read from R180: notes/assumptions/23.md). -/
def Obligations.SnapshotsAreFrozenReadOnceAndEmptied : Prop :=
  ∀ (p : PortId) (tag : Byte) (s : State), s.hears p →
    (∀ mask : Nat,
      ((∃ b : BedId, mask.testBit b = true ∧ s.bed b = none) →
        exec (.freezeBeds p tag mask) s = .next (s.refused p tag .freezeBeds .noSuch .empty)) ∧
      ((∀ b : BedId, mask.testBit b = true → s.bed b ≠ none) → ∃ l : Vector (Option BedReport) 16,
        exec (.freezeBeds p tag mask) s = .next
          ((s.withSnapshots p l).answered p tag .freezeBeds .ok (.scanNumber s.scan.number)) ∧
        ∀ b : BedId, l[b] =
          if mask.testBit b then (s.bed b).map (s.bedReport b) else (s.port p).snapshots[b])) ∧
    (∃ l : Vector (Option BedReport) 16, (∀ b : BedId, l[b] = none) ∧
      exec (.unfreeze p tag) s = .next ((s.withSnapshots p l).answered p tag .unfreeze .ok .empty)) ∧
    (∀ b : BedId,
      (∀ r, (s.port p).snapshots[b] = some r → exec (.readBed p tag b) s = .next
        ((s.withSnapshots p ((s.port p).snapshots.set b none)).answered p tag .readBed .ok
          (s.replyOf true r))) ∧
      ((s.port p).snapshots[b] = none → s.bed b = none →
        exec (.readBed p tag b) s = .next (s.refused p tag .readBed .noSuch .empty)) ∧
      ∀ x, (s.port p).snapshots[b] = none → s.bed b = some x → exec (.readBed p tag b) s = .next
        (s.answered p tag .readBed .ok (s.replyOf false (s.bedReport b x)))) ∧
    (∀ n, 16 ≤ n → exec (.readBed p tag n) s = .next (s.refused p tag .readBed .badValue .empty)) ∧
    ∀ b x, let r := s.bedReport b x
      (r.bed, r.cycle, r.release, r.count, r.last, r.gap, r.gapCount) =
        (b, x.cycle.state, x.cycle.release, x.maturity.count, x.maturity.last, x.maturity.gap,
          x.maturity.gapCount) ∧
      (r.target, r.minAge, r.pourEnd) = (x.cycle.figures.map PourFigures.target,
        x.cycle.figures.map PourFigures.minAge, x.cycle.figures.map PourFigures.pourEnd) ∧
      (r.status, r.held, r.tmin, r.tmax, r.scanNumber) =
        (x.agg.status, x.agg.held, x.agg.tmin, x.agg.tmax, x.agg.scanNumber) ∧
      (r.phase, r.setpoint, r.base, r.requested, r.frost, r.overheat, r.curtailed) =
        (x.heat.phase, x.heat.setpoint, x.heat.base, x.heat.requested, x.heat.frost, x.heat.overheat,
          x.heat.curtailed) ∧
      (r.granted, r.level) = (s.budget.granted[b], s.budget.levels[b]) ∧
      r.age = (x.cycle.figures.map fun f => s.now - f.pourEnd) ∧
      ((∀ id ∈ x.cycle.pieces, (s.piece id).isSome) → r.pieces.length = x.cycle.pieces.length ∧
        ∀ (n : Nat) id y, x.cycle.pieces[n]? = some id → s.piece id = some y →
          r.pieces[n]? = some (id, y.state))

/-- A port with a frame discarded unanswered: the reject tally gains 1 up to 65535, the receiver is in HUNT and
a frame reject is counted (R174; that it is counted with the tally at 65535 too is the model's choice,
notes/assumptions/29.md). -/
def Sys2Proof.Machine.State.discards (s : State) (p : PortId) : State :=
  Event.close ⟨s.modPort p fun x =>
    { x with rx := .hunt, rejects := if x.rejects < 65535 then x.rejects + 1 else 65535 },
    [.frameReject p]⟩

/-- A receiver takes its bytes as R174 says: HUNT skips to a start byte, LENGTH keeps 2 to 242, COLLECT keeps
bytes until the last check byte, which completes the frame; a bad length, or a silence within a frame, is
rejected. A break's end returns it to HUNT and drops a response not begun; the line's turning begins a formed
response, and its last byte frees the port. An OFF port takes no byte. READ_PORT answers the port's record,
the asking port being reported as sending (notes/assumptions/14.md) (R173 to R176, R182; that an event which
cannot occur changes nothing is notes/assumptions/3.md). -/
def Obligations.ReceiversAndResponsesFollowTheirStates : Prop :=
  ∀ (p q : PortId) (tag b : Byte) (s : State),
    let rx (r : Receiver) := s.modPort p fun x => { x with rx := r }
    let tx (u : Transmit) := s.modPort p fun x => { x with tx := u }
    let byte := exec (.byteReceived p b) s
    let silence := exec (.characterSilenceTimeout p) s
    ((s.port p).role = .off → byte = .next s ∧ silence = .next s ∧ exec (.breakEnd p) s = .next s ∧
      ∀ kind body check, exec (.frameCompletion p tag kind body check) s = .next s) ∧
    ((s.port p).role ≠ .off →
      ((s.port p).rx = .hunt → byte = .next (if b = 0xC3 then rx .length else s) ∧ silence = .next s) ∧
      ((s.port p).rx = .length → silence = .next (s.discards p) ∧
        byte = .next (if 2 ≤ b.toNat ∧ b.toNat ≤ 242 then rx (.collect b.toNat []) else s.discards p)) ∧
      (∀ n l, (s.port p).rx = .collect n l → silence = .next (s.discards p) ∧
        (l.length < n + 1 → byte = .next (rx (.collect n (l ++ [b])))) ∧
        ∀ kind body hi, l = tag :: kind :: (body ++ [hi]) → n = body.length + 2 →
          byte = exec (.frameCompletion p tag kind body (hi ++ b)) s) ∧
      exec (.breakEnd p) s = .next (s.modPort p fun x =>
        { x with
          rx := .hunt
          tx := match x.tx with
            | .begun r => .begun r
            | _ => .idle })) ∧
    (∀ r, (s.port p).tx = .formed r →
      exec (.lineTurnaround p) s = .next (tx (.begun r)) ∧ exec (.responseSent p) s = .next s) ∧
    (∀ r, (s.port p).tx = .begun r →
      exec (.responseSent p) s = .next (tx .idle) ∧ exec (.lineTurnaround p) s = .next s) ∧
    ((s.port p).tx = .idle → exec (.responseSent p) s = .next s ∧ exec (.lineTurnaround p) s = .next s) ∧
    (s.hears p → ∃ w, exec (.readPort p tag q) s = .next (s.answered p tag .readPort .ok (.port w)) ∧
      (w.role, w.rejects, w.overruns, w.mask, w.alerts) =
        ((s.port q).role, (s.port q).rejects, (s.port q).overruns, (s.port q).mask, (s.port q).alerts) ∧
      (w.rx = .hunt ↔ (s.port q).rx = .hunt) ∧ (w.rx = .length ↔ (s.port q).rx = .length) ∧
      (w.sending = true ↔ p = q ∨ (s.port q).tx ≠ .idle) ∧ w.lineActive = s.alertLine q ∧
      ∀ n : BedId, n ∈ w.snapshots ↔ (s.port q).snapshots[n] ≠ none) ∧
    (s.hears p → ∀ n, 4 ≤ n →
      exec (.readPort p tag n) s = .next (s.refused p tag .readPort .badValue .empty))

/-- A completed frame at a port that is not OFF: with a bad check it is discarded; with a good one it is lost to
the overrun tally while the port sends, and otherwise it is taken: a kind not in the catalogue is UNKNOWN_KIND
and a body of another length BAD_LENGTH, each echoing the tag and the kind, and a body that spells a request
does at this event exactly what that request does (R174, R175, R177). -/
def Obligations.CompletedFramesAreTakenAsTheirRequests : Prop :=
  ∀ (p : PortId) (tag kind : Byte) (body : List Byte) (check : BitVec 16) (s : State),
    (s.port p).role ≠ .off →
    let run := exec (.frameCompletion p tag kind body check) s
    let u := s.modPort p fun x => { x with rx := .hunt }
    let good := checkSequence (BitVec.ofNat 8 (body.length + 2) :: tag :: kind :: body)
    let echo (r : Result) := run = .next (Event.close
      ⟨u.modPort p fun x => { x with tx := .formed ⟨tag, kind, r, .empty⟩ }, [.requestRefused p]⟩)
    (check ≠ good → run = .next (s.discards p)) ∧
    (check = good → (s.port p).tx ≠ .idle → run = .next (u.modPort p fun x =>
      { x with overruns := if x.overruns < 65535 then x.overruns + 1 else 65535 })) ∧
    (check = good → (s.port p).tx = .idle →
      ((∀ k : RequestKind, k.code ≠ kind) → echo .unknownKind) ∧
      ∀ k : RequestKind, k.code = kind → (decodeBody p tag k body = none → echo .badLength) ∧
        ∀ i, decodeBody p tag k body = some i → run = exec i u)

/-- The number in the `n` bytes from an offset on, most significant byte first (section 10.6). -/
def Sys2Proof.fieldAt (l : List Byte) (off n : Nat) : Nat :=
  ((l.drop off).take n).foldl (fun a b => 256 * a + b.toNat) 0

/-- The field holds a number, an absent one as 0. -/
def Sys2Proof.holdsNumber (l : List Byte) (off n : Nat) (x : Option Nat) : Prop :=
  fieldAt l off n = x.getD 0 % 256 ^ n

/-- The field holds a signed number in two's complement, an absent one as 0. -/
def Sys2Proof.holdsSigned (l : List Byte) (off n : Nat) (x : Option Int) : Prop :=
  fieldAt l off n = (x.getD 0 % 256 ^ n).toNat

/-- Bit `n` of the byte at an offset. -/
def Sys2Proof.holdsBit (l : List Byte) (off n : Nat) (x : Bool) : Prop :=
  (fieldAt l off 1).testBit n = x

/-- The pieces' states in the order of their codes (section 10.6). -/
def Sys2Proof.Machine.pieceStates : List PieceState :=
  [.onBed, .strippable, .inTransit, .stocked, .dispatchStaged, .scrap]

/-- The bytes are the READ_BED reply body of 55 + 3n bytes that section 10.6 tables. -/
def Sys2Proof.Machine.BedReply.laidOut (r : BedReply) (l : List Byte) : Prop :=
  l.length = 55 + 3 * r.pieces.length ∧
  holdsNumber l 0 1 (r.bed : Nat) ∧ holdsNumber l 1 1 (some (if r.snapshot then 1 else 0)) ∧
  holdsNumber l 2 1 (([.empty, .set, .casting, .curing, .releasable, .detensioning, .stripping] :
    List CycleState).idxOf r.cycle) ∧
  holdsNumber l 3 1 (([.off, .preset, .ramp, .hold, .cool] : List Phase).idxOf r.phase) ∧
  holdsNumber l 4 1 (([.live, .held, .blind] : List AggStatus).idxOf r.status) ∧
  holdsNumber l 5 1 r.held ∧
  holdsBit l 6 0 r.tmin.isSome ∧ holdsBit l 6 1 r.setpoint.isSome ∧ holdsBit l 6 2 r.lastStamp.isSome ∧
  holdsBit l 6 3 r.target.isSome ∧ holdsBit l 6 4 r.releaseStamp.isSome ∧ fieldAt l 6 1 < 32 ∧
  holdsBit l 7 0 r.frost ∧ holdsBit l 7 1 r.overheat ∧ holdsBit l 7 2 r.curtailed ∧ holdsBit l 7 3 r.gap ∧
  fieldAt l 7 1 < 16 ∧
  holdsSigned l 8 2 r.tmin ∧ holdsSigned l 10 2 r.tmax ∧ holdsSigned l 12 2 r.setpoint ∧
  holdsNumber l 14 2 r.base ∧ holdsNumber l 16 2 r.requested ∧ holdsNumber l 18 2 r.granted ∧
  holdsNumber l 20 1 r.level ∧ holdsNumber l 21 1 r.gapCount ∧ holdsNumber l 22 4 r.count ∧
  holdsNumber l 26 4 (some (r.count / 600)) ∧ holdsNumber l 30 4 (r.lastStamp.map BitVec.toNat) ∧
  holdsNumber l 34 2 r.target ∧ holdsNumber l 36 2 r.minAge ∧
  holdsNumber l 38 4 (r.pourEndStamp.map BitVec.toNat) ∧
  holdsNumber l 42 4 (r.releaseStamp.map BitVec.toNat) ∧ holdsSigned l 46 4 r.age ∧
  holdsNumber l 50 4 r.scanNumber.toNat ∧ holdsNumber l 54 1 r.pieces.length ∧
  ∀ (n : Nat) id st, r.pieces[n]? = some (id, st) →
    holdsNumber l (55 + 3 * n) 2 id ∧ holdsNumber l (57 + 3 * n) 1 (pieceStates.idxOf st)

/-- The bytes are the READ_PIECE reply body of 40 bytes that section 10.6 tables. -/
def Sys2Proof.Machine.PieceReply.laidOut (r : PieceReply) (l : List Byte) : Prop :=
  l.length = 40 ∧
  holdsNumber l 0 2 r.id ∧ holdsNumber l 2 1 r.cls ∧ holdsNumber l 3 1 (pieceStates.idxOf r.state) ∧
  holdsNumber l 4 2 r.mass ∧
  (match r.place with
    | .bed b n => holdsNumber l 6 1 (some 0) ∧ holdsNumber l 7 1 (b : Nat) ∧ holdsNumber l 8 1 n
    | .stack i n => holdsNumber l 6 1 (some 1) ∧ holdsNumber l 7 1 (i : Nat) ∧ holdsNumber l 8 1 n
    | .crane k => holdsNumber l 6 1 (some 2) ∧ holdsNumber l 7 1 (k : Nat) ∧ holdsNumber l 8 1 (some 0)) ∧
  holdsBit l 9 0 r.hold.isSome ∧ holdsBit l 9 1 r.shipReady ∧ holdsBit l 9 2 r.gap ∧
  holdsBit l 9 3 r.move.isSome ∧ holdsBit l 9 4 r.lastStamp.isSome ∧ fieldAt l 9 1 < 32 ∧
  holdsNumber l 10 1 r.hold ∧ holdsNumber l 11 4 r.castStamp.toNat ∧ holdsSigned l 15 4 r.age ∧
  holdsNumber l 19 2 r.shipTarget ∧ holdsNumber l 21 2 r.shipAge ∧ holdsNumber l 23 4 r.count ∧
  holdsNumber l 27 4 (some (r.count / 600)) ∧ holdsNumber l 31 4 (r.lastStamp.map BitVec.toNat) ∧
  holdsNumber l 35 1 (r.move.map fun m => m.slot.val) ∧
  holdsNumber l 36 1 (r.move.map fun m => ([.queued, .granted, .lifted] : List MoveState).idxOf m.state) ∧
  holdsNumber l 37 1 (r.move.map fun m =>
    ([.strip, .restack, .load, .ret] : List MoveKind).idxOf m.kind) ∧
  holdsNumber l 38 1 (r.move.map fun m => m.dest.val) ∧
  holdsNumber l 39 1 (r.move.map fun m => match m.crane with
    | none => 255
    | some k => k.val)

/-- The result codes of section 10.6. -/
def Sys2Proof.Machine.resultCodes : List (Result × Byte) :=
  [(.ok, 0x00), (.merged, 0x01), (.repeated, 0x02), (.diverted, 0x03), (.noWork, 0x04), (.unknownKind, 0x05),
    (.notPermitted, 0x10), (.notBound, 0x11), (.notReady, 0x12), (.badLength, 0x13), (.badValue, 0x14),
    (.wrongState, 0x15), (.busy, 0x16), (.busyScan, 0x17), (.noSuch, 0x18), (.duplicate, 0x19), (.full, 0x1A),
    (.noCredit, 0x1B), (.inMotion, 0x1C), (.tooLate, 0x1D), (.notTop, 0x1E), (.noRoom, 0x1F), (.held, 0x20),
    (.tooWarm, 0x21), (.noAmbient, 0x22), (.blind, 0x23)]

/-- The check register after one bit, by the generator x^16 + x^12 + x^5 + 1 (R175). -/
def Sys2Proof.checkBit (r : BitVec 16) (bit : Bool) : BitVec 16 :=
  if r.getLsbD 15 ^^ bit then (r <<< 1) ^^^ 0x1021#16 else r <<< 1

/-- Decoding and encoding agree: the body of every well-formed request decodes to that request, whatever its
operands, and every body of at most 240 bytes that decodes is the body of the well-formed request it spells.
Responses are laid out as section 10.6 tables them: the frame with its length byte, result code and check
sequence, formed bit by bit from a register of ones (R175); the empty body; and the reply bodies of READ_BED
and READ_PIECE (a figure beyond its field is cut to it, the model's choice, notes/assumptions/17.md). -/
def Obligations.RequestBodiesDecodeToWhatWasEncoded : Prop :=
  (∀ (i : Instr) (k : RequestKind), i.kind? = some k → i.wellFormed = true →
    ∃ p tag, decodeBody p tag k (encodeBody i) = some i) ∧
  (∀ (p : PortId) (tag : Byte) (k : RequestKind) (body : List Byte) (i : Instr), body.length ≤ 240 →
    decodeBody p tag k body = some i →
    encodeBody i = body ∧ i.kind? = some k ∧ i.wellFormed = true) ∧
  (∀ (tag kind : Byte) (r : Result) (body : List Byte), ∃ code hi lo,
    let checked := BitVec.ofNat 8 (body.length + 3) :: tag :: kind :: code :: body
    (r, code) ∈ resultCodes ∧ hi ++ lo = checkSequence checked ∧
    responseFrame tag kind r body = 0xC3 :: (checked ++ [hi, lo])) ∧
  checkSequence [] = 0xFFFF#16 ∧
  (∀ (l : List Byte) (b : Byte), checkSequence (l ++ [b]) =
    [b.getLsbD 7, b.getLsbD 6, b.getLsbD 5, b.getLsbD 4, b.getLsbD 3, b.getLsbD 2, b.getLsbD 1,
      b.getLsbD 0].foldl checkBit (checkSequence l)) ∧
  ∀ (tag kind : Byte) (result : Result),
    let sent (a : Answer) (body : List Byte) : Prop :=
      Response.bytes? ⟨tag, kind, result, a⟩ = some (responseFrame tag kind result body)
    sent .empty [] ∧ (∀ r : BedReply, ∃ l, sent (.bed r) l ∧ r.laidOut l) ∧
    ∀ r : PieceReply, ∃ l, sent (.piece r) l ∧ r.laidOut l

/-- The kinds the catalogue grants to every role (section 10.6). -/
def Sys2Proof.Machine.anyRoleKinds : List RequestKind :=
  [.readClock, .readMap, .readProbe, .readScan, .readProfile, .readBudget, .readBed, .readPiece, .readStack,
    .readMove, .readCrane, .readAlerts, .setAlertMask, .freezeBeds, .unfreeze, .readPort, .readCounters]

/-- The kinds the catalogue grants to OFFICE alone, but for ABANDON_BED (section 10.6). -/
def Sys2Proof.Machine.officeKinds : List RequestKind :=
  [.setClock, .defineBed, .defineStack, .setStackOpen, .loadCrane, .defineClass, .setLimits, .setConfig,
    .loadPiece, .loadBedState, .commit, .defineProbe, .clearProbeTally, .scanNow, .abortScan, .setProfile,
    .setHold, .clearHold, .deletePiece, .shipDispatch, .setMode, .setCounter, .unfreezeCounters,
    .clearOverflow, .resetCounters, .resetCounterSelect]

/-- A refused request changes nothing: whenever the answer a request forms is a refusal (UNKNOWN_KIND or a code
from 0x10), the next state is the state before with that answer formed and the refusal counted, for every
kind of the catalogue. In LOADING a CRANE port is refused with NOT_READY every kind not granted to all roles;
a kind granted to OFFICE alone is refused with NOT_PERMITTED from a BEDSIDE port, and from a CRANE port in
RUNNING (R12, R177). -/
def Obligations.RefusedRequestsChangeNothing : Prop :=
  (∀ (i : Instr) (k : RequestKind) (p : PortId) (s t : State) (r : Response),
    i.kind? = some k → (s.port p).tx = .idle → exec i s = .next t → (t.port p).tx = .formed r →
    r.result = .unknownKind ∨ 0x10 ≤ r.result.code.toNat →
    t = s.refused p r.tag k r.result r.answer) ∧
  ∀ (p : PortId) (tag : Byte) (k : RequestKind) (body : List Byte) (i : Instr) (s : State),
    decodeBody p tag k body = some i →
    let stop (r : Result) := exec i s = .next (s.refused p tag k r .empty)
    (s.ctl = .loading → s.asks p .crane → k ∉ anyRoleKinds → stop .notReady) ∧
    (k ∈ officeKinds → s.asks p .bedside ∨ (s.asks p .crane ∧ s.ctl = .running) → stop .notPermitted)

/-! ### The Activity Counters (chapter 11) -/

/-- What a thing an event brings adds to a counter of a selection and a filter: 1 for a counted event, or the
quantity, where the selection is its own and the filter is any or names a bed, a crane or a port that it
carries; and 0 otherwise. A faulted conversion of a YARD probe carries no bed (R185, R186). -/
def Sys2Proof.Machine.Happening.worth (h : Happening) (sel : Selection) (f : Filter) (n : Nat) : Prop :=
  let counts (own : Selection) (carried : List Filter) : Prop :=
    n = if sel = own ∧ (f = .any ∨ f ∈ carried) then 1 else 0
  match h with
  | .scanDone => counts .scanDone []
  | .scanOverrun => counts .scanOverrun []
  | .probeFault none => counts .probeFault []
  | .probeFault (some b) => counts .probeFault [.bed b]
  | .moveEntered p => counts .moveEntered [.port p]
  | .moveMerged p => counts .moveMerged [.port p]
  | .moveGranted k p => counts .moveGranted [.crane k, .port p]
  | .offMode k p => counts .offMode [.crane k, .port p]
  | .moveRevoked k p => counts .moveRevoked [.crane k, .port p]
  | .moveCompleted k p => counts .moveCompleted [.crane k, .port p]
  | .modeSwitch => counts .modeSwitch []
  | .curtailment b => counts .curtailment [.bed b]
  | .powerWait k => counts .powerWait [.crane k]
  | .frameReject p => counts .frameReject [.port p]
  | .requestRefused p => counts .requestRefused [.port p]
  | .queuedMoves m => n = if sel = .queuedMoves ∧ f = .any then m else 0
  | .grantedHeat v => n = if sel = .grantedHeat then
      ∑ b : BedId, (if f = .any ∨ f = .bed b then v[b] else 0) else 0

/-- The end of an event: while frozen no counter changes; otherwise each counter takes its amounts modulo 2^32,
a sum past the range setting its overflow flag, and a wrap of a freeze-enabled counter freezes the counters
after all the additions and raises COUNTER_OVERFLOW, once; the rest of the state stays. The amounts are those
that the table of R185 gives each selection and filter (R185 to R187). -/
def Obligations.CountersTakeAnEventsAmounts : Prop :=
  (∀ (h : Happening) (sel : Selection) (f : Filter), h.worth sel f (h.amount sel f)) ∧
  ∀ e : Event, ∃ t, e.close = t ∧
    t = { e.st with counters := t.counters, ports := t.ports } ∧
    (e.st.counters.frozen = true → t = e.st) ∧
    (e.st.counters.frozen = false →
      let sum (i : Fin 8) := e.st.counters.counters[i].value.toNat +
        (e.seen.map fun h =>
          h.amount e.st.counters.counters[i].selection e.st.counters.counters[i].filter).sum
      let wraps (i : Fin 8) := 4294967295 < sum i
      (∀ i : Fin 8, t.counters.counters[i].value.toNat = sum i % 4294967296 ∧
        (t.counters.counters[i].overflow = true ↔
          e.st.counters.counters[i].overflow = true ∨ wraps i) ∧
        t.counters.counters[i].selection = e.st.counters.counters[i].selection ∧
        t.counters.counters[i].filter = e.st.counters.counters[i].filter ∧
        t.counters.counters[i].freezeEnable = e.st.counters.counters[i].freezeEnable) ∧
      (t.counters.frozen = true ↔ ∃ i, e.st.counters.counters[i].freezeEnable = true ∧ wraps i) ∧
      (t.counters.frozen = false → t.ports = e.st.ports) ∧
      (t.counters.frozen = true → ∀ p, t.port p =
        if (e.st.port p).role ≠ .off ∧ (e.st.port p).mask.getLsbD 14 = true then
          { e.st.port p with alerts := (e.st.port p).alerts ||| 0x4000#16 }
        else e.st.port p))

/-- The filter is one the table of R185 gives the selection of this number. -/
def Sys2Proof.Machine.filterFits (selection : Nat) (f : Filter) : Prop :=
  match f with
  | .any => True
  | .bed _ => selection = 3 ∨ selection = 11 ∨ selection = 16
  | .crane _ => 6 ≤ selection ∧ selection ≤ 9 ∨ selection = 12
  | .port _ => 4 ≤ selection ∧ selection ≤ 9 ∨ selection = 13 ∨ selection = 14

/-- The selections in the order of their numbers (R185). -/
def Sys2Proof.Machine.selections : Vector Selection 17 :=
  #v[.nothing, .scanDone, .scanOverrun, .probeFault, .moveEntered, .moveMerged, .moveGranted, .offMode,
    .moveRevoked, .moveCompleted, .modeSwitch, .curtailment, .powerWait, .frameReject, .requestRefused,
    .queuedMoves, .grantedHeat]

/-- The counter requests, in either state, from an OFFICE port but for READ_COUNTERS. SET_COUNTER writes the
selection, filter and freeze enable together, the value only when a preload is given, and keeps the overflow
flag; a number out of range, or a filter the selection does not carry, is BAD_VALUE. UNFREEZE_COUNTERS clears
the frozen flag alone, CLEAR_OVERFLOW the overflow flags its mask names, RESET_COUNTERS the values,
RESET_COUNTER_SELECT the selections, filters and freeze enables; READ_COUNTERS, from a port of any role,
answers the eight counters and the flag and changes nothing (R188, R189; that selection none carries the filter
any is read from R190: notes/assumptions/12.md; that the filter number is not judged beside the filter any is
read from section 10.6: notes/assumptions/11.md). -/
def Obligations.CounterRequestsWriteWhatTheyName : Prop :=
  ∀ (p : PortId) (tag : Byte) (s : State),
    (s.asks p .office → ∀ (i : Fin 8) (sel : Fin 17) (f : Filter) (kind number : Nat) (en : Bool) (v : Option Word32),
      (match f with
        | .any => kind = 0
        | .bed b => kind = 1 ∧ number = b
        | .crane c => kind = 2 ∧ number = c
        | .port q => kind = 3 ∧ number = q) →
      let run := exec (.setCounter p tag i sel kind number (if en then 1 else 0) (if v.isSome then 1 else 0)
        ((v.map BitVec.toNat).getD 0)) s
      (¬ filterFits sel f → run = .next (s.refused p tag .setCounter .badValue .empty)) ∧
      (filterFits sel f → ∃ l : Vector Counter 8,
        run = .next (State.answered { s with counters := ⟨l, s.counters.frozen⟩ } p tag .setCounter .ok
          .empty) ∧
        l[i] = ⟨selections[sel], f, v.getD s.counters.counters[i].value,
          s.counters.counters[i].overflow, en⟩ ∧
        ∀ j : Fin 8, j ≠ i → l[j] = s.counters.counters[j])) ∧
    (s.asks p .office → ∀ c sel kind number en given v, 8 ≤ c ∨ 17 ≤ sel ∨ 4 ≤ kind ∨ (kind = 1 ∧ 16 ≤ number) ∨
        (2 ≤ kind ∧ 4 ≤ number) ∨ 2 ≤ en ∨ 2 ≤ given →
      exec (.setCounter p tag c sel kind number en given v) s =
        .next (s.refused p tag .setCounter .badValue .empty)) ∧
    (s.hears p → exec (.readCounters p tag) s = .next (s.answered p tag .readCounters .ok
      (.counters s.counters.counters s.counters.frozen))) ∧
    (s.asks p .office →
      let done (k : RequestKind) (l : Vector Counter 8) (z : Bool) : State :=
        State.answered { s with counters := ⟨l, z⟩ } p tag k .ok .empty
      let old := s.counters.counters
      let z := s.counters.frozen
      exec (.unfreezeCounters p tag) s = .next (done .unfreezeCounters old false) ∧
      (∀ mask : Nat, ∃ l, exec (.clearOverflow p tag mask) s = .next (done .clearOverflow l z) ∧
        ∀ i : Fin 8, l[i] = { old[i] with overflow := old[i].overflow && !mask.testBit i }) ∧
      (∃ l, exec (.resetCounters p tag) s = .next (done .resetCounters l z) ∧
        ∀ i : Fin 8, l[i] = { old[i] with value := 0 }) ∧
      ∃ l, exec (.resetCounterSelect p tag) s = .next (done .resetCounterSelect l z) ∧
        ∀ i : Fin 8, l[i] = ⟨.nothing, .any, old[i].value, old[i].overflow, false⟩)

/-! ### Invariants of the whole controller -/

/-- Every step keeps the books of the Move Table: each port's charged count is the number of moves it
requested, pieces and moves name each other, and a crane holds a slot exactly when the slot's move is granted
to it (R120, R126, R141, R158). -/
def Obligations.EveryStepKeepsTheMoveBooks : Prop :=
  ∀ s t, step s = .next t →
    (s.creditSafe → t.creditSafe) ∧ (s.linksSafe → t.linksSafe) ∧ (s.holdingSafe → t.holdingSafe)

/-- Every step keeps each stack's pieces and incoming count within its tier limit, the incoming count being the
number of granted moves bound for it, and keeps the captured spans of moves that different cranes hold apart
(R124, R162). -/
def Obligations.EveryStepKeepsStacksAndSpansApart : Prop :=
  ∀ s t, step s = .next t → (s.stacksSafe → t.stacksSafe) ∧ (s.spansSafe → t.spansSafe)

/-- Every step keeps the configuration values in their ranges with frost_off above frost_on, every profile's
ceiling above its hold temperature, at most 1024 pieces registered, and the minutes known to remain of the scan
timer's countdown from 1 to its interval, which is at most 15 (R11, R24, R38, R59, R121). -/
def Obligations.EveryStepKeepsTheStoredFigures : Prop :=
  ∀ s t, step s = .next t →
    (s.settingsSafe → t.settingsSafe) ∧ (s.profilesSafe → t.profilesSafe) ∧
      (s.recordsSafe → t.recordsSafe) ∧ (s.settingsSafe ∧ s.timerSafe → t.timerSafe)

/-- The state right after power-on is that of a POWER_ON with the straps at OFFICE, BEDSIDE, CRANE and BEDSIDE
and the SHED line deasserted (the straps and the line are the model's choice, notes/assumptions/1.md, and so is
that POWER_ON keeps the waiting queue and the count of free reads, notes/assumptions/26.md), and it has every
invariant the steps keep. -/
def Obligations.ResetHasEveryInvariant : Prop :=
  (∀ s : State, exec (.powerOn .office .bedside .crane .bedside false) s =
    .next { State.reset with freeReads := s.freeReads, pending := s.pending }) ∧
  State.reset.powerSafe ∧ State.reset.creditSafe ∧ State.reset.linksSafe ∧ State.reset.holdingSafe ∧
  State.reset.stacksSafe ∧ State.reset.spansSafe ∧ State.reset.settingsSafe ∧ State.reset.profilesSafe ∧
  State.reset.recordsSafe ∧ State.reset.timerSafe ∧ State.reset.maturitySafe
end

