-- ==== Sys2Proof/Laws/State.lean ====
section
/-! SUPPORT. What each named update of the state leaves as it stands, one lemma per field, and what the
accessors read after it. -/

namespace Sys2Proof.Machine

variable (s : State)

/-! ### setBed -/

@[simp] theorem State.setBed_ctl (b : BedId) (x : Option Bed) : (s.setBed b x).ctl = s.ctl := rfl
@[simp] theorem State.setBed_clock (b : BedId) (x : Option Bed) : (s.setBed b x).clock = s.clock := rfl
@[simp] theorem State.setBed_limits (b : BedId) (x : Option Bed) : (s.setBed b x).limits = s.limits := rfl
@[simp] theorem State.setBed_settings (b : BedId) (x : Option Bed) : (s.setBed b x).settings = s.settings := rfl
@[simp] theorem State.setBed_classes (b : BedId) (x : Option Bed) : (s.setBed b x).classes = s.classes := rfl
@[simp] theorem State.setBed_profiles (b : BedId) (x : Option Bed) : (s.setBed b x).profiles = s.profiles := rfl
@[simp] theorem State.setBed_stackSlots (b : BedId) (x : Option Bed) : (s.setBed b x).stackSlots = s.stackSlots := rfl
@[simp] theorem State.setBed_cranes (b : BedId) (x : Option Bed) : (s.setBed b x).cranes = s.cranes := rfl
@[simp] theorem State.setBed_scan (b : BedId) (x : Option Bed) : (s.setBed b x).scan = s.scan := rfl
@[simp] theorem State.setBed_budget (b : BedId) (x : Option Bed) : (s.setBed b x).budget = s.budget := rfl
@[simp] theorem State.setBed_pieces (b : BedId) (x : Option Bed) : (s.setBed b x).pieces = s.pieces := rfl
@[simp] theorem State.setBed_moves (b : BedId) (x : Option Bed) : (s.setBed b x).moves = s.moves := rfl
@[simp] theorem State.setBed_arbiter (b : BedId) (x : Option Bed) : (s.setBed b x).arbiter = s.arbiter := rfl
@[simp] theorem State.setBed_ports (b : BedId) (x : Option Bed) : (s.setBed b x).ports = s.ports := rfl
@[simp] theorem State.setBed_counters (b : BedId) (x : Option Bed) : (s.setBed b x).counters = s.counters := rfl
@[simp] theorem State.setBed_freeReads (b : BedId) (x : Option Bed) : (s.setBed b x).freeReads = s.freeReads := rfl
@[simp] theorem State.setBed_pending (b : BedId) (x : Option Bed) : (s.setBed b x).pending = s.pending := rfl

/-! ### modBed -/

@[simp] theorem State.modBed_ctl (b : BedId) (f : Bed → Bed) : (s.modBed b f).ctl = s.ctl := rfl
@[simp] theorem State.modBed_clock (b : BedId) (f : Bed → Bed) : (s.modBed b f).clock = s.clock := rfl
@[simp] theorem State.modBed_limits (b : BedId) (f : Bed → Bed) : (s.modBed b f).limits = s.limits := rfl
@[simp] theorem State.modBed_settings (b : BedId) (f : Bed → Bed) : (s.modBed b f).settings = s.settings := rfl
@[simp] theorem State.modBed_classes (b : BedId) (f : Bed → Bed) : (s.modBed b f).classes = s.classes := rfl
@[simp] theorem State.modBed_profiles (b : BedId) (f : Bed → Bed) : (s.modBed b f).profiles = s.profiles := rfl
@[simp] theorem State.modBed_stackSlots (b : BedId) (f : Bed → Bed) : (s.modBed b f).stackSlots = s.stackSlots := rfl
@[simp] theorem State.modBed_cranes (b : BedId) (f : Bed → Bed) : (s.modBed b f).cranes = s.cranes := rfl
@[simp] theorem State.modBed_scan (b : BedId) (f : Bed → Bed) : (s.modBed b f).scan = s.scan := rfl
@[simp] theorem State.modBed_budget (b : BedId) (f : Bed → Bed) : (s.modBed b f).budget = s.budget := rfl
@[simp] theorem State.modBed_pieces (b : BedId) (f : Bed → Bed) : (s.modBed b f).pieces = s.pieces := rfl
@[simp] theorem State.modBed_moves (b : BedId) (f : Bed → Bed) : (s.modBed b f).moves = s.moves := rfl
@[simp] theorem State.modBed_arbiter (b : BedId) (f : Bed → Bed) : (s.modBed b f).arbiter = s.arbiter := rfl
@[simp] theorem State.modBed_ports (b : BedId) (f : Bed → Bed) : (s.modBed b f).ports = s.ports := rfl
@[simp] theorem State.modBed_counters (b : BedId) (f : Bed → Bed) : (s.modBed b f).counters = s.counters := rfl
@[simp] theorem State.modBed_freeReads (b : BedId) (f : Bed → Bed) : (s.modBed b f).freeReads = s.freeReads := rfl
@[simp] theorem State.modBed_pending (b : BedId) (f : Bed → Bed) : (s.modBed b f).pending = s.pending := rfl

/-! ### setStack -/

@[simp] theorem State.setStack_ctl (i : StackId) (x : Option Stack) : (s.setStack i x).ctl = s.ctl := rfl
@[simp] theorem State.setStack_clock (i : StackId) (x : Option Stack) : (s.setStack i x).clock = s.clock := rfl
@[simp] theorem State.setStack_limits (i : StackId) (x : Option Stack) : (s.setStack i x).limits = s.limits := rfl
@[simp] theorem State.setStack_settings (i : StackId) (x : Option Stack) : (s.setStack i x).settings = s.settings := rfl
@[simp] theorem State.setStack_classes (i : StackId) (x : Option Stack) : (s.setStack i x).classes = s.classes := rfl
@[simp] theorem State.setStack_beds (i : StackId) (x : Option Stack) : (s.setStack i x).beds = s.beds := rfl
@[simp] theorem State.setStack_profiles (i : StackId) (x : Option Stack) : (s.setStack i x).profiles = s.profiles := rfl
@[simp] theorem State.setStack_cranes (i : StackId) (x : Option Stack) : (s.setStack i x).cranes = s.cranes := rfl
@[simp] theorem State.setStack_scan (i : StackId) (x : Option Stack) : (s.setStack i x).scan = s.scan := rfl
@[simp] theorem State.setStack_budget (i : StackId) (x : Option Stack) : (s.setStack i x).budget = s.budget := rfl
@[simp] theorem State.setStack_pieces (i : StackId) (x : Option Stack) : (s.setStack i x).pieces = s.pieces := rfl
@[simp] theorem State.setStack_moves (i : StackId) (x : Option Stack) : (s.setStack i x).moves = s.moves := rfl
@[simp] theorem State.setStack_arbiter (i : StackId) (x : Option Stack) : (s.setStack i x).arbiter = s.arbiter := rfl
@[simp] theorem State.setStack_ports (i : StackId) (x : Option Stack) : (s.setStack i x).ports = s.ports := rfl
@[simp] theorem State.setStack_counters (i : StackId) (x : Option Stack) : (s.setStack i x).counters = s.counters := rfl
@[simp] theorem State.setStack_freeReads (i : StackId) (x : Option Stack) : (s.setStack i x).freeReads = s.freeReads := rfl
@[simp] theorem State.setStack_pending (i : StackId) (x : Option Stack) : (s.setStack i x).pending = s.pending := rfl

/-! ### modStack -/

@[simp] theorem State.modStack_ctl (i : StackId) (f : Stack → Stack) : (s.modStack i f).ctl = s.ctl := rfl
@[simp] theorem State.modStack_clock (i : StackId) (f : Stack → Stack) : (s.modStack i f).clock = s.clock := rfl
@[simp] theorem State.modStack_limits (i : StackId) (f : Stack → Stack) : (s.modStack i f).limits = s.limits := rfl
@[simp] theorem State.modStack_settings (i : StackId) (f : Stack → Stack) : (s.modStack i f).settings = s.settings := rfl
@[simp] theorem State.modStack_classes (i : StackId) (f : Stack → Stack) : (s.modStack i f).classes = s.classes := rfl
@[simp] theorem State.modStack_beds (i : StackId) (f : Stack → Stack) : (s.modStack i f).beds = s.beds := rfl
@[simp] theorem State.modStack_profiles (i : StackId) (f : Stack → Stack) : (s.modStack i f).profiles = s.profiles := rfl
@[simp] theorem State.modStack_cranes (i : StackId) (f : Stack → Stack) : (s.modStack i f).cranes = s.cranes := rfl
@[simp] theorem State.modStack_scan (i : StackId) (f : Stack → Stack) : (s.modStack i f).scan = s.scan := rfl
@[simp] theorem State.modStack_budget (i : StackId) (f : Stack → Stack) : (s.modStack i f).budget = s.budget := rfl
@[simp] theorem State.modStack_pieces (i : StackId) (f : Stack → Stack) : (s.modStack i f).pieces = s.pieces := rfl
@[simp] theorem State.modStack_moves (i : StackId) (f : Stack → Stack) : (s.modStack i f).moves = s.moves := rfl
@[simp] theorem State.modStack_arbiter (i : StackId) (f : Stack → Stack) : (s.modStack i f).arbiter = s.arbiter := rfl
@[simp] theorem State.modStack_ports (i : StackId) (f : Stack → Stack) : (s.modStack i f).ports = s.ports := rfl
@[simp] theorem State.modStack_counters (i : StackId) (f : Stack → Stack) : (s.modStack i f).counters = s.counters := rfl
@[simp] theorem State.modStack_freeReads (i : StackId) (f : Stack → Stack) : (s.modStack i f).freeReads = s.freeReads := rfl
@[simp] theorem State.modStack_pending (i : StackId) (f : Stack → Stack) : (s.modStack i f).pending = s.pending := rfl

/-! ### modCrane -/

@[simp] theorem State.modCrane_ctl (k : CraneId) (f : Crane → Crane) : (s.modCrane k f).ctl = s.ctl := rfl
@[simp] theorem State.modCrane_clock (k : CraneId) (f : Crane → Crane) : (s.modCrane k f).clock = s.clock := rfl
@[simp] theorem State.modCrane_limits (k : CraneId) (f : Crane → Crane) : (s.modCrane k f).limits = s.limits := rfl
@[simp] theorem State.modCrane_settings (k : CraneId) (f : Crane → Crane) : (s.modCrane k f).settings = s.settings := rfl
@[simp] theorem State.modCrane_classes (k : CraneId) (f : Crane → Crane) : (s.modCrane k f).classes = s.classes := rfl
@[simp] theorem State.modCrane_beds (k : CraneId) (f : Crane → Crane) : (s.modCrane k f).beds = s.beds := rfl
@[simp] theorem State.modCrane_profiles (k : CraneId) (f : Crane → Crane) : (s.modCrane k f).profiles = s.profiles := rfl
@[simp] theorem State.modCrane_stackSlots (k : CraneId) (f : Crane → Crane) : (s.modCrane k f).stackSlots = s.stackSlots := rfl
@[simp] theorem State.modCrane_scan (k : CraneId) (f : Crane → Crane) : (s.modCrane k f).scan = s.scan := rfl
@[simp] theorem State.modCrane_budget (k : CraneId) (f : Crane → Crane) : (s.modCrane k f).budget = s.budget := rfl
@[simp] theorem State.modCrane_pieces (k : CraneId) (f : Crane → Crane) : (s.modCrane k f).pieces = s.pieces := rfl
@[simp] theorem State.modCrane_moves (k : CraneId) (f : Crane → Crane) : (s.modCrane k f).moves = s.moves := rfl
@[simp] theorem State.modCrane_arbiter (k : CraneId) (f : Crane → Crane) : (s.modCrane k f).arbiter = s.arbiter := rfl
@[simp] theorem State.modCrane_ports (k : CraneId) (f : Crane → Crane) : (s.modCrane k f).ports = s.ports := rfl
@[simp] theorem State.modCrane_counters (k : CraneId) (f : Crane → Crane) : (s.modCrane k f).counters = s.counters := rfl
@[simp] theorem State.modCrane_freeReads (k : CraneId) (f : Crane → Crane) : (s.modCrane k f).freeReads = s.freeReads := rfl
@[simp] theorem State.modCrane_pending (k : CraneId) (f : Crane → Crane) : (s.modCrane k f).pending = s.pending := rfl

/-! ### setMove -/

@[simp] theorem State.setMove_ctl (i : SlotId) (m : Option Move) : (s.setMove i m).ctl = s.ctl := rfl
@[simp] theorem State.setMove_clock (i : SlotId) (m : Option Move) : (s.setMove i m).clock = s.clock := rfl
@[simp] theorem State.setMove_limits (i : SlotId) (m : Option Move) : (s.setMove i m).limits = s.limits := rfl
@[simp] theorem State.setMove_settings (i : SlotId) (m : Option Move) : (s.setMove i m).settings = s.settings := rfl
@[simp] theorem State.setMove_classes (i : SlotId) (m : Option Move) : (s.setMove i m).classes = s.classes := rfl
@[simp] theorem State.setMove_beds (i : SlotId) (m : Option Move) : (s.setMove i m).beds = s.beds := rfl
@[simp] theorem State.setMove_profiles (i : SlotId) (m : Option Move) : (s.setMove i m).profiles = s.profiles := rfl
@[simp] theorem State.setMove_stackSlots (i : SlotId) (m : Option Move) : (s.setMove i m).stackSlots = s.stackSlots := rfl
@[simp] theorem State.setMove_cranes (i : SlotId) (m : Option Move) : (s.setMove i m).cranes = s.cranes := rfl
@[simp] theorem State.setMove_scan (i : SlotId) (m : Option Move) : (s.setMove i m).scan = s.scan := rfl
@[simp] theorem State.setMove_budget (i : SlotId) (m : Option Move) : (s.setMove i m).budget = s.budget := rfl
@[simp] theorem State.setMove_pieces (i : SlotId) (m : Option Move) : (s.setMove i m).pieces = s.pieces := rfl
@[simp] theorem State.setMove_arbiter (i : SlotId) (m : Option Move) : (s.setMove i m).arbiter = s.arbiter := rfl
@[simp] theorem State.setMove_ports (i : SlotId) (m : Option Move) : (s.setMove i m).ports = s.ports := rfl
@[simp] theorem State.setMove_counters (i : SlotId) (m : Option Move) : (s.setMove i m).counters = s.counters := rfl
@[simp] theorem State.setMove_freeReads (i : SlotId) (m : Option Move) : (s.setMove i m).freeReads = s.freeReads := rfl
@[simp] theorem State.setMove_pending (i : SlotId) (m : Option Move) : (s.setMove i m).pending = s.pending := rfl

/-! ### modPort -/

@[simp] theorem State.modPort_ctl (p : PortId) (f : Port → Port) : (s.modPort p f).ctl = s.ctl := rfl
@[simp] theorem State.modPort_clock (p : PortId) (f : Port → Port) : (s.modPort p f).clock = s.clock := rfl
@[simp] theorem State.modPort_limits (p : PortId) (f : Port → Port) : (s.modPort p f).limits = s.limits := rfl
@[simp] theorem State.modPort_settings (p : PortId) (f : Port → Port) : (s.modPort p f).settings = s.settings := rfl
@[simp] theorem State.modPort_classes (p : PortId) (f : Port → Port) : (s.modPort p f).classes = s.classes := rfl
@[simp] theorem State.modPort_beds (p : PortId) (f : Port → Port) : (s.modPort p f).beds = s.beds := rfl
@[simp] theorem State.modPort_profiles (p : PortId) (f : Port → Port) : (s.modPort p f).profiles = s.profiles := rfl
@[simp] theorem State.modPort_stackSlots (p : PortId) (f : Port → Port) : (s.modPort p f).stackSlots = s.stackSlots := rfl
@[simp] theorem State.modPort_cranes (p : PortId) (f : Port → Port) : (s.modPort p f).cranes = s.cranes := rfl
@[simp] theorem State.modPort_scan (p : PortId) (f : Port → Port) : (s.modPort p f).scan = s.scan := rfl
@[simp] theorem State.modPort_budget (p : PortId) (f : Port → Port) : (s.modPort p f).budget = s.budget := rfl
@[simp] theorem State.modPort_pieces (p : PortId) (f : Port → Port) : (s.modPort p f).pieces = s.pieces := rfl
@[simp] theorem State.modPort_moves (p : PortId) (f : Port → Port) : (s.modPort p f).moves = s.moves := rfl
@[simp] theorem State.modPort_arbiter (p : PortId) (f : Port → Port) : (s.modPort p f).arbiter = s.arbiter := rfl
@[simp] theorem State.modPort_counters (p : PortId) (f : Port → Port) : (s.modPort p f).counters = s.counters := rfl
@[simp] theorem State.modPort_freeReads (p : PortId) (f : Port → Port) : (s.modPort p f).freeReads = s.freeReads := rfl
@[simp] theorem State.modPort_pending (p : PortId) (f : Port → Port) : (s.modPort p f).pending = s.pending := rfl

/-! ### addPiece -/

@[simp] theorem State.addPiece_ctl (x : Piece) : (s.addPiece x).ctl = s.ctl := rfl
@[simp] theorem State.addPiece_clock (x : Piece) : (s.addPiece x).clock = s.clock := rfl
@[simp] theorem State.addPiece_limits (x : Piece) : (s.addPiece x).limits = s.limits := rfl
@[simp] theorem State.addPiece_settings (x : Piece) : (s.addPiece x).settings = s.settings := rfl
@[simp] theorem State.addPiece_classes (x : Piece) : (s.addPiece x).classes = s.classes := rfl
@[simp] theorem State.addPiece_beds (x : Piece) : (s.addPiece x).beds = s.beds := rfl
@[simp] theorem State.addPiece_profiles (x : Piece) : (s.addPiece x).profiles = s.profiles := rfl
@[simp] theorem State.addPiece_stackSlots (x : Piece) : (s.addPiece x).stackSlots = s.stackSlots := rfl
@[simp] theorem State.addPiece_cranes (x : Piece) : (s.addPiece x).cranes = s.cranes := rfl
@[simp] theorem State.addPiece_scan (x : Piece) : (s.addPiece x).scan = s.scan := rfl
@[simp] theorem State.addPiece_budget (x : Piece) : (s.addPiece x).budget = s.budget := rfl
@[simp] theorem State.addPiece_moves (x : Piece) : (s.addPiece x).moves = s.moves := rfl
@[simp] theorem State.addPiece_arbiter (x : Piece) : (s.addPiece x).arbiter = s.arbiter := rfl
@[simp] theorem State.addPiece_ports (x : Piece) : (s.addPiece x).ports = s.ports := rfl
@[simp] theorem State.addPiece_counters (x : Piece) : (s.addPiece x).counters = s.counters := rfl
@[simp] theorem State.addPiece_freeReads (x : Piece) : (s.addPiece x).freeReads = s.freeReads := rfl
@[simp] theorem State.addPiece_pending (x : Piece) : (s.addPiece x).pending = s.pending := rfl

/-! ### modPiece -/

@[simp] theorem State.modPiece_ctl (id : Nat) (f : Piece → Piece) : (s.modPiece id f).ctl = s.ctl := rfl
@[simp] theorem State.modPiece_clock (id : Nat) (f : Piece → Piece) : (s.modPiece id f).clock = s.clock := rfl
@[simp] theorem State.modPiece_limits (id : Nat) (f : Piece → Piece) : (s.modPiece id f).limits = s.limits := rfl
@[simp] theorem State.modPiece_settings (id : Nat) (f : Piece → Piece) : (s.modPiece id f).settings = s.settings := rfl
@[simp] theorem State.modPiece_classes (id : Nat) (f : Piece → Piece) : (s.modPiece id f).classes = s.classes := rfl
@[simp] theorem State.modPiece_beds (id : Nat) (f : Piece → Piece) : (s.modPiece id f).beds = s.beds := rfl
@[simp] theorem State.modPiece_profiles (id : Nat) (f : Piece → Piece) : (s.modPiece id f).profiles = s.profiles := rfl
@[simp] theorem State.modPiece_stackSlots (id : Nat) (f : Piece → Piece) : (s.modPiece id f).stackSlots = s.stackSlots := rfl
@[simp] theorem State.modPiece_cranes (id : Nat) (f : Piece → Piece) : (s.modPiece id f).cranes = s.cranes := rfl
@[simp] theorem State.modPiece_scan (id : Nat) (f : Piece → Piece) : (s.modPiece id f).scan = s.scan := rfl
@[simp] theorem State.modPiece_budget (id : Nat) (f : Piece → Piece) : (s.modPiece id f).budget = s.budget := rfl
@[simp] theorem State.modPiece_moves (id : Nat) (f : Piece → Piece) : (s.modPiece id f).moves = s.moves := rfl
@[simp] theorem State.modPiece_arbiter (id : Nat) (f : Piece → Piece) : (s.modPiece id f).arbiter = s.arbiter := rfl
@[simp] theorem State.modPiece_ports (id : Nat) (f : Piece → Piece) : (s.modPiece id f).ports = s.ports := rfl
@[simp] theorem State.modPiece_counters (id : Nat) (f : Piece → Piece) : (s.modPiece id f).counters = s.counters := rfl
@[simp] theorem State.modPiece_freeReads (id : Nat) (f : Piece → Piece) : (s.modPiece id f).freeReads = s.freeReads := rfl
@[simp] theorem State.modPiece_pending (id : Nat) (f : Piece → Piece) : (s.modPiece id f).pending = s.pending := rfl

/-! ### freePiece -/

@[simp] theorem State.freePiece_ctl (id : Nat) : (s.freePiece id).ctl = s.ctl := rfl
@[simp] theorem State.freePiece_clock (id : Nat) : (s.freePiece id).clock = s.clock := rfl
@[simp] theorem State.freePiece_limits (id : Nat) : (s.freePiece id).limits = s.limits := rfl
@[simp] theorem State.freePiece_settings (id : Nat) : (s.freePiece id).settings = s.settings := rfl
@[simp] theorem State.freePiece_classes (id : Nat) : (s.freePiece id).classes = s.classes := rfl
@[simp] theorem State.freePiece_beds (id : Nat) : (s.freePiece id).beds = s.beds := rfl
@[simp] theorem State.freePiece_profiles (id : Nat) : (s.freePiece id).profiles = s.profiles := rfl
@[simp] theorem State.freePiece_stackSlots (id : Nat) : (s.freePiece id).stackSlots = s.stackSlots := rfl
@[simp] theorem State.freePiece_cranes (id : Nat) : (s.freePiece id).cranes = s.cranes := rfl
@[simp] theorem State.freePiece_scan (id : Nat) : (s.freePiece id).scan = s.scan := rfl
@[simp] theorem State.freePiece_budget (id : Nat) : (s.freePiece id).budget = s.budget := rfl
@[simp] theorem State.freePiece_moves (id : Nat) : (s.freePiece id).moves = s.moves := rfl
@[simp] theorem State.freePiece_arbiter (id : Nat) : (s.freePiece id).arbiter = s.arbiter := rfl
@[simp] theorem State.freePiece_ports (id : Nat) : (s.freePiece id).ports = s.ports := rfl
@[simp] theorem State.freePiece_counters (id : Nat) : (s.freePiece id).counters = s.counters := rfl
@[simp] theorem State.freePiece_freeReads (id : Nat) : (s.freePiece id).freeReads = s.freeReads := rfl
@[simp] theorem State.freePiece_pending (id : Nat) : (s.freePiece id).pending = s.pending := rfl

/-! ### modPieces -/

@[simp] theorem State.modPieces_ctl (ids : List Nat) (f : Piece → Piece) : (s.modPieces ids f).ctl = s.ctl := rfl
@[simp] theorem State.modPieces_clock (ids : List Nat) (f : Piece → Piece) : (s.modPieces ids f).clock = s.clock := rfl
@[simp] theorem State.modPieces_limits (ids : List Nat) (f : Piece → Piece) : (s.modPieces ids f).limits = s.limits := rfl
@[simp] theorem State.modPieces_settings (ids : List Nat) (f : Piece → Piece) : (s.modPieces ids f).settings = s.settings := rfl
@[simp] theorem State.modPieces_classes (ids : List Nat) (f : Piece → Piece) : (s.modPieces ids f).classes = s.classes := rfl
@[simp] theorem State.modPieces_beds (ids : List Nat) (f : Piece → Piece) : (s.modPieces ids f).beds = s.beds := rfl
@[simp] theorem State.modPieces_profiles (ids : List Nat) (f : Piece → Piece) : (s.modPieces ids f).profiles = s.profiles := rfl
@[simp] theorem State.modPieces_stackSlots (ids : List Nat) (f : Piece → Piece) : (s.modPieces ids f).stackSlots = s.stackSlots := rfl
@[simp] theorem State.modPieces_cranes (ids : List Nat) (f : Piece → Piece) : (s.modPieces ids f).cranes = s.cranes := rfl
@[simp] theorem State.modPieces_scan (ids : List Nat) (f : Piece → Piece) : (s.modPieces ids f).scan = s.scan := rfl
@[simp] theorem State.modPieces_budget (ids : List Nat) (f : Piece → Piece) : (s.modPieces ids f).budget = s.budget := rfl
@[simp] theorem State.modPieces_moves (ids : List Nat) (f : Piece → Piece) : (s.modPieces ids f).moves = s.moves := rfl
@[simp] theorem State.modPieces_arbiter (ids : List Nat) (f : Piece → Piece) : (s.modPieces ids f).arbiter = s.arbiter := rfl
@[simp] theorem State.modPieces_ports (ids : List Nat) (f : Piece → Piece) : (s.modPieces ids f).ports = s.ports := rfl
@[simp] theorem State.modPieces_counters (ids : List Nat) (f : Piece → Piece) : (s.modPieces ids f).counters = s.counters := rfl
@[simp] theorem State.modPieces_freeReads (ids : List Nat) (f : Piece → Piece) : (s.modPieces ids f).freeReads = s.freeReads := rfl
@[simp] theorem State.modPieces_pending (ids : List Nat) (f : Piece → Piece) : (s.modPieces ids f).pending = s.pending := rfl

/-! ### raise -/

@[simp] theorem State.raise_ctl (k : AlertKind) (t : Toward) : (s.raise k t).ctl = s.ctl := rfl
@[simp] theorem State.raise_clock (k : AlertKind) (t : Toward) : (s.raise k t).clock = s.clock := rfl
@[simp] theorem State.raise_limits (k : AlertKind) (t : Toward) : (s.raise k t).limits = s.limits := rfl
@[simp] theorem State.raise_settings (k : AlertKind) (t : Toward) : (s.raise k t).settings = s.settings := rfl
@[simp] theorem State.raise_classes (k : AlertKind) (t : Toward) : (s.raise k t).classes = s.classes := rfl
@[simp] theorem State.raise_beds (k : AlertKind) (t : Toward) : (s.raise k t).beds = s.beds := rfl
@[simp] theorem State.raise_profiles (k : AlertKind) (t : Toward) : (s.raise k t).profiles = s.profiles := rfl
@[simp] theorem State.raise_stackSlots (k : AlertKind) (t : Toward) : (s.raise k t).stackSlots = s.stackSlots := rfl
@[simp] theorem State.raise_cranes (k : AlertKind) (t : Toward) : (s.raise k t).cranes = s.cranes := rfl
@[simp] theorem State.raise_scan (k : AlertKind) (t : Toward) : (s.raise k t).scan = s.scan := rfl
@[simp] theorem State.raise_budget (k : AlertKind) (t : Toward) : (s.raise k t).budget = s.budget := rfl
@[simp] theorem State.raise_pieces (k : AlertKind) (t : Toward) : (s.raise k t).pieces = s.pieces := rfl
@[simp] theorem State.raise_moves (k : AlertKind) (t : Toward) : (s.raise k t).moves = s.moves := rfl
@[simp] theorem State.raise_arbiter (k : AlertKind) (t : Toward) : (s.raise k t).arbiter = s.arbiter := rfl
@[simp] theorem State.raise_counters (k : AlertKind) (t : Toward) : (s.raise k t).counters = s.counters := rfl
@[simp] theorem State.raise_freeReads (k : AlertKind) (t : Toward) : (s.raise k t).freeReads = s.freeReads := rfl
@[simp] theorem State.raise_pending (k : AlertKind) (t : Toward) : (s.raise k t).pending = s.pending := rfl

/-! ### answered -/

@[simp] theorem State.answered_ctl (p : PortId) (tag : Byte) (k : RequestKind) (r : Result) (a : Answer) : (s.answered p tag k r a).ctl = s.ctl := rfl
@[simp] theorem State.answered_clock (p : PortId) (tag : Byte) (k : RequestKind) (r : Result) (a : Answer) : (s.answered p tag k r a).clock = s.clock := rfl
@[simp] theorem State.answered_limits (p : PortId) (tag : Byte) (k : RequestKind) (r : Result) (a : Answer) : (s.answered p tag k r a).limits = s.limits := rfl
@[simp] theorem State.answered_settings (p : PortId) (tag : Byte) (k : RequestKind) (r : Result) (a : Answer) : (s.answered p tag k r a).settings = s.settings := rfl
@[simp] theorem State.answered_classes (p : PortId) (tag : Byte) (k : RequestKind) (r : Result) (a : Answer) : (s.answered p tag k r a).classes = s.classes := rfl
@[simp] theorem State.answered_beds (p : PortId) (tag : Byte) (k : RequestKind) (r : Result) (a : Answer) : (s.answered p tag k r a).beds = s.beds := rfl
@[simp] theorem State.answered_profiles (p : PortId) (tag : Byte) (k : RequestKind) (r : Result) (a : Answer) : (s.answered p tag k r a).profiles = s.profiles := rfl
@[simp] theorem State.answered_stackSlots (p : PortId) (tag : Byte) (k : RequestKind) (r : Result) (a : Answer) : (s.answered p tag k r a).stackSlots = s.stackSlots := rfl
@[simp] theorem State.answered_cranes (p : PortId) (tag : Byte) (k : RequestKind) (r : Result) (a : Answer) : (s.answered p tag k r a).cranes = s.cranes := rfl
@[simp] theorem State.answered_scan (p : PortId) (tag : Byte) (k : RequestKind) (r : Result) (a : Answer) : (s.answered p tag k r a).scan = s.scan := rfl
@[simp] theorem State.answered_budget (p : PortId) (tag : Byte) (k : RequestKind) (r : Result) (a : Answer) : (s.answered p tag k r a).budget = s.budget := rfl
@[simp] theorem State.answered_pieces (p : PortId) (tag : Byte) (k : RequestKind) (r : Result) (a : Answer) : (s.answered p tag k r a).pieces = s.pieces := rfl
@[simp] theorem State.answered_moves (p : PortId) (tag : Byte) (k : RequestKind) (r : Result) (a : Answer) : (s.answered p tag k r a).moves = s.moves := rfl
@[simp] theorem State.answered_arbiter (p : PortId) (tag : Byte) (k : RequestKind) (r : Result) (a : Answer) : (s.answered p tag k r a).arbiter = s.arbiter := rfl
@[simp] theorem State.answered_counters (p : PortId) (tag : Byte) (k : RequestKind) (r : Result) (a : Answer) : (s.answered p tag k r a).counters = s.counters := rfl
@[simp] theorem State.answered_freeReads (p : PortId) (tag : Byte) (k : RequestKind) (r : Result) (a : Answer) : (s.answered p tag k r a).freeReads = s.freeReads := rfl
@[simp] theorem State.answered_pending (p : PortId) (tag : Byte) (k : RequestKind) (r : Result) (a : Answer) : (s.answered p tag k r a).pending = s.pending := rfl

/-! ### setRx -/

@[simp] theorem State.setRx_ctl (p : PortId) (r : Receiver) : (s.setRx p r).ctl = s.ctl := rfl
@[simp] theorem State.setRx_clock (p : PortId) (r : Receiver) : (s.setRx p r).clock = s.clock := rfl
@[simp] theorem State.setRx_limits (p : PortId) (r : Receiver) : (s.setRx p r).limits = s.limits := rfl
@[simp] theorem State.setRx_settings (p : PortId) (r : Receiver) : (s.setRx p r).settings = s.settings := rfl
@[simp] theorem State.setRx_classes (p : PortId) (r : Receiver) : (s.setRx p r).classes = s.classes := rfl
@[simp] theorem State.setRx_beds (p : PortId) (r : Receiver) : (s.setRx p r).beds = s.beds := rfl
@[simp] theorem State.setRx_profiles (p : PortId) (r : Receiver) : (s.setRx p r).profiles = s.profiles := rfl
@[simp] theorem State.setRx_stackSlots (p : PortId) (r : Receiver) : (s.setRx p r).stackSlots = s.stackSlots := rfl
@[simp] theorem State.setRx_cranes (p : PortId) (r : Receiver) : (s.setRx p r).cranes = s.cranes := rfl
@[simp] theorem State.setRx_scan (p : PortId) (r : Receiver) : (s.setRx p r).scan = s.scan := rfl
@[simp] theorem State.setRx_budget (p : PortId) (r : Receiver) : (s.setRx p r).budget = s.budget := rfl
@[simp] theorem State.setRx_pieces (p : PortId) (r : Receiver) : (s.setRx p r).pieces = s.pieces := rfl
@[simp] theorem State.setRx_moves (p : PortId) (r : Receiver) : (s.setRx p r).moves = s.moves := rfl
@[simp] theorem State.setRx_arbiter (p : PortId) (r : Receiver) : (s.setRx p r).arbiter = s.arbiter := rfl
@[simp] theorem State.setRx_counters (p : PortId) (r : Receiver) : (s.setRx p r).counters = s.counters := rfl
@[simp] theorem State.setRx_freeReads (p : PortId) (r : Receiver) : (s.setRx p r).freeReads = s.freeReads := rfl
@[simp] theorem State.setRx_pending (p : PortId) (r : Receiver) : (s.setRx p r).pending = s.pending := rfl

/-! ### modCounters -/

@[simp] theorem State.modCounters_ctl (f : Fin 8 → Counter → Counter) : (s.modCounters f).ctl = s.ctl := rfl
@[simp] theorem State.modCounters_clock (f : Fin 8 → Counter → Counter) : (s.modCounters f).clock = s.clock := rfl
@[simp] theorem State.modCounters_limits (f : Fin 8 → Counter → Counter) : (s.modCounters f).limits = s.limits := rfl
@[simp] theorem State.modCounters_settings (f : Fin 8 → Counter → Counter) : (s.modCounters f).settings = s.settings := rfl
@[simp] theorem State.modCounters_classes (f : Fin 8 → Counter → Counter) : (s.modCounters f).classes = s.classes := rfl
@[simp] theorem State.modCounters_beds (f : Fin 8 → Counter → Counter) : (s.modCounters f).beds = s.beds := rfl
@[simp] theorem State.modCounters_profiles (f : Fin 8 → Counter → Counter) : (s.modCounters f).profiles = s.profiles := rfl
@[simp] theorem State.modCounters_stackSlots (f : Fin 8 → Counter → Counter) : (s.modCounters f).stackSlots = s.stackSlots := rfl
@[simp] theorem State.modCounters_cranes (f : Fin 8 → Counter → Counter) : (s.modCounters f).cranes = s.cranes := rfl
@[simp] theorem State.modCounters_scan (f : Fin 8 → Counter → Counter) : (s.modCounters f).scan = s.scan := rfl
@[simp] theorem State.modCounters_budget (f : Fin 8 → Counter → Counter) : (s.modCounters f).budget = s.budget := rfl
@[simp] theorem State.modCounters_pieces (f : Fin 8 → Counter → Counter) : (s.modCounters f).pieces = s.pieces := rfl
@[simp] theorem State.modCounters_moves (f : Fin 8 → Counter → Counter) : (s.modCounters f).moves = s.moves := rfl
@[simp] theorem State.modCounters_arbiter (f : Fin 8 → Counter → Counter) : (s.modCounters f).arbiter = s.arbiter := rfl
@[simp] theorem State.modCounters_ports (f : Fin 8 → Counter → Counter) : (s.modCounters f).ports = s.ports := rfl
@[simp] theorem State.modCounters_freeReads (f : Fin 8 → Counter → Counter) : (s.modCounters f).freeReads = s.freeReads := rfl
@[simp] theorem State.modCounters_pending (f : Fin 8 → Counter → Counter) : (s.modCounters f).pending = s.pending := rfl

/-! ### Tables -/

@[simp] theorem onEach_get {α β : Type} {n : Nat} (f : Fin n → α → β) (v : Vector α n) (i : Fin n) :
    (onEach f v)[i] = f i v[i] := by
  simp [onEach]

@[simp] theorem onEach_getElem {α β : Type} {n : Nat} (f : Fin n → α → β) (v : Vector α n) (i : Nat)
    (h : i < n) : (onEach f v)[i] = f ⟨i, h⟩ v[i] := by
  simp [onEach]

theorem vector_set_get {α : Type} {n : Nat} (v : Vector α n) (i j : Fin n) (x : α) :
    (v.set i x)[j] = if i = j then x else v[j] := by
  simp [Vector.getElem_set, Fin.ext_iff]

theorem vector_ext_fin {α : Type} {n : Nat} {v w : Vector α n} (h : ∀ i : Fin n, v[i] = w[i]) :
    v = w := by
  ext i hi
  exact h ⟨i, hi⟩

theorem onEach_self {α : Type} {n : Nat} (f : Fin n → α → α) (v : Vector α n)
    (h : ∀ i : Fin n, f i v[i] = v[i]) : onEach f v = v :=
  vector_ext_fin fun i => by rw [onEach_get, h]

/-! ### Reading a slot after writing one -/

theorem State.setBed_bed (b c : BedId) (x : Option Bed) :
    (s.setBed b x).bed c = if b = c then x else s.bed c :=
  vector_set_get _ _ _ _

theorem State.setStack_stack (i j : StackId) (x : Option Stack) :
    (s.setStack i x).stack j = if i = j then x else s.stack j :=
  vector_set_get _ _ _ _

theorem State.modCrane_crane (k l : CraneId) (f : Crane → Crane) :
    (s.modCrane k f).crane l = if k = l then f (s.crane k) else s.crane l :=
  vector_set_get _ _ _ _

theorem State.setMove_move (i j : SlotId) (m : Option Move) :
    (s.setMove i m).move j = if i = j then m else s.move j :=
  vector_set_get _ _ _ _

theorem State.modPort_port (p q : PortId) (f : Port → Port) :
    (s.modPort p f).port q = if p = q then f (s.port p) else s.port q :=
  vector_set_get _ _ _ _

@[simp] theorem State.raise_port (k : AlertKind) (t : Toward) (p : PortId) :
    (s.raise k t).port p = Port.join k t p (s.port p) :=
  onEach_get _ _ _

/-! ### The accessors that read an untouched field -/

@[simp] theorem State.modPort_bed (p : PortId) (f : Port → Port) (b : BedId) :
    (s.modPort p f).bed b = s.bed b := rfl
@[simp] theorem State.modPort_stack (p : PortId) (f : Port → Port) (i : StackId) :
    (s.modPort p f).stack i = s.stack i := rfl
@[simp] theorem State.modPort_crane (p : PortId) (f : Port → Port) (k : CraneId) :
    (s.modPort p f).crane k = s.crane k := rfl
@[simp] theorem State.modPort_move (p : PortId) (f : Port → Port) (i : SlotId) :
    (s.modPort p f).move i = s.move i := rfl
@[simp] theorem State.modPort_now (p : PortId) (f : Port → Port) : (s.modPort p f).now = s.now := rfl
@[simp] theorem State.raise_bed (k : AlertKind) (t : Toward) (b : BedId) :
    (s.raise k t).bed b = s.bed b := rfl
@[simp] theorem State.raise_stack (k : AlertKind) (t : Toward) (i : StackId) :
    (s.raise k t).stack i = s.stack i := rfl
@[simp] theorem State.raise_crane (k : AlertKind) (t : Toward) (c : CraneId) :
    (s.raise k t).crane c = s.crane c := rfl
@[simp] theorem State.raise_move (k : AlertKind) (t : Toward) (i : SlotId) :
    (s.raise k t).move i = s.move i := rfl
@[simp] theorem State.raise_now (k : AlertKind) (t : Toward) : (s.raise k t).now = s.now := rfl

/-! ### What an alert leaves of a port -/

@[simp] theorem Port.join_role (k : AlertKind) (t : Toward) (p : PortId) (x : Port) :
    (x.join k t p).role = x.role := by unfold Port.join; split <;> rfl
@[simp] theorem Port.join_tx (k : AlertKind) (t : Toward) (p : PortId) (x : Port) :
    (x.join k t p).tx = x.tx := by unfold Port.join; split <;> rfl
@[simp] theorem Port.join_rx (k : AlertKind) (t : Toward) (p : PortId) (x : Port) :
    (x.join k t p).rx = x.rx := by unfold Port.join; split <;> rfl
@[simp] theorem Port.join_rejects (k : AlertKind) (t : Toward) (p : PortId) (x : Port) :
    (x.join k t p).rejects = x.rejects := by unfold Port.join; split <;> rfl
@[simp] theorem Port.join_overruns (k : AlertKind) (t : Toward) (p : PortId) (x : Port) :
    (x.join k t p).overruns = x.overruns := by unfold Port.join; split <;> rfl
@[simp] theorem Port.join_mask (k : AlertKind) (t : Toward) (p : PortId) (x : Port) :
    (x.join k t p).mask = x.mask := by unfold Port.join; split <;> rfl
@[simp] theorem Port.join_snapshots (k : AlertKind) (t : Toward) (p : PortId) (x : Port) :
    (x.join k t p).snapshots = x.snapshots := by unfold Port.join; split <;> rfl

end Sys2Proof.Machine
end

