-- ==== Sys2Proof/Laws/Requests.lean ====
section
/-! SUPPORT. What the end of an event can change, and what the taking of a request comes to in each of its
cases: provers cite these instead of unfolding Event.close, respond, arrive or serve. -/

namespace Sys2Proof.Machine

/-! ### The end of an event -/

/-- With nothing brought to it a counter stays. -/
@[simp] theorem Counter.add_nil (c : Counter) : c.add [] = c := by
  have h : ¬ 2 ^ 32 ≤ c.value.toNat := by
    have := c.value.isLt
    omega
  simp only [Counter.add, Counter.wraps, Counter.gain, List.map_nil, List.sum_nil, Nat.add_zero, h,
    decide_false, Bool.or_false]
  cases c
  simp

@[simp] theorem Counter.wraps_nil (c : Counter) : c.wraps [] = false := by
  have := c.value.isLt
  simp only [Counter.wraps, Counter.gain, List.map_nil, List.sum_nil, Nat.add_zero,
    decide_eq_false_iff_not]
  omega

/-- An event that brings nothing to the counters ends in the state it made. -/
@[simp] theorem Event.close_nil (s : State) : Event.close ⟨s, []⟩ = s := by
  have h1 : onEach (fun _ c => Counter.add [] c) s.counters.counters = s.counters.counters :=
    onEach_self _ _ fun i => Counter.add_nil _
  have h2 : (s.counters.counters.toList.any fun c => c.freezeEnable && c.wraps []) = false := by
    rw [List.any_eq_false]
    simp
  unfold Event.close
  split
  · rfl
  · next h =>
    have h3 : s.counters.frozen = false := by simpa using h
    simp only [h1, h2, State.raiseIf, Bool.false_eq_true, if_false]
    rw [← h3]

/-- All the end of an event can do: the counters take its amounts unless they are frozen, and a wrap of a
freeze-enabled counter freezes them and raises COUNTER_OVERFLOW (R186, R187). -/
theorem Event.close_cases (e : Event) :
    (e.st.counters.frozen = true ∧ e.close = e.st) ∨
    (e.st.counters.frozen = false ∧
      e.close =
        ({ e.st with
          counters := ⟨onEach (fun _ c => c.add e.seen) e.st.counters.counters,
            e.st.counters.counters.toList.any fun c => c.freezeEnable && c.wraps e.seen⟩ }
          : State).raiseIf
          (e.st.counters.counters.toList.any fun c => c.freezeEnable && c.wraps e.seen)
          .counterOverflow) := by
  unfold Event.close
  split
  · next h => exact .inl ⟨h, rfl⟩
  · next h => exact .inr ⟨by simpa using h, rfl⟩

section CloseFields

variable (e : Event)

@[simp] theorem State.raiseIf_ctl (s : State) (c : Bool) (k : AlertKind) :
    (s.raiseIf c k).ctl = s.ctl := by unfold State.raiseIf; split <;> rfl
@[simp] theorem State.raiseIf_clock (s : State) (c : Bool) (k : AlertKind) :
    (s.raiseIf c k).clock = s.clock := by unfold State.raiseIf; split <;> rfl
@[simp] theorem State.raiseIf_limits (s : State) (c : Bool) (k : AlertKind) :
    (s.raiseIf c k).limits = s.limits := by unfold State.raiseIf; split <;> rfl
@[simp] theorem State.raiseIf_settings (s : State) (c : Bool) (k : AlertKind) :
    (s.raiseIf c k).settings = s.settings := by unfold State.raiseIf; split <;> rfl
@[simp] theorem State.raiseIf_classes (s : State) (c : Bool) (k : AlertKind) :
    (s.raiseIf c k).classes = s.classes := by unfold State.raiseIf; split <;> rfl
@[simp] theorem State.raiseIf_beds (s : State) (c : Bool) (k : AlertKind) :
    (s.raiseIf c k).beds = s.beds := by unfold State.raiseIf; split <;> rfl
@[simp] theorem State.raiseIf_profiles (s : State) (c : Bool) (k : AlertKind) :
    (s.raiseIf c k).profiles = s.profiles := by unfold State.raiseIf; split <;> rfl
@[simp] theorem State.raiseIf_stackSlots (s : State) (c : Bool) (k : AlertKind) :
    (s.raiseIf c k).stackSlots = s.stackSlots := by unfold State.raiseIf; split <;> rfl
@[simp] theorem State.raiseIf_cranes (s : State) (c : Bool) (k : AlertKind) :
    (s.raiseIf c k).cranes = s.cranes := by unfold State.raiseIf; split <;> rfl
@[simp] theorem State.raiseIf_scan (s : State) (c : Bool) (k : AlertKind) :
    (s.raiseIf c k).scan = s.scan := by unfold State.raiseIf; split <;> rfl
@[simp] theorem State.raiseIf_budget (s : State) (c : Bool) (k : AlertKind) :
    (s.raiseIf c k).budget = s.budget := by unfold State.raiseIf; split <;> rfl
@[simp] theorem State.raiseIf_pieces (s : State) (c : Bool) (k : AlertKind) :
    (s.raiseIf c k).pieces = s.pieces := by unfold State.raiseIf; split <;> rfl
@[simp] theorem State.raiseIf_moves (s : State) (c : Bool) (k : AlertKind) :
    (s.raiseIf c k).moves = s.moves := by unfold State.raiseIf; split <;> rfl
@[simp] theorem State.raiseIf_arbiter (s : State) (c : Bool) (k : AlertKind) :
    (s.raiseIf c k).arbiter = s.arbiter := by unfold State.raiseIf; split <;> rfl
@[simp] theorem State.raiseIf_freeReads (s : State) (c : Bool) (k : AlertKind) :
    (s.raiseIf c k).freeReads = s.freeReads := by unfold State.raiseIf; split <;> rfl
@[simp] theorem State.raiseIf_pending (s : State) (c : Bool) (k : AlertKind) :
    (s.raiseIf c k).pending = s.pending := by unfold State.raiseIf; split <;> rfl
@[simp] theorem State.raiseIf_counters (s : State) (c : Bool) (k : AlertKind) :
    (s.raiseIf c k).counters = s.counters := by unfold State.raiseIf; split <;> rfl

@[simp] theorem Event.close_ctl : e.close.ctl = e.st.ctl := by
  unfold Event.close; split <;> simp
@[simp] theorem Event.close_clock : e.close.clock = e.st.clock := by
  unfold Event.close; split <;> simp
@[simp] theorem Event.close_limits : e.close.limits = e.st.limits := by
  unfold Event.close; split <;> simp
@[simp] theorem Event.close_settings : e.close.settings = e.st.settings := by
  unfold Event.close; split <;> simp
@[simp] theorem Event.close_classes : e.close.classes = e.st.classes := by
  unfold Event.close; split <;> simp
@[simp] theorem Event.close_beds : e.close.beds = e.st.beds := by
  unfold Event.close; split <;> simp
@[simp] theorem Event.close_profiles : e.close.profiles = e.st.profiles := by
  unfold Event.close; split <;> simp
@[simp] theorem Event.close_stackSlots : e.close.stackSlots = e.st.stackSlots := by
  unfold Event.close; split <;> simp
@[simp] theorem Event.close_cranes : e.close.cranes = e.st.cranes := by
  unfold Event.close; split <;> simp
@[simp] theorem Event.close_scan : e.close.scan = e.st.scan := by
  unfold Event.close; split <;> simp
@[simp] theorem Event.close_budget : e.close.budget = e.st.budget := by
  unfold Event.close; split <;> simp
@[simp] theorem Event.close_pieces : e.close.pieces = e.st.pieces := by
  unfold Event.close; split <;> simp
@[simp] theorem Event.close_moves : e.close.moves = e.st.moves := by
  unfold Event.close; split <;> simp
@[simp] theorem Event.close_arbiter : e.close.arbiter = e.st.arbiter := by
  unfold Event.close; split <;> simp
@[simp] theorem Event.close_freeReads : e.close.freeReads = e.st.freeReads := by
  unfold Event.close; split <;> simp
@[simp] theorem Event.close_pending : e.close.pending = e.st.pending := by
  unfold Event.close; split <;> simp

@[simp] theorem Event.close_bed (b : BedId) : e.close.bed b = e.st.bed b := by
  unfold State.bed; rw [Event.close_beds]
@[simp] theorem Event.close_stack (i : StackId) : e.close.stack i = e.st.stack i := by
  unfold State.stack; rw [Event.close_stackSlots]
@[simp] theorem Event.close_crane (k : CraneId) : e.close.crane k = e.st.crane k := by
  unfold State.crane; rw [Event.close_cranes]
@[simp] theorem Event.close_move (i : SlotId) : e.close.move i = e.st.move i := by
  unfold State.move; rw [Event.close_moves]

/-- The end of an event changes a port only by adding COUNTER_OVERFLOW to its pending set. -/
theorem Event.close_port (p : PortId) :
    e.close.port p = e.st.port p ∨
      e.close.port p = Port.join .counterOverflow .everyPort p (e.st.port p) := by
  unfold Event.close
  split
  · exact .inl rfl
  · simp only [State.raiseIf]
    split
    · exact .inr (State.raise_port _ _ _ _)
    · exact .inl rfl

end CloseFields

/-! ### Taking a request -/

/-- A request accepted without anything for the counters ends in the state its rule made, answered. -/
theorem respond_accept (p : PortId) (tag : Byte) (k : RequestKind) (s : State) (r : Result) (a : Answer)
    (h : r.isRefusal = false) :
    respond p tag k.code ⟨s.event, r, a⟩ = s.answered p tag k r a := by
  simp [respond, h, Event.upd, State.event, State.answered]

/-- A refusal changes nothing but the port's response and what the counters see of it (R177). -/
theorem respond_refuse (p : PortId) (tag : Byte) (k : RequestKind) (s : State) (r : Result) (a : Answer)
    (h : r.isRefusal = true) :
    respond p tag k.code ⟨s.event, r, a⟩ = s.refused p tag k r a := by
  simp [respond, h, Event.upd, Event.see, State.event, State.answered, State.refused]

/-- A role that a kind's roles permit is not OFF. -/
theorem permits_not_off {q : Roles} {r : Role} (h : q.permits r = true) : r ≠ .off := by
  rintro rfl
  cases q <;> simp [Roles.permits] at h

/-- The state and role checks pass exactly when the controller state and the role allow the kind. -/
theorem barred_none {k : RequestKind} {r : Role} {c : Ctl} (h : barred k r c = none) :
    (requestRoles k).permits r = true := by
  by_contra hp
  unfold barred at h
  split at h
  · cases h
  · simp at h

/-- A request that the port takes and does not bar is answered by its own rule. -/
theorem serve_takes {s : State} {p : PortId} {k : RequestKind} (h : s.takes p k) (tag : Byte)
    (rule : State → Taken) : serve p tag k rule s = respond p tag k.code (rule s) := by
  have hoff := permits_not_off (barred_none h.2)
  simp [serve, arrive, hoff, h.1, Transmit.sending, screened, h.2]

/-- A request that the state or role check bars is refused (R177, steps 3 and 4). -/
theorem serve_barred {s : State} {p : PortId} {k : RequestKind} {r : Result}
    (hoff : (s.port p).role ≠ .off) (hidle : (s.port p).tx = .idle)
    (h : barred k (s.port p).role s.ctl = some r) (tag : Byte) (rule : State → Taken) :
    serve p tag k rule s = respond p tag k.code (refuse s r) := by
  simp [serve, arrive, hoff, hidle, Transmit.sending, screened, h]

/-- An OFF port takes no request (R173). -/
theorem serve_off {s : State} {p : PortId} (k : RequestKind) (h : (s.port p).role = .off) (tag : Byte)
    (rule : State → Taken) : serve p tag k rule s = s := by
  simp [serve, arrive, h]

/-- A sending port loses the request to its overrun tally (R175). -/
theorem serve_sending {s : State} {p : PortId} (k : RequestKind) (hoff : (s.port p).role ≠ .off)
    (h : (s.port p).tx.sending = true) (tag : Byte) (rule : State → Taken) :
    serve p tag k rule s = overrunAt p s := by
  simp [serve, arrive, h, hoff]

/-- All that a request can come to. -/
theorem serve_cases (p : PortId) (tag : Byte) (k : RequestKind) (rule : State → Taken) (s : State) :
    serve p tag k rule s = s ∨ serve p tag k rule s = overrunAt p s ∨
      (∃ r, barred k (s.port p).role s.ctl = some r ∧
        serve p tag k rule s = respond p tag k.code (refuse s r)) ∨
      (s.takes p k ∧ serve p tag k rule s = respond p tag k.code (rule s)) := by
  by_cases hoff : (s.port p).role = .off
  · exact .inl (serve_off k hoff tag rule)
  cases htx : (s.port p).tx with
  | formed r => exact .inr (.inl (serve_sending k hoff (by simp [htx, Transmit.sending]) tag rule))
  | begun r => exact .inr (.inl (serve_sending k hoff (by simp [htx, Transmit.sending]) tag rule))
  | idle =>
    cases hb : barred k (s.port p).role s.ctl with
    | some r => exact .inr (.inr (.inl ⟨r, rfl, serve_barred hoff htx hb tag rule⟩))
    | none => exact .inr (.inr (.inr ⟨⟨htx, hb⟩, serve_takes ⟨htx, hb⟩ tag rule⟩))

/-! ### Requests by the role of their port -/

/-- A request that the state and role checks pass for the port's role is taken. -/
theorem State.asks_takes {s : State} {p : PortId} {r : Role} {k : RequestKind} (h : s.asks p r)
    (hb : barred k r s.ctl = none) : s.takes p k := by
  obtain ⟨rfl, h2⟩ := h
  exact ⟨h2, hb⟩

/-- No state bars an OFFICE port from a kind its role permits and LOADING does not refuse. -/
theorem barred_office {k : RequestKind} {c : Ctl} (h : (requestRoles k).permits .office = true)
    (hn : needsRunning k = false) : barred k .office c = none := by
  simp [barred, h, hn]

/-- A kind granted to every role is taken at every port that is not OFF and not sending. -/
theorem State.hears_takes {s : State} {p : PortId} {k : RequestKind} (h : s.hears p)
    (hb : requestRoles k = .any) (hn : needsRunning k = false) : s.takes p k := by
  refine ⟨h.2, ?_⟩
  have := h.1
  cases hr : (s.port p).role <;> simp_all [barred, Roles.permits]

/-- An OFFICE request that LOADING does not refuse is answered by its own rule. -/
theorem serve_office {s : State} {p : PortId} {k : RequestKind} (h : s.asks p .office)
    (h1 : (requestRoles k).permits .office = true) (h2 : needsRunning k = false) (tag : Byte)
    (rule : State → Taken) : serve p tag k rule s = respond p tag k.code (rule s) :=
  serve_takes (State.asks_takes h (barred_office h1 h2)) tag rule

/-- A request granted to every role is answered by its own rule. -/
theorem serve_hears {s : State} {p : PortId} {k : RequestKind} (h : s.hears p)
    (h1 : requestRoles k = .any) (h2 : needsRunning k = false) (tag : Byte)
    (rule : State → Taken) : serve p tag k rule s = respond p tag k.code (rule s) :=
  serve_takes (State.hears_takes h h1 h2) tag rule

/-- A request accepted with OK and nothing for the counters. -/
theorem respond_ok (p : PortId) (tag : Byte) (k : RequestKind) (s : State) (a : Answer) :
    respond p tag k.code (accept s a) = s.answered p tag k .ok a :=
  respond_accept p tag k s .ok a rfl

/-- A request refused with an empty body. -/
theorem respond_refused (p : PortId) (tag : Byte) (k : RequestKind) (s : State) (r : Result)
    (h : r.isRefusal = true := by rfl) :
    respond p tag k.code (refuse s r) = s.refused p tag k r .empty :=
  respond_refuse p tag k s r .empty h

/-- A request refused with a figure its rule names. -/
theorem respond_refusedWith (p : PortId) (tag : Byte) (k : RequestKind) (s : State) (r : Result)
    (a : Answer) (h : r.isRefusal = true := by rfl) :
    respond p tag k.code (refuseWith s r a) = s.refused p tag k r a :=
  respond_refuse p tag k s r a h

end Sys2Proof.Machine
end

