-- ==== Sys2Proof/Laws/Tables.lean ====
section
/-! SUPPORT. The tables of the state as sets: slot numbers, defined beds, moves in the table, registered
pieces, sums over a table, and spans that share a bay; the bounds of the minutes remaining and the end of
COOL. -/

namespace Sys2Proof

/-- A number within the range names its slot. -/
@[simp] theorem slot?_val {n : Nat} (k : Fin n) : slot? n k = some k := by simp [slot?]

/-- A number out of the range names no slot. -/
theorem slot?_none {n k : Nat} (h : n ≤ k) : slot? n k = none := by simp [slot?]; omega

/-- The number of a slot that is named. -/
theorem slot?_some {n k : Nat} {i : Fin n} : slot? n k = some i ↔ i.val = k := by
  unfold slot?
  split
  · next h => simp only [Option.some.injEq, Fin.ext_iff]; exact eq_comm
  · next h => simp only [reduceCtorEq, false_iff]; have := i.isLt; omega

/-- The sum of a table is the sum over its slots. -/
theorem total_eq_sum {n : Nat} (v : Vector Nat n) : total v = ∑ i : Fin n, v[i] := by
  have h : v.toList = List.ofFn fun i : Fin n => v[i] := by
    apply List.ext_getElem <;> simp
  rw [total, h, List.sum_ofFn]

/-- The sum of a table formed slot by slot. -/
theorem total_onEach {α : Type} {n : Nat} (f : Fin n → α → Nat) (v : Vector α n) :
    total (onEach f v) = ∑ i : Fin n, f i v[i] := by
  rw [total_eq_sum]
  exact Finset.sum_congr rfl fun i _ => Machine.onEach_get f v i

end Sys2Proof

namespace Sys2Proof.Machine

/-- A defined bed stands in the list of defined beds, and nothing else does. -/
theorem State.mem_definedBeds {s : State} {x : BedId × Bed} :
    x ∈ s.definedBeds ↔ s.bed x.1 = some x.2 := by
  obtain ⟨b, x⟩ := x
  simp [State.definedBeds]

/-- A move in the table stands in the list of moves, and nothing else does. -/
theorem State.mem_moveList {s : State} {x : SlotId × Move} :
    x ∈ s.moveList ↔ s.move x.1 = some x.2 := by
  obtain ⟨i, m⟩ := x
  simp [State.moveList]

/-- A QUEUED move of the table stands in the list of queued moves. -/
theorem State.mem_queued {s : State} {x : SlotId × Move} :
    x ∈ s.queued ↔ s.move x.1 = some x.2 ∧ x.2.isQueued = true := by
  simp [State.queued, State.mem_moveList]

/-- A move waits exactly while its progress is QUEUED. -/
theorem Move.isQueued_iff (m : Move) : m.isQueued = true ↔ m.progress = .queued := by
  unfold Move.isQueued
  split <;> simp_all

/-- The minutes that READ_SCAN reports are at most those last known to remain, and at least 1. -/
theorem State.minutesRemaining_bounds {s : State} (h : 1 ≤ s.scan.remaining) :
    1 ≤ s.minutesRemaining ∧ s.minutesRemaining ≤ s.scan.remaining := by
  have := Nat.mod_lt (Config.countdownElapsed s.freeReads) h
  unfold State.minutesRemaining
  omega

/-- Under a BLIND yard a setpoint ends COOL exactly at or below the higher of 0 and the datum. -/
@[simp] theorem endsCool_blind (datum t : Int) : endsCool none datum t = decide (t ≤ max 0 datum) := by
  rw [endsCool, ← Bool.decide_or, decide_eq_decide]
  exact le_max_iff.symm

/-- Under a BLIND yard a setpoint at or below 0 ends COOL, whatever the datum. -/
theorem endsCool_of_le_zero {t : Int} (datum : Int) (h : t ≤ 0) : endsCool none datum t = true := by
  simp [endsCool, h]

/-- With a yard temperature a setpoint ends COOL exactly at or below it. -/
@[simp] theorem endsCool_some (y datum t : Int) : endsCool (some y) datum t = decide (t ≤ y) := rfl

/-- A piece found by its id bears it. -/
theorem State.piece_id {s : State} {id : Nat} {x : Piece} (h : s.piece id = some x) : x.id = id := by
  have := List.find?_some h
  simpa using this

/-- Two spans of bays meet exactly when some bay lies in both. -/
theorem spansMeet_iff (a b c d : Nat) :
    spansMeet a b c d = true ↔ ∃ n : Nat, a ≤ n ∧ n ≤ b ∧ c ≤ n ∧ n ≤ d := by
  simp only [spansMeet, decide_eq_true_eq]
  constructor
  · intro h; exact ⟨max a c, by omega⟩
  · rintro ⟨n, h⟩; omega

/-- Two widened spans meet exactly when some bay, on the rail or beyond it, lies in both. -/
theorem widenedMeet_iff (a b c d e f : Nat) :
    widenedMeet a b c d e f = true ↔
      ∃ n : Int, (a : Int) - c ≤ n ∧ n ≤ b + c ∧ (d : Int) - f ≤ n ∧ n ≤ e + f := by
  simp only [widenedMeet, spansMeet, decide_eq_true_eq]
  constructor
  · intro h; exact ⟨max ((a : Int) - c) ((d : Int) - f), by omega⟩
  · rintro ⟨n, h⟩; omega

/-- A bed definition overlaps another defined bed exactly when some bay lies in both spans. -/
theorem State.overlapsOther_iff (s : State) (b : BedId) (d : BedDef) :
    s.overlapsOther b d = true ↔ ∃ c y, c ≠ b ∧ s.bed c = some y ∧
      ∃ bay, d.firstBay ≤ bay ∧ bay ≤ d.lastBay ∧ y.defn.firstBay ≤ bay ∧ bay ≤ y.defn.lastBay := by
  simp only [State.overlapsOther, List.any_eq_true, State.mem_definedBeds, Bool.and_eq_true,
    bne_iff_ne, BedDef.overlaps, spansMeet_iff]
  constructor
  · rintro ⟨⟨c, y⟩, h1, h2, h3⟩; exact ⟨c, y, h2, h1, h3⟩
  · rintro ⟨c, y, h1, h2, h3⟩; exact ⟨⟨c, y⟩, h2, h1, h3⟩

end Sys2Proof.Machine
end

