-- ==== Sys2Proof/Laws/PerInstr.lean ====
section
/-! SUPPORT. The law of every command as syntax: the body of a well-formed command fits one request frame
(R174: a length of 2 to 242 with the tag and the kind). -/

namespace Sys2Proof.Laws.Wire

open Sys2Proof

/-- The body of the command, when it is well formed, fits one request frame. -/
def Statement (i : Instr) : Prop := i.wellFormed = true → (encodeBody i).length ≤ maxBody

/-- The entries of a list take five bytes each after their count. -/
theorem putEntries_length (l : List PieceEntry) : (putEntries l).length = 1 + 5 * l.length := by
  induction l with
  | nil => rfl
  | cons x l ih => simp [putEntries, putEntry, put2] at ih ⊢; omega

theorem powerOn (role0 role1 role2 role3 : Role) (shed : Bool) : Statement (.powerOn role0 role1 role2
    role3 shed) :=
  fun _ => Nat.le_of_ble_eq_true rfl

theorem restart : Statement (.restart) :=
  fun _ => Nat.le_of_ble_eq_true rfl

theorem shedAssertion : Statement (.shedAssertion) :=
  fun _ => Nat.le_of_ble_eq_true rfl

theorem shedDeassertion : Statement (.shedDeassertion) :=
  fun _ => Nat.le_of_ble_eq_true rfl

theorem minuteExpiry : Statement (.minuteExpiry) :=
  fun _ => Nat.le_of_ble_eq_true rfl

theorem grantTimeout : Statement (.grantTimeout) :=
  fun _ => Nat.le_of_ble_eq_true rfl

theorem liftOverdue : Statement (.liftOverdue) :=
  fun _ => Nat.le_of_ble_eq_true rfl

theorem scanTimerExpiry : Statement (.scanTimerExpiry) :=
  fun _ => Nat.le_of_ble_eq_true rfl

theorem conversionCompletion (raw : BitVec 12) : Statement (.conversionCompletion raw) :=
  fun _ => Nat.le_of_ble_eq_true rfl

theorem byteReceived (p : PortId) (b : Byte) : Statement (.byteReceived p b) :=
  fun _ => Nat.le_of_ble_eq_true rfl

theorem characterSilenceTimeout (p : PortId) : Statement (.characterSilenceTimeout p) :=
  fun _ => Nat.le_of_ble_eq_true rfl

theorem breakEnd (p : PortId) : Statement (.breakEnd p) :=
  fun _ => Nat.le_of_ble_eq_true rfl

theorem frameCompletion (p : PortId) (tag kind : Byte) (body : List Byte) (check : BitVec 16) : Statement
    (.frameCompletion p tag kind body check) :=
  fun _ => Nat.zero_le _

theorem responseSent (p : PortId) : Statement (.responseSent p) :=
  fun _ => Nat.le_of_ble_eq_true rfl

theorem linkUpdateDone : Statement (.linkUpdateDone) :=
  fun _ => Nat.le_of_ble_eq_true rfl

theorem lineTurnaround (p : PortId) : Statement (.lineTurnaround p) :=
  fun _ => Nat.le_of_ble_eq_true rfl

theorem readClock (p : PortId) (tag : Byte) : Statement (.readClock p tag) :=
  fun _ => Nat.le_of_ble_eq_true rfl

theorem setClock (p : PortId) (tag : Byte) (yardMinute : Int) : Statement (.setClock p tag yardMinute) :=
  fun _ => Nat.le_of_ble_eq_true rfl

theorem readMap (p : PortId) (tag : Byte) (kind number port : Nat) : Statement (.readMap p tag kind number
    port) :=
  fun _ => Nat.le_of_ble_eq_true rfl

theorem defineBed (p : PortId) (tag : Byte) (bed action firstBay lastBay rated guard bound : Nat) :
    Statement (.defineBed p tag bed action firstBay lastBay rated guard bound) :=
  fun _ => Nat.le_of_ble_eq_true rfl

theorem defineStack (p : PortId) (tag : Byte) (stack action bay kind tierLimit openFlag : Nat) : Statement
    (.defineStack p tag stack action bay kind tierLimit openFlag) :=
  fun _ => Nat.le_of_ble_eq_true rfl

theorem setStackOpen (p : PortId) (tag : Byte) (stack openFlag : Nat) : Statement (.setStackOpen p tag
    stack openFlag) :=
  fun _ => Nat.le_of_ble_eq_true rfl

theorem loadCrane (p : PortId) (tag : Byte) (crane action bound low high rating capacity : Nat) :
    Statement (.loadCrane p tag crane action bound low high rating capacity) :=
  fun _ => Nat.le_of_ble_eq_true rfl

theorem defineClass (p : PortId) (tag : Byte) (cls action stripTarget stripAge shipTarget shipAge : Nat) :
    Statement (.defineClass p tag cls action stripTarget stripAge shipTarget shipAge) :=
  fun _ => Nat.le_of_ble_eq_true rfl

theorem setLimits (p : PortId) (tag : Byte) (limit shedLimit baseLoad : Nat) : Statement (.setLimits p tag
    limit shedLimit baseLoad) :=
  fun _ => Nat.le_of_ble_eq_true rfl

theorem setConfig (p : PortId) (tag : Byte) (value port : Nat) (setting : Int) : Statement (.setConfig p
    tag value port setting) :=
  fun _ => Nat.le_of_ble_eq_true rfl

theorem loadPiece (p : PortId) (tag : Byte) (id cls mass count age stack reasonGiven reason : Nat) :
    Statement (.loadPiece p tag id cls mass count age stack reasonGiven reason) :=
  fun _ => Nat.le_of_ble_eq_true rfl

theorem loadBedState (p : PortId) (tag : Byte) (bed cycle count pourAge target minAge : Nat) (profile :
    Profile) (phase : Nat) (setpoint : Int) (entries : List PieceEntry) : Statement (.loadBedState p tag
    bed cycle count pourAge target minAge profile phase setpoint entries) := by
  intro h
  have h1 := of_decide_eq_true (Bool.and_eq_true_iff.mp (Bool.and_eq_true_iff.mp h).2).2
  have h2 := putEntries_length entries
  show (_ ++ putEntries entries).length ≤ 240
  rw [List.length_append, h2]
  have h3 : ([put1 bed, put1 cycle] ++ put4 count ++ put4 pourAge ++ put2 target ++ put2 minAge
      ++ putProfile profile ++ [put1 phase] ++ putS2 setpoint).length = 30 := rfl
  rw [h3]
  unfold maxBody at h1
  omega

theorem commit (p : PortId) (tag : Byte) : Statement (.commit p tag) :=
  fun _ => Nat.le_of_ble_eq_true rfl

theorem defineProbe (p : PortId) (tag : Byte) (channel assignment bed enabled rawLo : Nat) (tLo : Int)
    (rawHi : Nat) (tHi : Int) : Statement (.defineProbe p tag channel assignment bed enabled rawLo tLo
    rawHi tHi) :=
  fun _ => Nat.le_of_ble_eq_true rfl

theorem readProbe (p : PortId) (tag : Byte) (channel : Nat) : Statement (.readProbe p tag channel) :=
  fun _ => Nat.le_of_ble_eq_true rfl

theorem clearProbeTally (p : PortId) (tag : Byte) (mask overrun : Nat) : Statement (.clearProbeTally p tag
    mask overrun) :=
  fun _ => Nat.le_of_ble_eq_true rfl

theorem scanNow (p : PortId) (tag : Byte) : Statement (.scanNow p tag) :=
  fun _ => Nat.le_of_ble_eq_true rfl

theorem abortScan (p : PortId) (tag : Byte) : Statement (.abortScan p tag) :=
  fun _ => Nat.le_of_ble_eq_true rfl

theorem readScan (p : PortId) (tag : Byte) : Statement (.readScan p tag) :=
  fun _ => Nat.le_of_ble_eq_true rfl

theorem setProfile (p : PortId) (tag : Byte) (mask : Nat) (profile : Profile) : Statement (.setProfile p
    tag mask profile) :=
  fun _ => Nat.le_of_ble_eq_true rfl

theorem readProfile (p : PortId) (tag : Byte) (bed : Nat) : Statement (.readProfile p tag bed) :=
  fun _ => Nat.le_of_ble_eq_true rfl

theorem readBudget (p : PortId) (tag : Byte) : Statement (.readBudget p tag) :=
  fun _ => Nat.le_of_ble_eq_true rfl

theorem bedSet (p : PortId) (tag : Byte) (bed : Nat) : Statement (.bedSet p tag bed) :=
  fun _ => Nat.le_of_ble_eq_true rfl

theorem cancelSet (p : PortId) (tag : Byte) (bed : Nat) : Statement (.cancelSet p tag bed) :=
  fun _ => Nat.le_of_ble_eq_true rfl

theorem pourStart (p : PortId) (tag : Byte) (bed : Nat) : Statement (.pourStart p tag bed) :=
  fun _ => Nat.le_of_ble_eq_true rfl

theorem pourEnd (p : PortId) (tag : Byte) (bed : Nat) (entries : List PieceEntry) : Statement (.pourEnd p
    tag bed entries) := by
  intro h
  have h1 := of_decide_eq_true (Bool.and_eq_true_iff.mp (Bool.and_eq_true_iff.mp h).2).2
  have h2 := putEntries_length entries
  show (put1 bed :: putEntries entries).length ≤ 240
  rw [List.length_cons, h2]
  unfold maxBody at h1
  omega

theorem detensionRequest (p : PortId) (tag : Byte) (bed : Nat) : Statement (.detensionRequest p tag bed)
    :=
  fun _ => Nat.le_of_ble_eq_true rfl

theorem detensionDone (p : PortId) (tag : Byte) (bed : Nat) : Statement (.detensionDone p tag bed) :=
  fun _ => Nat.le_of_ble_eq_true rfl

theorem abandonBed (p : PortId) (tag : Byte) (bed : Nat) : Statement (.abandonBed p tag bed) :=
  fun _ => Nat.le_of_ble_eq_true rfl

theorem readBed (p : PortId) (tag : Byte) (bed : Nat) : Statement (.readBed p tag bed) :=
  fun _ => Nat.le_of_ble_eq_true rfl

theorem setHold (p : PortId) (tag : Byte) (id reason : Nat) : Statement (.setHold p tag id reason) :=
  fun _ => Nat.le_of_ble_eq_true rfl

theorem clearHold (p : PortId) (tag : Byte) (id : Nat) : Statement (.clearHold p tag id) :=
  fun _ => Nat.le_of_ble_eq_true rfl

theorem deletePiece (p : PortId) (tag : Byte) (id : Nat) : Statement (.deletePiece p tag id) :=
  fun _ => Nat.le_of_ble_eq_true rfl

theorem shipDispatch (p : PortId) (tag : Byte) (stack : Nat) : Statement (.shipDispatch p tag stack) :=
  fun _ => Nat.le_of_ble_eq_true rfl

theorem readPiece (p : PortId) (tag : Byte) (id : Nat) : Statement (.readPiece p tag id) :=
  fun _ => Nat.le_of_ble_eq_true rfl

theorem readStack (p : PortId) (tag : Byte) (stack : Nat) : Statement (.readStack p tag stack) :=
  fun _ => Nat.le_of_ble_eq_true rfl

theorem requestMove (p : PortId) (tag : Byte) (kind id dest : Nat) : Statement (.requestMove p tag kind id
    dest) :=
  fun _ => Nat.le_of_ble_eq_true rfl

theorem cancelMove (p : PortId) (tag : Byte) (slot id : Nat) : Statement (.cancelMove p tag slot id) :=
  fun _ => Nat.le_of_ble_eq_true rfl

theorem readMove (p : PortId) (tag : Byte) (slot : Nat) : Statement (.readMove p tag slot) :=
  fun _ => Nat.le_of_ble_eq_true rfl

theorem nextMove (p : PortId) (tag : Byte) (crane bay : Nat) : Statement (.nextMove p tag crane bay) :=
  fun _ => Nat.le_of_ble_eq_true rfl

theorem lifted (p : PortId) (tag : Byte) (crane slot id : Nat) : Statement (.lifted p tag crane slot id)
    :=
  fun _ => Nat.le_of_ble_eq_true rfl

theorem placed (p : PortId) (tag : Byte) (crane slot : Nat) : Statement (.placed p tag crane slot) :=
  fun _ => Nat.le_of_ble_eq_true rfl

theorem abortMove (p : PortId) (tag : Byte) (crane slot stackGiven stack : Nat) : Statement (.abortMove p
    tag crane slot stackGiven stack) :=
  fun _ => Nat.le_of_ble_eq_true rfl

theorem setMode (p : PortId) (tag : Byte) (mode lock : Nat) : Statement (.setMode p tag mode lock) :=
  fun _ => Nat.le_of_ble_eq_true rfl

theorem readCrane (p : PortId) (tag : Byte) (crane : Nat) : Statement (.readCrane p tag crane) :=
  fun _ => Nat.le_of_ble_eq_true rfl

theorem readAlerts (p : PortId) (tag : Byte) : Statement (.readAlerts p tag) :=
  fun _ => Nat.le_of_ble_eq_true rfl

theorem setAlertMask (p : PortId) (tag : Byte) (mask : Nat) : Statement (.setAlertMask p tag mask) :=
  fun _ => Nat.le_of_ble_eq_true rfl

theorem freezeBeds (p : PortId) (tag : Byte) (mask : Nat) : Statement (.freezeBeds p tag mask) :=
  fun _ => Nat.le_of_ble_eq_true rfl

theorem unfreeze (p : PortId) (tag : Byte) : Statement (.unfreeze p tag) :=
  fun _ => Nat.le_of_ble_eq_true rfl

theorem readPort (p : PortId) (tag : Byte) (port : Nat) : Statement (.readPort p tag port) :=
  fun _ => Nat.le_of_ble_eq_true rfl

theorem setCounter (p : PortId) (tag : Byte) (counter selection filterKind filterNumber freezeEnable
    preloadGiven preload : Nat) : Statement (.setCounter p tag counter selection filterKind filterNumber
    freezeEnable preloadGiven preload) :=
  fun _ => Nat.le_of_ble_eq_true rfl

theorem readCounters (p : PortId) (tag : Byte) : Statement (.readCounters p tag) :=
  fun _ => Nat.le_of_ble_eq_true rfl

theorem unfreezeCounters (p : PortId) (tag : Byte) : Statement (.unfreezeCounters p tag) :=
  fun _ => Nat.le_of_ble_eq_true rfl

theorem clearOverflow (p : PortId) (tag : Byte) (mask : Nat) : Statement (.clearOverflow p tag mask) :=
  fun _ => Nat.le_of_ble_eq_true rfl

theorem resetCounters (p : PortId) (tag : Byte) : Statement (.resetCounters p tag) :=
  fun _ => Nat.le_of_ble_eq_true rfl

theorem resetCounterSelect (p : PortId) (tag : Byte) : Statement (.resetCounterSelect p tag) :=
  fun _ => Nat.le_of_ble_eq_true rfl

end Sys2Proof.Laws.Wire
end

