-- ==== Sys2Proof/Laws/Traffic.lean ====
section
/-! SUPPORT. What the operations that beds, moves and cranes share can do: an allocation, a move leaving the
table or returning to QUEUED, a crane becoming IDLE, a bed returning to EMPTY. -/

namespace Sys2Proof.Machine

/-! ### An allocation -/

/-- An allocation writes the curtailed flags of the beds, the budget's grants, levels, minute and link, and
raises CURTAILED when a bed is curtailed; the counters are shown each curtailment and the granted heat. -/
theorem allocate_eq (e : Event) :
    allocate e =
      { st := e.st.writeAllocation.raiseIf (!e.st.writeAllocation.curtailedBeds.isEmpty) .curtailed
        seen := e.seen ++ e.st.writeAllocation.curtailedBeds.map .curtailment ++
          [.grantedHeat e.st.allotment] } := rfl

/-- In LOADING no allocation is taken. -/
theorem allocateRunning_loading {e : Event} (h : e.st.ctl = .loading) : allocateRunning e = e := by
  simp [allocateRunning, h]

/-- In RUNNING the allocation is taken. -/
theorem allocateRunning_running {e : Event} (h : e.st.ctl = .running) :
    allocateRunning e = allocate e := by
  simp [allocateRunning, h]

section Allocation

variable (e : Event)

@[simp] theorem allocate_ctl : (allocate e).st.ctl = e.st.ctl := by simp [allocate_eq, State.writeAllocation]
@[simp] theorem allocate_clock : (allocate e).st.clock = e.st.clock := by
  simp [allocate_eq, State.writeAllocation]
@[simp] theorem allocate_limits : (allocate e).st.limits = e.st.limits := by
  simp [allocate_eq, State.writeAllocation]
@[simp] theorem allocate_settings : (allocate e).st.settings = e.st.settings := by
  simp [allocate_eq, State.writeAllocation]
@[simp] theorem allocate_classes : (allocate e).st.classes = e.st.classes := by
  simp [allocate_eq, State.writeAllocation]
@[simp] theorem allocate_profiles : (allocate e).st.profiles = e.st.profiles := by
  simp [allocate_eq, State.writeAllocation]
@[simp] theorem allocate_stackSlots : (allocate e).st.stackSlots = e.st.stackSlots := by
  simp [allocate_eq, State.writeAllocation]
@[simp] theorem allocate_cranes : (allocate e).st.cranes = e.st.cranes := by
  simp [allocate_eq, State.writeAllocation]
@[simp] theorem allocate_scan : (allocate e).st.scan = e.st.scan := by
  simp [allocate_eq, State.writeAllocation]
@[simp] theorem allocate_pieces : (allocate e).st.pieces = e.st.pieces := by
  simp [allocate_eq, State.writeAllocation]
@[simp] theorem allocate_moves : (allocate e).st.moves = e.st.moves := by
  simp [allocate_eq, State.writeAllocation]
@[simp] theorem allocate_arbiter : (allocate e).st.arbiter = e.st.arbiter := by
  simp [allocate_eq, State.writeAllocation]
@[simp] theorem allocate_counters : (allocate e).st.counters = e.st.counters := by
  simp [allocate_eq, State.writeAllocation]
@[simp] theorem allocate_freeReads : (allocate e).st.freeReads = e.st.freeReads := by
  simp [allocate_eq, State.writeAllocation]
@[simp] theorem allocate_pending : (allocate e).st.pending = e.st.pending := by
  simp [allocate_eq, State.writeAllocation]
@[simp] theorem allocate_granted : (allocate e).st.budget.granted = e.st.allotment := by
  simp [allocate_eq, State.writeAllocation]
@[simp] theorem allocate_shed : (allocate e).st.budget.shed = e.st.budget.shed := by
  simp [allocate_eq, State.writeAllocation]
@[simp] theorem allocate_lastAllocation :
    (allocate e).st.budget.lastAllocation = some e.st.now := by
  simp [allocate_eq, State.writeAllocation]

/-- An allocation writes only the curtailed flag of a bed. -/
theorem allocate_bed (b : BedId) :
    (allocate e).st.bed b = (e.st.bed b).map (Bed.markCurtailed (e.st.allotment)[b]) := by
  simp [allocate_eq, State.writeAllocation, State.bed]

end Allocation

/-! ### Moves and cranes -/

/-- A drop does nothing to a free slot or a move in motion, and takes a QUEUED move out of the table with
MOVE_DROPPED raised toward its requester. -/
theorem dropMove_cases (i : SlotId) (s : State) :
    dropMove i s = s ∨
      ∃ m, s.move i = some m ∧ m.progress = .queued ∧
        dropMove i s = (leaveTable i m s).raise .moveDropped (s.towardMove m) := by
  unfold dropMove
  split
  · exact .inl rfl
  · next m h =>
    split
    · next hq => exact .inr ⟨m, h, (Move.isQueued_iff m).mp hq, rfl⟩
    · exact .inl rfl

/-- A move that leaves the table frees its slot alone. -/
theorem leaveTable_move (i j : SlotId) (m : Move) (s : State) :
    (leaveTable i m s).move j = if i = j then none else s.move j :=
  State.setMove_move s i j none

@[simp] theorem leaveTable_beds (i : SlotId) (m : Move) (s : State) :
    (leaveTable i m s).beds = s.beds := rfl
@[simp] theorem leaveTable_stackSlots (i : SlotId) (m : Move) (s : State) :
    (leaveTable i m s).stackSlots = s.stackSlots := rfl
@[simp] theorem leaveTable_cranes (i : SlotId) (m : Move) (s : State) :
    (leaveTable i m s).cranes = s.cranes := rfl
@[simp] theorem leaveTable_ports (i : SlotId) (m : Move) (s : State) :
    (leaveTable i m s).ports = s.ports := rfl
@[simp] theorem leaveTable_budget (i : SlotId) (m : Move) (s : State) :
    (leaveTable i m s).budget = s.budget := rfl

/-- A move that returns to QUEUED keeps the rest of its record, and no other slot changes. -/
theorem requeue_move (i j : SlotId) (m : Move) (g : Grant) (s : State) :
    (requeue i m g s).move j = if i = j then some { m with progress := .queued } else s.move j :=
  State.setMove_move s i j _

/-- The crane of a move that returns to QUEUED is IDLE without a reservation, and no other crane changes. -/
theorem requeue_crane (i : SlotId) (m : Move) (g : Grant) (s : State) (k : CraneId) :
    (requeue i m g s).crane k =
      if g.crane = k then { s.crane k with held := none, reservation := none } else s.crane k := by
  unfold requeue idleCrane
  rw [State.modCrane_crane]
  split
  · next h => subst h; rfl
  · rfl

@[simp] theorem requeue_beds (i : SlotId) (m : Move) (g : Grant) (s : State) :
    (requeue i m g s).beds = s.beds := rfl
@[simp] theorem requeue_pieces (i : SlotId) (m : Move) (g : Grant) (s : State) :
    (requeue i m g s).pieces = s.pieces := rfl
@[simp] theorem requeue_ports (i : SlotId) (m : Move) (g : Grant) (s : State) :
    (requeue i m g s).ports = s.ports := rfl
@[simp] theorem requeue_budget (i : SlotId) (m : Move) (g : Grant) (s : State) :
    (requeue i m g s).budget = s.budget := rfl
@[simp] theorem requeue_seq (i : SlotId) (m : Move) (g : Grant) (s : State) :
    (requeue i m g s).moves.seq = s.moves.seq := rfl
@[simp] theorem requeue_charged (i : SlotId) (m : Move) (g : Grant) (s : State) :
    (requeue i m g s).moves.charged = s.moves.charged := rfl

/-! ### Beds returning to EMPTY -/

/-- After a piece has left a bed's list, either nothing more happens or the bed returns to EMPTY with an
allocation in RUNNING. -/
theorem settleBed_cases (b : BedId) (e : Event) :
    (e.st.emptiesNow b = false ∧ settleBed b e = e) ∨
      (e.st.emptiesNow b = true ∧ settleBed b e = allocateRunning (e.upd (returnToEmpty b))) := by
  unfold settleBed
  split
  · next h => exact .inr ⟨h, rfl⟩
  · next h => exact .inl ⟨by simpa using h, rfl⟩

/-- A judged expiry takes an allocation exactly when a grant has timed out in RUNNING. -/
theorem judgeGrants_cases (e : Event) :
    judgeGrants e = e ∨
      (e.st.ctl = .running ∧ e.st.anyTimedOut = true ∧
        judgeGrants e = allocate ((List.finRange 64).foldl revoke e)) := by
  unfold judgeGrants
  split
  · exact .inl rfl
  · next h =>
    split
    · next ht => exact .inr ⟨h, ht, rfl⟩
    · exact .inl rfl

end Sys2Proof.Machine
end

