-- ==== Sys2Proof/Tests/Slice0.lean ====
section
/-! SUPPORT. The model's own tests: ill-formed commands refused, codes and figures of the specification's
worked examples, and for every statement with hypotheses a concrete state that meets them. -/

namespace Sys2Proof.Tests

open Sys2Proof Sys2Proof.Machine

-- One theorem at a time: the kernel's evaluations would else wait on one another, each on its own thread.
set_option Elab.async false

/-! ### A yard at work: the state of the witnesses -/

/-- A piece of class 0, cast 600 minutes before run minute 0 and ready to ship. -/
def aPiece (id : Nat) (st : PieceState) (l : Location) (mv : Option SlotId) : Piece where
  id := id
  cls := 0
  mass := 10
  castMinute := -600
  shipTarget := 0
  shipAge := 0
  state := st
  location := l
  hold := none
  shipReady := true
  move := mv
  count := 0
  last := some 90
  gap := false

/-- A bed of twenty bays with a LIVE aggregate of 20.0 to 30.0 degrees. -/
def aBed (first : Nat) (bound : Option PortId) (c : CycleState) (ids : List Nat) (ph : Phase) : Bed where
  defn := ⟨first, first + 9, 400, 100, bound⟩
  cycle := ⟨c, ids, if ids = [] then none else some ⟨0, 0, 40⟩, none⟩
  maturity := if ids = [] then ⟨0, none, false, 0⟩ else ⟨500, some 90, false, 0⟩
  heat :=
    ⟨if ids = [] then none else some defaultProfile, ph, if ids = [] then none else some 450, 0, 0, 0,
      false, false, false⟩
  agg := ⟨some 200, some 300, .live, 0, 3⟩

/-- A move of a piece from a stack to a stack, requested by P0. -/
def aMove (id : Nat) (src : Source) (dest : StackId) (seq : Word32) (g : Progress) : Move :=
  ⟨.restack, id, src, dest, 0, seq, g⟩

/-- A VALID probe of an assignment that reads 20.0 degrees. -/
def aProbe (a : Assignment) : Probe :=
  ⟨a, true, 1, -400, 4094, 950, some 200, .valid, 0, 0, some 3, true⟩

/-- The grant that crane 1 holds. -/
def grant1 : Grant := ⟨1, 95, 50, 82, 83, 2⟩

/-- The grant that crane 2 holds. -/
def grant2 : Grant := ⟨2, 80, 50, 90, 94, 2⟩

/-- RUNNING at minute 100: beds in every cycle state, moves in every state, and two cranes at work. -/
def yard : State :=
  { State.reset with
    ctl := .running
    clock := ⟨100, 0, true⟩
    limits := ⟨1000, 600, 100⟩
    classes := State.reset.classes.set 0 (some ⟨100, 600, 200, 10⟩)
    beds := ((((((((State.reset.beds.set 0 (some (aBed 0 (some 1) .stripping [7, 8] .off))).set 1
      (some (aBed 100 none .curing [9] .ramp))).set 2 (some (aBed 110 none .releasable [10] .cool))).set 3
      (some (aBed 120 (some 1) .set [] .off))).set 4 (some (aBed 130 none .empty [] .off))).set 5
      (some (aBed 140 (some 1) .casting [] .off))).set 6 (some (aBed 150 none .detensioning [11] .off))).set 7
      (some (aBed 160 none .curing [12] .preset)))
    stackSlots := (((((State.reset.stackSlots.set 0 (some ⟨⟨20, .stock, 6, true⟩, [1, 2, 3], 0⟩)).set 1
      (some ⟨⟨81, .dispatch, 6, true⟩, [4], 0⟩)).set 2 (some ⟨⟨82, .stock, 6, true⟩, [], 1⟩)).set 3
      (some ⟨⟨83, .stock, 6, true⟩, [5], 0⟩)).set 4 (some ⟨⟨90, .stock, 3, true⟩, [], 1⟩))
    cranes := #v[⟨some ⟨2, 0, 255, 100, 1000⟩, none, none, some ⟨9, 1, 0, 1, .placed⟩, none⟩,
      ⟨some ⟨2, 0, 255, 50, 1000⟩, some ⟨2, 1, .stack 3 83 1⟩, some 83, none, some ⟨50, 2⟩⟩,
      ⟨some ⟨2, 0, 255, 50, 1000⟩, some ⟨3, 1, .stack 3 83 2⟩, some 90, none, some ⟨50, 3⟩⟩,
      ⟨none, none, none, none, none⟩]
    scan :=
      { State.reset.scan with
        probes := (State.reset.scan.probes.set 5 (aProbe (.bed 1))).set 9 (aProbe .yard)
        number := 3
        yard := ⟨some 100, .live, 0⟩ }
    pieces := [aPiece 1 .stocked (.stack 0) none, aPiece 2 .stocked (.stack 0) none,
      aPiece 3 .stocked (.stack 0) (some 1), aPiece 4 .dispatchStaged (.stack 1) none,
      aPiece 5 .stocked (.stack 3) (some 2), aPiece 6 .inTransit (.crane 2) (some 3),
      aPiece 7 .strippable (.bed 0) (some 0), aPiece 8 .strippable (.bed 0) none,
      aPiece 9 .onBed (.bed 1) none, aPiece 10 .onBed (.bed 2) none, aPiece 11 .onBed (.bed 6) none,
      aPiece 12 .onBed (.bed 7) none]
    moves :=
      ⟨(((State.reset.moves.slots.set 0
        (some ⟨.strip, 7, .bed 0, 0, 1, 1, .queued⟩)).set 1
        (some (aMove 3 (.stack 0) 2 2 .queued))).set 2
        (some (aMove 5 (.stack 3) 2 3 (.granted grant1)))).set 3
        (some (aMove 6 (.stack 3) 4 4 (.lifted grant2 85 false))), 4, #v[3, 1, 0, 0]⟩ }

/-- The yard with a scan in flight on channel 5, and 9 to follow. -/
def scanning : State := { yard with scan := { yard.scan with inFlight := some 5 } }

/-- The yard with a scan in flight on channel 9, the last of its set. -/
def finishing : State := { yard with scan := { yard.scan with inFlight := some 9 } }

/-- The yard before its COMMIT: LOADING, with the beds EMPTY and nothing in the stacks. -/
def loading : State :=
  { State.reset with
    limits := yard.limits
    classes := yard.classes
    beds := State.reset.beds.set 4 (some (aBed 130 none .empty [] .off))
    stackSlots := (State.reset.stackSlots.set 0 (some ⟨⟨20, .stock, 6, true⟩, [], 0⟩)).set 1
      (some ⟨⟨81, .dispatch, 6, true⟩, [], 0⟩) }


/-! ### Ill-formed commands: every field beyond its width is refused, one field at a time -/

/-- Ill-formed commands of the map family. -/
def illFormed_map : List Instr :=
  [
    .setClock 0 0 2147483648, .setClock 0 0 (-2147483649), .readMap 0 0 256 0 0, .readMap 0 0 0 256 0,
    .readMap 0 0 0 0 256, .defineBed 0 0 256 0 0 0 0 0 0, .defineBed 0 0 0 256 0 0 0 0 0,
    .defineBed 0 0 0 0 256 0 0 0 0, .defineBed 0 0 0 0 0 256 0 0 0, .defineBed 0 0 0 0 0 0 65536 0 0,
    .defineBed 0 0 0 0 0 0 0 65536 0, .defineBed 0 0 0 0 0 0 0 0 256, .defineStack 0 0 256 0 0 0 0 0,
    .defineStack 0 0 0 256 0 0 0 0, .defineStack 0 0 0 0 256 0 0 0, .defineStack 0 0 0 0 0 256 0 0,
    .defineStack 0 0 0 0 0 0 256 0, .defineStack 0 0 0 0 0 0 0 256, .setStackOpen 0 0 256 0,
    .setStackOpen 0 0 0 256, .loadCrane 0 0 256 0 0 0 0 0 0, .loadCrane 0 0 0 256 0 0 0 0 0,
    .loadCrane 0 0 0 0 256 0 0 0 0, .loadCrane 0 0 0 0 0 256 0 0 0, .loadCrane 0 0 0 0 0 0 256 0 0,
    .loadCrane 0 0 0 0 0 0 0 65536 0, .loadCrane 0 0 0 0 0 0 0 0 65536, .defineClass 0 0 256 0 0 0 0 0,
    .defineClass 0 0 0 256 0 0 0 0, .defineClass 0 0 0 0 65536 0 0 0, .defineClass 0 0 0 0 0 65536 0 0,
    .defineClass 0 0 0 0 0 0 65536 0, .defineClass 0 0 0 0 0 0 0 65536, .setLimits 0 0 65536 0 0,
    .setLimits 0 0 0 65536 0, .setLimits 0 0 0 0 65536, .setConfig 0 0 256 0 0, .setConfig 0 0 0 256 0,
    .setConfig 0 0 0 0 32768, .setConfig 0 0 0 0 (-32769), .loadPiece 0 0 65536 0 0 0 0 0 0 0,
    .loadPiece 0 0 0 256 0 0 0 0 0 0, .loadPiece 0 0 0 0 65536 0 0 0 0 0,
    .loadPiece 0 0 0 0 0 4294967296 0 0 0 0, .loadPiece 0 0 0 0 0 0 4294967296 0 0 0,
    .loadPiece 0 0 0 0 0 0 0 256 0 0, .loadPiece 0 0 0 0 0 0 0 0 256 0, .loadPiece 0 0 0 0 0 0 0 0 0 256,
    .loadBedState 0 0 256 0 0 0 0 0 defaultProfile 0 0 [],
    .loadBedState 0 0 0 256 0 0 0 0 defaultProfile 0 0 [],
    .loadBedState 0 0 0 0 4294967296 0 0 0 defaultProfile 0 0 [],
    .loadBedState 0 0 0 0 0 4294967296 0 0 defaultProfile 0 0 [],
    .loadBedState 0 0 0 0 0 0 65536 0 defaultProfile 0 0 [],
    .loadBedState 0 0 0 0 0 0 0 65536 defaultProfile 0 0 [],
    .loadBedState 0 0 0 0 0 0 0 0 { defaultProfile with preset := 65536 } 0 0 [],
    .loadBedState 0 0 0 0 0 0 0 0 { defaultProfile with rampRate := 65536 } 0 0 [],
    .loadBedState 0 0 0 0 0 0 0 0 { defaultProfile with holdTemp := 65536 } 0 0 [],
    .loadBedState 0 0 0 0 0 0 0 0 { defaultProfile with coolRate := 65536 } 0 0 [],
    .loadBedState 0 0 0 0 0 0 0 0 { defaultProfile with bandLow := 256 } 0 0 [],
    .loadBedState 0 0 0 0 0 0 0 0 { defaultProfile with bandHigh := 256 } 0 0 [],
    .loadBedState 0 0 0 0 0 0 0 0 { defaultProfile with step := 256 } 0 0 [],
    .loadBedState 0 0 0 0 0 0 0 0 { defaultProfile with ceiling := 65536 } 0 0 [],
    .loadBedState 0 0 0 0 0 0 0 0 defaultProfile 256 0 [],
    .loadBedState 0 0 0 0 0 0 0 0 defaultProfile 0 32768 [],
    .loadBedState 0 0 0 0 0 0 0 0 defaultProfile 0 (-32769) [],
    .loadBedState 0 0 0 0 0 0 0 0 defaultProfile 0 0 [⟨65536, 0, 0⟩],
    .loadBedState 0 0 0 0 0 0 0 0 defaultProfile 0 0 [⟨0, 256, 0⟩],
    .loadBedState 0 0 0 0 0 0 0 0 defaultProfile 0 0 [⟨0, 0, 65536⟩],
    .loadBedState 0 0 0 0 0 0 0 0 defaultProfile 0 0 (List.replicate 48 ⟨0, 0, 0⟩)]

theorem test_illFormed_map_refused : illFormed_map.all (fun i => !i.wellFormed) = true := by decide

theorem test_wellFormed_map_kept :
    ([
    .setClock 0 0 0, .readMap 0 0 0 0 0, .defineBed 0 0 0 0 0 0 0 0 0, .defineStack 0 0 0 0 0 0 0 0,
    .setStackOpen 0 0 0 0, .loadCrane 0 0 0 0 0 0 0 0 0, .defineClass 0 0 0 0 0 0 0 0,
    .setLimits 0 0 0 0 0, .setConfig 0 0 0 0 0, .loadPiece 0 0 0 0 0 0 0 0 0 0,
    .loadBedState 0 0 0 0 0 0 0 0 defaultProfile 0 0 []] : List Instr).all Instr.wellFormed = true := by decide

/-- Ill-formed commands of the scanAndHeat family. -/
def illFormed_scanAndHeat : List Instr :=
  [
    .defineProbe 0 0 256 0 0 0 0 0 0 0, .defineProbe 0 0 0 256 0 0 0 0 0 0,
    .defineProbe 0 0 0 0 256 0 0 0 0 0, .defineProbe 0 0 0 0 0 256 0 0 0 0,
    .defineProbe 0 0 0 0 0 0 65536 0 0 0, .defineProbe 0 0 0 0 0 0 0 32768 0 0,
    .defineProbe 0 0 0 0 0 0 0 (-32769) 0 0, .defineProbe 0 0 0 0 0 0 0 0 65536 0,
    .defineProbe 0 0 0 0 0 0 0 0 0 32768, .defineProbe 0 0 0 0 0 0 0 0 0 (-32769), .readProbe 0 0 256,
    .clearProbeTally 0 0 18446744073709551616 0, .clearProbeTally 0 0 0 256,
    .setProfile 0 0 65536 defaultProfile, .setProfile 0 0 0 { defaultProfile with preset := 65536 },
    .setProfile 0 0 0 { defaultProfile with rampRate := 65536 },
    .setProfile 0 0 0 { defaultProfile with holdTemp := 65536 },
    .setProfile 0 0 0 { defaultProfile with coolRate := 65536 },
    .setProfile 0 0 0 { defaultProfile with bandLow := 256 },
    .setProfile 0 0 0 { defaultProfile with bandHigh := 256 },
    .setProfile 0 0 0 { defaultProfile with step := 256 },
    .setProfile 0 0 0 { defaultProfile with ceiling := 65536 }, .readProfile 0 0 256]

theorem test_illFormed_scanAndHeat_refused : illFormed_scanAndHeat.all (fun i => !i.wellFormed) = true := by decide

theorem test_wellFormed_scanAndHeat_kept :
    ([
    .defineProbe 0 0 0 0 0 0 0 0 0 0, .readProbe 0 0 0, .clearProbeTally 0 0 0 0,
    .setProfile 0 0 0 defaultProfile, .readProfile 0 0 0] : List Instr).all Instr.wellFormed = true := by decide

/-- Ill-formed commands of the beds family. -/
def illFormed_beds : List Instr :=
  [
    .bedSet 0 0 256, .cancelSet 0 0 256, .pourStart 0 0 256, .pourEnd 0 0 256 [],
    .pourEnd 0 0 0 [⟨65536, 0, 0⟩], .pourEnd 0 0 0 [⟨0, 256, 0⟩], .pourEnd 0 0 0 [⟨0, 0, 65536⟩],
    .pourEnd 0 0 0 (List.replicate 48 ⟨0, 0, 0⟩), .detensionRequest 0 0 256, .detensionDone 0 0 256,
    .abandonBed 0 0 256, .readBed 0 0 256]

theorem test_illFormed_beds_refused : illFormed_beds.all (fun i => !i.wellFormed) = true := by decide

theorem test_wellFormed_beds_kept :
    ([
    .bedSet 0 0 0, .cancelSet 0 0 0, .pourStart 0 0 0, .pourEnd 0 0 0 [], .detensionRequest 0 0 0,
    .detensionDone 0 0 0, .abandonBed 0 0 0, .readBed 0 0 0] : List Instr).all Instr.wellFormed = true := by decide

/-- Ill-formed commands of the pieces family. -/
def illFormed_pieces : List Instr :=
  [
    .setHold 0 0 65536 0, .setHold 0 0 0 256, .clearHold 0 0 65536, .deletePiece 0 0 65536,
    .shipDispatch 0 0 256, .readPiece 0 0 65536, .readStack 0 0 256]

theorem test_illFormed_pieces_refused : illFormed_pieces.all (fun i => !i.wellFormed) = true := by decide

theorem test_wellFormed_pieces_kept :
    ([
    .setHold 0 0 0 0, .clearHold 0 0 0, .deletePiece 0 0 0, .shipDispatch 0 0 0, .readPiece 0 0 0,
    .readStack 0 0 0] : List Instr).all Instr.wellFormed = true := by decide

/-- Ill-formed commands of the movesAndCranes family. -/
def illFormed_movesAndCranes : List Instr :=
  [
    .requestMove 0 0 256 0 0, .requestMove 0 0 0 65536 0, .requestMove 0 0 0 0 256, .cancelMove 0 0 256 0,
    .cancelMove 0 0 0 65536, .readMove 0 0 256, .nextMove 0 0 256 0, .nextMove 0 0 0 256,
    .lifted 0 0 256 0 0, .lifted 0 0 0 256 0, .lifted 0 0 0 0 65536, .placed 0 0 256 0, .placed 0 0 0 256,
    .abortMove 0 0 256 0 0 0, .abortMove 0 0 0 256 0 0, .abortMove 0 0 0 0 256 0,
    .abortMove 0 0 0 0 0 256, .setMode 0 0 256 0, .setMode 0 0 0 256, .readCrane 0 0 256]

theorem test_illFormed_movesAndCranes_refused : illFormed_movesAndCranes.all (fun i => !i.wellFormed) = true := by decide

theorem test_wellFormed_movesAndCranes_kept :
    ([
    .requestMove 0 0 0 0 0, .cancelMove 0 0 0 0, .readMove 0 0 0, .nextMove 0 0 0 0, .lifted 0 0 0 0 0,
    .placed 0 0 0 0, .abortMove 0 0 0 0 0 0, .setMode 0 0 0 0, .readCrane 0 0 0] : List Instr).all Instr.wellFormed = true := by decide

/-- Ill-formed commands of the portsAndCounters family. -/
def illFormed_portsAndCounters : List Instr :=
  [
    .setAlertMask 0 0 65536, .freezeBeds 0 0 65536, .readPort 0 0 256, .setCounter 0 0 256 0 0 0 0 0 0,
    .setCounter 0 0 0 256 0 0 0 0 0, .setCounter 0 0 0 0 256 0 0 0 0, .setCounter 0 0 0 0 0 256 0 0 0,
    .setCounter 0 0 0 0 0 0 256 0 0, .setCounter 0 0 0 0 0 0 0 256 0,
    .setCounter 0 0 0 0 0 0 0 0 4294967296, .clearOverflow 0 0 256]

theorem test_illFormed_portsAndCounters_refused : illFormed_portsAndCounters.all (fun i => !i.wellFormed) = true := by decide

theorem test_wellFormed_portsAndCounters_kept :
    ([
    .setAlertMask 0 0 0, .freezeBeds 0 0 0, .readPort 0 0 0, .setCounter 0 0 0 0 0 0 0 0 0,
    .clearOverflow 0 0 0] : List Instr).all Instr.wellFormed = true := by decide

/-- A frame whose body is longer than a length byte of 242 allows is refused. -/
theorem test_illFormed_frame_refused :
    (Instr.frameCompletion 0 0 0 (List.replicate 241 0) 0).wellFormed = false := by decide +kernel

/-! ### Codes and figures from the specification's own examples -/

/-- R175: over the nine bytes of the ASCII digits 1 to 9 the check sequence is 0x29B1. -/
theorem test_check_of_nine_digits :
    checkSequence [0x31, 0x32, 0x33, 0x34, 0x35, 0x36, 0x37, 0x38, 0x39] = 0x29B1#16 := by decide +kernel

/-- The calibration of the worked conversions of section 2.4: 410 at 0.0 and 3690 at 80.0 degrees. -/
def calibrated : Probe := { Probe.powerOn with rawLo := 410, tLo := 0, rawHi := 3690, tHi := 800 }

/-- Section 2.4: codes 2105, 382, 410 and 4094 give 413, −7, 0 and 899. -/
theorem test_conversions_of_the_manual :
    [2105, 382, 410, 4094].map (convert calibrated) = [413, -7, 0, 899] := by decide

/-- Section 2.4: an exact half is rounded away from zero with the lower temperature included. -/
theorem test_conversion_half_away_from_zero :
    convert { calibrated with rawLo := 1000, tLo := -100, rawHi := 3000, tHi := 100 } 1005 = -100 := by
  decide

/-- Section 2.4: 1187.5 is rounded and clamped to 950, and 4095 is a rail reading. -/
theorem test_conversion_clamps_and_rails :
    convert { calibrated with rawLo := 1000, tLo := 0, rawHi := 3000, tHi := 950 } 3500 = 950 ∧
      isRail 4095 = true ∧ isRail 4094 = false := by decide

/-- A table of sixteen slots with the figures of beds A to D first. -/
def four (a b c d : Nat) : Vector Nat 16 := #v[a, b, c, d, 0, 0, 0, 0, 0, 0, 0, 0, 0, 0, 0, 0]

/-- Section 5.6: the allocation at the scan result, at the second crane's grant and at the SHED edge. -/
theorem test_allocations_of_section_5_6 :
    grants (four 100 80 0 0) (four 400 300 350 200) 850 = four 287 217 219 125 ∧
      grants (four 100 80 0 0) (four 400 300 350 200) 670 = four 237 180 160 91 ∧
      grants (four 100 80 0 0) (four 400 300 350 200) 370 = four 153 119 62 35 := by decide

/-- Section 5.7: a guard set larger than the heat budget, and the budgets after each crane's PLACED. -/
theorem test_allocations_of_section_5_7 :
    grants (four 100 80 100 60) (four 140 80 100 60) 220 = four 65 51 64 38 ∧
      grants (four 100 80 100 60) (four 140 80 100 60) 370 = four 130 80 100 60 ∧
      grants (four 100 80 100 60) (four 140 80 100 60) 550 = four 140 80 100 60 := by decide

/-- Section 5.6: bed A, rated 500 kW and granted 287, has the level 146. -/
theorem test_level_of_section_5_6 :
    outputLevel (some { aBed 0 none .curing [9] .ramp with defn := ⟨0, 9, 500, 100, none⟩ }) 287 = 146 := by
  decide

/-- Section 3.6: 41.3 degrees over five minutes adds 2565, and 60 minutes of an 80-minute gap 30,780. -/
theorem test_contributions_of_section_3_6 :
    contribution (-100) (accountTemp (-100) 800 .live (some 413)) (period 1005 (some 1000)) = 2565 ∧
      contribution (-100) (accountTemp (-100) 800 .live (some 413)) (period 1630 (some 1550)) = 30780 ∧
      contribution (-100) (accountTemp (-100) 800 .blind (some 413)) (period 1520 (some 1515)) = 0 ∧
      periodCut 1630 (some 1550) = true ∧ periodCut 1005 (some 1000) = false := by decide

/-- A regulation record with a phase, a setpoint and a carry. -/
def inPhase (ph : Phase) (sp : Int) (carry : Nat) : Regulation :=
  { Regulation.idle with phase := ph, setpoint := some sp, carry := carry }

/-- Section 4.10: the ramp from 62 at 1125 and at 1130, and its entry into HOLD at 1340. -/
theorem test_ramp_of_section_4_10 :
    advance defaultProfile 5 (inPhase .ramp 62 0) = inPhase .ramp 74 30 ∧
      advance defaultProfile 5 (inPhase .ramp 74 30) = inPhase .ramp 87 0 ∧
      advance defaultProfile 5 (inPhase .ramp 599 30) = inPhase .hold 600 0 := by decide

/-- Section 4.10: the descents at 1800 and 1810, and the entry into OFF at 2205. -/
theorem test_cooling_of_section_4_10 :
    descend defaultProfile 5 (some (-80)) (-100) (inPhase .cool 600 0) = inPhase .cool 592 20 ∧
      descend defaultProfile 5 (some (-80)) (-100) (inPhase .cool 584 40) = inPhase .cool 575 0 ∧
      descend defaultProfile 5 (some (-80)) (-100) (inPhase .cool (-75) 0) = inPhase .off (-83) 0 := by decide

/-- R67: under a BLIND yard a setpoint above 0 stays in COOL and one at or below 0 leaves it under the default
datum; R54: a datum above 0 ends it too. -/
theorem test_cooling_under_a_blind_yard :
    descend defaultProfile 5 none (-100) (inPhase .cool 30 0) = inPhase .cool 22 20 ∧
      descend defaultProfile 5 none (-100) (inPhase .cool 8 0) = inPhase .off 0 0 ∧
      descend defaultProfile 5 none 50 (inPhase .cool 60 0) = inPhase .cool 52 20 ∧
      descend defaultProfile 5 none 50 (inPhase .cool 58 0) = inPhase .off 50 0 := by decide

/-- Section 4.10: base demand at 1150, at 1155 with the raise withheld, and at a HOLD result above the band. -/
theorem test_base_demand_of_section_4_10 :
    formBase defaultProfile 500 78 { inPhase .ramp 137 0 with base := 100 } = 120 ∧
      formBase defaultProfile 500 84 { inPhase .ramp 149 30 with base := 120, curtailed := true } = 120 ∧
      formBase defaultProfile 500 605 { inPhase .hold 600 0 with base := 120 } = 120 ∧
      formBase defaultProfile 500 612 { inPhase .hold 600 0 with base := 120 } = 100 := by decide

/-- Section 4.10: the frost flag is set at 48, stays at 65 and is cleared at 71. -/
theorem test_frost_of_section_4_10 :
    frostAfter 50 70 48 false = true ∧ frostAfter 50 70 65 true = true ∧
      frostAfter 50 70 71 true = false := by decide

/-- Section 11.4: a preload of 4,294,966,800 wraps at 848 to 352 with its overflow flag set. -/
theorem test_counter_of_section_11_4 :
    Counter.add [.grantedHeat (four 287 217 219 125)] ⟨.grantedHeat, .any, 4294966800, false, true⟩ =
      ⟨.grantedHeat, .any, 352, true, true⟩ := by decide

/-- Section 10.6: a POUR_END body with a list of two entries, its count before the entries. -/
theorem test_pourEnd_body :
    decodeBody 1 9 .pourEnd [3, 2, 0, 101, 4, 1, 0, 0, 102, 31, 0, 200] =
      some (.pourEnd 1 9 3 [⟨101, 4, 256⟩, ⟨102, 31, 200⟩]) ∧
    decodeBody 1 9 .pourEnd [3, 2, 0, 101, 4, 1, 0] = none := by decide

/-- Section 10.6: a SET_CONFIG body with a negative setting, most significant byte first. -/
theorem test_setConfig_body :
    decodeBody 0 1 .setConfig [4, 0, 0xFF, 0x9C] = some (.setConfig 0 1 4 0 (-100)) := by decide

/-- Section 10.6: codes that no kind bears. -/
theorem test_unknown_kinds :
    RequestKind.ofCode 0x00 = none ∧ RequestKind.ofCode 0x0E = none ∧ RequestKind.ofCode 0x66 = none ∧
      RequestKind.ofCode 0x27 = some .readBed := by decide

/-- The alert table of section 10.6: the default masks enable these kinds. -/
theorem test_default_masks :
    (defaultMask .bedside).getLsbD AlertKind.bedReleasable.num = true ∧
      (defaultMask .crane).getLsbD AlertKind.liftOverdue.num = true ∧
      (defaultMask .crane).getLsbD AlertKind.frost.num = false := by decide

/-- R16: right after power-on the clock is unset, and CLOCK_UNSET stands at the OFFICE port alone. -/
theorem test_reset_alerts :
    State.reset.clock.unset = true ∧ State.reset.alertLine 0 = true ∧ State.reset.alertLine 1 = false ∧
      State.reset.alertLine 2 = false := by decide

/-- R162: spans of 82 to 83 and 86 to 90 meet at a clearance of 2 on either side, and not one bay farther. -/
theorem test_spans_meet_by_their_clearances :
    widenedMeet 82 83 2 86 90 2 = true ∧ widenedMeet 82 83 2 88 90 2 = false := by decide

/-- R165 on the yard: crane 0 at bay 20 may take the strip of piece 7 alone, and at bay 90 nothing for the spans. -/
theorem test_eligibility_on_the_yard :
    (yard.eligibleMoves 0 ⟨2, 0, 255, 100, 1000⟩ 20).map (fun x => x.1) = [0] ∧
      yard.noneReason 0 ⟨2, 0, 255, 100, 1000⟩ 90 = .spanWait := by decide

/-- The next state of a command on a state. -/
def after (i : Instr) (s : State) : State :=
  match exec i s with
  | .next t => t
  | .fault _ => s
  | .refused _ => s

/-- R159, R164: crane 0 is granted slot 0 at tier 4 of stack 0, and its reservation is set. -/
theorem test_grant_on_the_yard :
    ((after (.nextMove 2 7 0 20) yard).crane 0).held = some ⟨0, 4, .bed 0 0 9⟩ ∧
      ((after (.nextMove 2 7 0 20) yard).crane 0).reservation = some ⟨100, 0⟩ := by decide +kernel

/-- R158, R156: a RESTART returns the grant of crane 1 and keeps its last bay; stack 2 gives up the place. -/
theorem test_restart_on_the_yard :
    (after .restart yard).move 2 = some (aMove 5 (.stack 3) 2 3 .queued) ∧
      (after .restart yard).crane 1 = ⟨some ⟨2, 0, 255, 50, 1000⟩, none, some 83, none, none⟩ ∧
      ((after .restart yard).stack 2).map (fun x => x.incoming) = some 0 ∧
      ((after .restart yard).stack 4).map (fun x => x.incoming) = some 1 := by decide +kernel

/-- R2, R154: with an offset of 1000, READ_MOVE of slot 3 stamps the lift of minute 85 as 1085, 15 ago. -/
theorem test_readMove_stamps :
    (({ yard with clock := ⟨100, 1000, false⟩ } : State).moveReport
      (aMove 6 (.stack 3) 4 4 (.lifted grant2 85 false))).liftStamp = some 1085 ∧
    (({ yard with clock := ⟨100, 1000, false⟩ } : State).moveReport
      (aMove 6 (.stack 3) 4 4 (.lifted grant2 85 false))).sinceLift = some 15 := by decide

/-- R152: the minute expiry at 100 revokes the grant of minute 95, and the lift of minute 85 is not overdue. -/
theorem test_expiry_on_the_yard :
    (after .minuteExpiry yard).move 2 = some (aMove 5 (.stack 3) 2 3 .queued) ∧
      (after .minuteExpiry yard).move 3 = yard.move 3 ∧
      ((after .minuteExpiry yard).port 0).alerts.getLsbD 10 = true := by decide +kernel

/-- R149: crane 2 sets piece 6 down on stack 4 at tier 1. -/
theorem test_placed_on_the_yard :
    ((after (.placed 2 7 2 3) yard).stack 4).map (fun x => (x.contents, x.incoming)) = some ([6], 0) ∧
      ((after (.placed 2 7 2 3) yard).crane 2).lastMove = some ⟨3, 6, 4, 1, .placed⟩ := by decide +kernel

/-- R148: crane 1 lifts piece 5 off stack 3. -/
theorem test_lifted_on_the_yard :
    ((after (.lifted 2 7 1 2 5) yard).stack 3).map (fun x => x.contents) = some [] ∧
      ((after (.lifted 2 7 1 2 5) yard).piece 5).map (fun x => (x.state, x.location)) =
        some (.inTransit, .crane 1) := by decide +kernel

/-- R111: ABANDON_BED of bed 0 drops the move of piece 7 and makes both pieces SCRAP. -/
theorem test_abandon_on_the_yard :
    (after (.abandonBed 0 7 0) yard).move 0 = none ∧
      ((after (.abandonBed 0 7 0) yard).piece 7).map (fun x => (x.state, x.count)) = some (.scrap, 500) ∧
      ((after (.abandonBed 0 7 0) yard).port 1).alerts.getLsbD 11 = true := by decide +kernel

/-- R37, R107: the last conversion of a scan releases bed 1, which enters COOL and descends. -/
theorem test_release_on_the_yard :
    ((after (.conversionCompletion 2000) finishing).bed 1).map (fun x => x.cycle.state) =
      some .releasable ∧
      ((after (.conversionCompletion 2000) finishing).bed 1).map (fun x => x.heat.phase) =
        some .cool := by decide +kernel

/-! ### Witnesses: for every statement with hypotheses, states and operands that meet them -/

theorem yard_office : yard.asks 0 .office := by unfold State.asks; decide
theorem yard_bedside : yard.asks 1 .bedside := by unfold State.asks; decide
theorem yard_crane : yard.asks 2 .crane := by unfold State.asks; decide
theorem loading_office : loading.asks 0 .office := by unfold State.asks; decide
theorem reset_office : State.reset.asks 0 .office := by unfold State.asks; decide
theorem yard_hears : yard.hears 0 ∧ yard.hears 1 ∧ yard.hears 2 := by unfold State.hears; decide
theorem loading_hears : loading.hears 0 ∧ loading.hears 2 := by unfold State.hears; decide

/-- POWER_ON and RESTART: a granted move, a queued one and a lifted one, and a port with each response. -/
theorem witness_RestartKeepsTheYardAndResetsTheRest :
    yard.ctl = .running ∧ loading.ctl = .loading ∧ (yard.bed 0).isSome ∧ yard.bed 8 = none ∧
      yard.move 2 = some (aMove 5 (.stack 3) 2 3 (.granted grant1)) ∧ grant1.crane = 1 ∧
      (∃ k, ∀ i m g, yard.move i = some m → m.progress = .granted g → g.crane ≠ k) ∧
      (∃ r, ((yard.answered 0 1 .readClock .ok .empty).port 0).tx = .formed r) := by
  refine ⟨rfl, rfl, by decide, by decide, by decide, rfl, ⟨0, ?_⟩, ⟨_, rfl⟩⟩
  have h : ∀ i, ∀ m ∈ yard.move i, ∀ g ∈ m.grant?, g.crane ≠ 0 := by decide +kernel
  intro i m g hm hg
  exact h i m hm g (by simp [Move.grant?, hg])

theorem witness_SetClockMovesEveryStamp : yard.asks 0 .office ∧ loading.asks 0 .office :=
  ⟨yard_office, loading_office⟩

/-- The last bed, the last stack and the numbers after them are answered as their clauses say. -/
theorem witness_ReadClockAndReadMapAnswerStoredFields :
    yard.hears 2 ∧ loading.hears 2 ∧
      ((after (.readMap 2 1 0 15 255) loading).port 2).tx = .formed ⟨1, 0x03, .ok, .mapBed none⟩ ∧
      ((after (.readMap 2 1 0 16 255) loading).port 2).tx = .formed ⟨1, 0x03, .badValue, .empty⟩ ∧
      ((after (.readMap 2 1 1 95 255) loading).port 2).tx = .formed ⟨1, 0x03, .ok, .mapStack none⟩ ∧
      ((after (.readMap 2 1 1 96 255) loading).port 2).tx = .formed ⟨1, 0x03, .badValue, .empty⟩ ∧
      ((after (.readMap 2 1 5 14 255) loading).port 2).tx = .formed ⟨1, 0x03, .ok, .mapValue 0⟩ ∧
      ((after (.readMap 2 1 5 15 3) loading).port 2).tx = .formed ⟨1, 0x03, .ok, .mapValue 16⟩ ∧
      ((after (.readMap 2 1 5 15 4) loading).port 2).tx = .formed ⟨1, 0x03, .badValue, .empty⟩ ∧
      ((after (.readMap 2 1 5 16 0) loading).port 2).tx = .formed ⟨1, 0x03, .badValue, .empty⟩ := by
  refine ⟨yard_hears.2.2, loading_hears.2, ?_⟩
  decide +kernel

/-- The last bay of the rail is free of the yard's beds. -/
theorem yard_bays : ∀ c, ∀ y ∈ yard.bed c, y.defn.lastBay < 255 := by decide +kernel

theorem witness_DefineBedByItsChecksAndCycleState :
    yard.asks 0 .office ∧ yard.bed 8 = none ∧ yard.bedDefinable 8 ⟨255, 255, 2000, 2000, some 1⟩ ∧
      ¬ yard.bedDefinable 8 ⟨256, 256, 2000, 2000, none⟩ ∧
      yard.bed 4 = some (aBed 130 none .empty [] .off) ∧ yard.bedDefinable 4 ⟨255, 255, 0, 0, none⟩ ∧
      (aBed 130 none .empty [] .off).changeable ⟨255, 255, 0, 0, none⟩ ∧
      yard.bed 0 = some (aBed 0 (some 1) .stripping [7, 8] .off) ∧
      ¬ (aBed 0 (some 1) .stripping [7, 8] .off).changeable ⟨255, 255, 0, 0, none⟩ ∧
      (∀ c : Channel, yard.scan.probes[c].assignment ≠ .bed 4) := by
  have bays : ∀ c y, yard.bed c = some y →
      ¬ ∃ bay, 255 ≤ bay ∧ bay ≤ 255 ∧ y.defn.firstBay ≤ bay ∧ bay ≤ y.defn.lastBay := by
    rintro c y h ⟨bay, h1, h2, -, h3⟩
    have := yard_bays c y h
    omega
  refine ⟨yard_office, by decide, ⟨by decide, by decide, by decide, by decide, ?_, fun _ => ⟨by decide,
    fun c y _ h => bays c y h⟩⟩, ?_, by decide, ⟨by decide, by decide, by decide, by decide, nofun,
    fun _ => ⟨by decide, fun c y _ h => bays c y h⟩⟩, ?_, by decide, ?_, by decide +kernel⟩
  · intro q h
    cases h
    decide
  · intro h
    exact absurd h.1 (by decide)
  · unfold Bed.changeable; decide
  · unfold Bed.changeable; decide

theorem witness_StacksAreDefinedRemovedAndOpened :
    yard.asks 0 .office ∧ loading.asks 0 .office ∧ yard.stack 95 = none ∧
      loading.stack 0 = some ⟨⟨20, .stock, 6, true⟩, [], 0⟩ ∧
      loading.stackIdle 0 ⟨⟨20, .stock, 6, true⟩, [], 0⟩ ∧
      yard.stack 0 = some ⟨⟨20, .stock, 6, true⟩, [1, 2, 3], 0⟩ ∧
      ¬ yard.stackIdle 0 ⟨⟨20, .stock, 6, true⟩, [1, 2, 3], 0⟩ := by
  refine ⟨yard_office, loading_office, by decide +kernel, by decide, ⟨rfl, rfl, ?_⟩, by decide, ?_⟩
  · have h : ∀ j, loading.move j = none := by decide +kernel
    intro j m hm
    simp [h j] at hm
  · rintro ⟨h, -⟩
    simp at h

theorem witness_LoadCraneChecksInOrder :
    yard.asks 0 .office ∧ (yard.crane 0).held.isSome = false ∧ (yard.crane 1).held.isSome = true ∧
      (yard.port 2).role = .crane ∧
      ∑ j : CraneId, (if j = 3 then 300 else (yard.crane j).rating) + yard.limits.baseLoad =
        yard.limits.shedLimit := by
  exact ⟨yard_office, by decide, by decide, by decide, by decide⟩

theorem witness_DefineClassReachesNoPiece : yard.asks 0 .office ∧ loading.asks 0 .office :=
  ⟨yard_office, loading_office⟩

theorem witness_SetLimitsAllocatesInRunning :
    yard.asks 0 .office ∧ yard.ctl = .running ∧ loading.asks 0 .office ∧ loading.ctl = .loading ∧
      50 + ∑ j : CraneId, (yard.crane j).rating = 250 ∧ ∑ j : CraneId, (loading.crane j).rating = 0 :=
  ⟨yard_office, rfl, loading_office, rfl, by decide, by decide⟩

theorem witness_SetConfigStoresOneValueInRange :
    yard.asks 0 .office ∧ configRanges[6]? = some (-100, 200) ∧ (-100 : Int) ≤ 69 ∧ (69 : Int) ≤ 200 ∧
      (69 : Int) < yard.settings.frostOff ∧ ¬ (70 : Int) < yard.settings.frostOff ∧
      configRanges[15]? = some (1, 64) ∧ configRanges[16]? = none :=
  ⟨yard_office, rfl, by decide, by decide, by decide, by decide, rfl, rfl⟩

theorem witness_LoadPieceRestoresAStackedPiece :
    yard.asks 0 .office ∧ yard.ctl = .running ∧ loading.asks 0 .office ∧ loading.ctl = .loading ∧
      loading.classes[0] = some ⟨100, 600, 200, 10⟩ ∧ loading.classes[31] = none ∧
      loading.stack 1 = some ⟨⟨81, .dispatch, 6, true⟩, [], 0⟩ ∧ loading.stack 95 = none ∧
      loading.piece 65535 = none ∧ loading.pieces.length = 0 :=
  ⟨yard_office, rfl, loading_office, rfl, by decide, by decide, by decide, by decide +kernel, by decide,
    by decide⟩

/-- A cast of one piece with every figure at its bound. -/
def aCast : List PieceEntry := [⟨65535, 0, 1000⟩]

theorem aCast_castable : castable aCast := by decide

theorem defaultProfile_legal : defaultProfile.legal := by decide

theorem witness_LoadBedStateRestoresBedAndPieces :
    yard.asks 0 .office ∧ yard.ctl = .running ∧ loading.asks 0 .office ∧ loading.ctl = .loading ∧
      loading.bed 4 = some (aBed 130 none .empty [] .off) ∧ loading.bed 15 = none ∧
      defaultProfile.legal ∧ castable aCast ∧ (∀ y ∈ aCast, (loading.classOf y).isSome) ∧
      (aCast.map PieceEntry.id).Nodup ∧ (∀ y ∈ aCast, loading.piece y.id = none) ∧
      (CycleState.curing = .curing ∧ Phase.hold = .hold ∧ (600 : Int) = defaultProfile.holdTemp) :=
  ⟨yard_office, rfl, loading_office, rfl, by decide, by decide, defaultProfile_legal, aCast_castable,
    by decide, by decide, by decide, rfl, rfl, rfl⟩

theorem witness_CommitStartsRunningFromAGoodMap :
    yard.asks 0 .office ∧ yard.ctl = .running ∧
      (State.reset.asks 0 .office ∧ State.reset.ctl = .loading ∧ ¬ 1 ≤ State.reset.limits.limit) ∧
      loading.asks 0 .office ∧ loading.ctl = .loading ∧
      (∀ b x, loading.bed b = some x → x.defn.firstBay ≤ x.defn.lastBay) ∧
      (∀ b x c y, loading.bed b = some x → loading.bed c = some y → b = c) ∧
      1 ≤ loading.limits.limit ∧ loading.limits.shedLimit ≤ loading.limits.limit ∧
      loading.limits.limit ≤ 20000 ∧
      loading.limits.baseLoad + ∑ j : CraneId, (loading.crane j).rating ≤ loading.limits.shedLimit := by
  have h : ∀ b, ∀ x ∈ loading.bed b, b = 4 ∧ x.defn.firstBay ≤ x.defn.lastBay := by decide +kernel
  exact ⟨yard_office, rfl, ⟨reset_office, rfl, by decide⟩, loading_office, rfl,
    fun b x hx => (h b x hx).2, fun b x c y hx hy => (h b x hx).1.trans (h c y hy).1.symm, by decide,
    by decide, by decide, by decide⟩

theorem witness_DefineProbeChecksInOrder :
    yard.asks 0 .office ∧ scanning.asks 0 .office ∧ scanning.scan.inFlight ≠ none ∧
      (∀ b : BedId, Assignment.bed 4 = .bed b → 4 = b.val) ∧ (yard.bed 4).isSome ∧ yard.bed 15 = none ∧
      (Finset.univ.filter fun d : Channel => d ≠ 0 ∧ yard.scan.probes[d].assignment = .bed 4).card = 0 := by
  refine ⟨yard_office, by unfold State.asks; decide, by decide, ?_, by decide, by decide, by decide +kernel⟩
  intro b h
  cases h
  rfl

theorem witness_ReadProbeAndClearProbeTally : yard.hears 1 ∧ yard.asks 0 .office :=
  ⟨yard_hears.2.1, yard_office⟩

/-- The channels of the yard's scan set. -/
theorem yard_scanned (c : Channel) : yard.scanned c ↔ c = 5 ∨ c = 9 := by
  unfold State.scanned
  revert c
  decide +kernel

theorem witness_ScansStartOverrunAndAbort :
    yard.scan.inFlight = none ∧ yard.asks 0 .office ∧ yard.scanned 5 ∧ (∀ d, yard.scanned d → 5 ≤ d) ∧
      scanning.scan.inFlight ≠ none ∧ scanning.asks 0 .office := by
  refine ⟨rfl, yard_office, (yard_scanned 5).mpr (.inl rfl), ?_, by decide, by unfold State.asks; decide⟩
  intro d h
  rcases (yard_scanned d).mp h with rfl | rfl <;> decide

/-- Code 2000 on the yard's probes reads 25.9 degrees, and both rails are no readings. -/
theorem witness_ConversionsAreConvertedAndJudged :
    scanning.scan.inFlight = some 5 ∧ (5 : Channel) < 9 ∧ scanning.scanned 9 ∧
      (∀ e, 5 < e → scanning.scanned e → 9 ≤ e) ∧
      scanning.scan.probes[(5 : Channel)].rawLo < scanning.scan.probes[(5 : Channel)].rawHi ∧
      scanning.scan.probes[(5 : Channel)].reads 2000 259 ∧ finishing.scan.inFlight = some 9 ∧
      (∀ d, finishing.scanned d → d ≤ 9) ∧
      finishing.scan.probes[(9 : Channel)].rawLo < finishing.scan.probes[(9 : Channel)].rawHi ∧
      finishing.scan.probes[(9 : Channel)].reads 2000 259 ∧ finishing.counters.frozen = false := by
  have h (c : Channel) : scanning.scanned c ↔ c = 5 ∨ c = 9 := yard_scanned c
  have last : ∀ d, finishing.scanned d → d ≤ 9 := by
    intro d hd
    rcases (yard_scanned d).mp hd with rfl | rfl <;> decide
  refine ⟨rfl, by decide, (h 9).mpr (.inr rfl), ?_, by decide, ⟨259, ?_⟩, rfl, last, by decide,
    ⟨259, by decide⟩, rfl⟩
  · intro e h1 h2
    rcases (h e).mp h2 with rfl | rfl
    · exact absurd h1 (by decide)
    · decide
  · decide

theorem finishing_completes : finishing.completesScan (.conversionCompletion 2000) := by
  refine .inl ⟨2000, 9, rfl, rfl, ?_⟩
  intro d h
  rcases (yard_scanned d).mp h with rfl | rfl <;> decide

theorem loading_completes :
    loading.completesScan .scanTimerExpiry ∧ loading.completesScan (.scanNow 0 1) := by
  have h : ∀ c : Channel, loading.scan.probes[c].enabled = false := by decide +kernel
  have h' : ∀ d, ¬ loading.scanned d := fun d hd =>
    absurd hd.1 (by rw [h d]; decide)
  exact ⟨.inr ⟨rfl, h', .inl rfl⟩, .inr ⟨rfl, h', .inr ⟨0, 1, rfl, loading_office⟩⟩⟩

/-- A bed with a usable reading after the scan, one without, and the yard with one. -/
theorem witness_ScanCompletionFormsAggregates :
    finishing.completesScan (.conversionCompletion 2000) ∧ loading.completesScan .scanTimerExpiry ∧
      loading.ctl = .loading ∧ (finishing.bed 1).isSome ∧
      (after (.conversionCompletion 2000) finishing).usableReading (.bed 1) 200 ∧
      (after (.conversionCompletion 2000) finishing).usableReading .yard 259 := by
  refine ⟨finishing_completes, loading_completes.1, rfl, by decide, ⟨5, ?_⟩, ⟨9, ?_⟩⟩ <;> decide +kernel

theorem witness_ScanResultsAccountMaturityAndShipReadiness :
    finishing.completesScan (.conversionCompletion 2000) ∧ finishing.ctl = .running ∧
      (∃ x, finishing.bed 1 = some x ∧ x.cures ∧ x.maturity.last = some 90) ∧
      (∃ x, finishing.bed 4 = some x ∧ ¬ x.cures) ∧
      (∃ x, finishing.piece 1 = some x ∧ x.state = .stocked ∧ x.last = some 90) ∧
      ∃ x, finishing.piece 9 = some x ∧ x.state = .onBed := by
  refine ⟨finishing_completes, rfl, ⟨_, rfl, ?_, rfl⟩, ⟨_, rfl, ?_⟩, ⟨_, rfl, rfl, rfl⟩, ⟨_, rfl, rfl⟩⟩ <;>
    unfold Bed.cures <;> decide

theorem witness_ScanResultsReleaseMatureBeds :
    finishing.completesScan (.conversionCompletion 2000) ∧ finishing.ctl = .running ∧
      (∃ x, finishing.bed 1 = some x ∧ x.mature 500 finishing.now) ∧
      ∃ x, finishing.bed 2 = some x ∧ ¬ x.mature 500 finishing.now := by
  refine ⟨finishing_completes, rfl, ⟨_, rfl, rfl, _, rfl, by decide, by decide⟩, ⟨_, rfl, ?_⟩⟩
  rintro ⟨h, -⟩
  exact absurd h (by decide)

/-- The yard at the last channel of a scan, its aggregate BLIND and its one probe not yet read. -/
def blinded : State :=
  { finishing with
    scan :=
      { finishing.scan with
        probes := finishing.scan.probes.set 9 { aProbe .yard with mark := false }
        yard := { finishing.scan.yard with status := .blind } } }

/-- A rail reading ends that scan. -/
theorem blinded_completes : blinded.completesScan (.conversionCompletion 0) := by
  have h : ∀ d : Channel, blinded.scan.probes[d].enabled = finishing.scan.probes[d].enabled ∧
      blinded.scan.probes[d].assignment = finishing.scan.probes[d].assignment := by decide +kernel
  refine .inl ⟨0, 9, rfl, rfl, ?_⟩
  intro d hd
  have hd' : finishing.scanned d := by
    unfold State.scanned at hd ⊢
    rw [← (h d).1, ← (h d).2]
    exact hd
  rcases (yard_scanned d).mp hd' with rfl | rfl <;> decide

/-- A bed in RAMP on a scan that leaves the yard LIVE, and one in COOL on a scan that leaves it BLIND. -/
theorem witness_ScanResultsMoveThePhases :
    (finishing.completesScan (.conversionCompletion 2000) ∧ finishing.ctl = .running ∧
      (after (.conversionCompletion 2000) finishing).scan.yard.status ≠ .blind ∧
      (after (.conversionCompletion 2000) finishing).scan.yard.temp = some 259 ∧
      ∃ x q f sp m, finishing.bed 1 = some x ∧ x.cures ∧ x.heat.working = some q ∧
        x.cycle.figures = some f ∧ x.heat.setpoint = some sp ∧ x.maturity.last = some m) ∧
    blinded.completesScan (.conversionCompletion 0) ∧ blinded.ctl = .running ∧
      (after (.conversionCompletion 0) blinded).scan.yard.status = .blind ∧
      ∃ x q f sp m, blinded.bed 2 = some x ∧ x.cures ∧ x.heat.working = some q ∧
        x.cycle.figures = some f ∧ x.heat.setpoint = some sp ∧ x.maturity.last = some m ∧
        x.heat.phase = .cool := by
  refine ⟨⟨finishing_completes, rfl, by decide +kernel, by decide +kernel, _, _, _, _, _, rfl, ?_, rfl, rfl,
    rfl, rfl⟩, blinded_completes, rfl, by decide +kernel, _, _, _, _, _, rfl, ?_, rfl, rfl, rfl, rfl, rfl⟩ <;>
    unfold Bed.cures <;> decide

theorem witness_ScanResultsFormDemand :
    finishing.completesScan (.conversionCompletion 2000) ∧ finishing.ctl = .running ∧
      (∃ x, finishing.bed 1 = some x ∧ x.cures ∧ x.agg.tmin = some 200 ∧ x.agg.tmax = some 300) ∧
      (∃ x, finishing.bed 5 = some x ∧ x.cycle.state = .casting) ∧
      ∃ x, finishing.bed 3 = some x ∧ x.cycle.state = .set := by
  refine ⟨finishing_completes, rfl, ⟨_, rfl, ?_, rfl, rfl⟩, ⟨_, rfl, rfl⟩, ⟨_, rfl, rfl⟩⟩
  unfold Bed.cures
  decide

theorem witness_ProfilesAreStoredBySlotAndRead :
    yard.asks 0 .office ∧ yard.hears 2 ∧ defaultProfile.legal ∧
      ¬ { defaultProfile with ceiling := 600 }.legal :=
  ⟨yard_office, yard_hears.2.2, defaultProfile_legal, by decide⟩

/-- The yard with bed 1 in frost, asking for more than its guard. -/
def frosty : State :=
  yard.modBed 1 fun x => { x with heat := { x.heat with frost := true, requested := 150 } }

/-- The guard of the one bed in frost fits the heat budget, and so does every demand; and section 5.6's
allocation has the form of R85 and R86. -/
theorem witness_AllocationsFitTheHeatBudget :
    frosty.guardAt 1 = 100 ∧ frosty.demandAt 1 = 150 ∧ (∀ b, frosty.guardAt b ≤ frosty.demandAt b) ∧
      ∑ b, frosty.demandAt b ≤ frosty.limitNow - frosty.limits.baseLoad - frosty.reservations ∧
      shares (fun b => (four 100 80 0 0)[b]) (fun b => (four 400 300 350 200)[b]) 850
        (fun b => (four 287 217 219 125)[b]) := by
  refine ⟨by decide, by decide, by decide +kernel, by decide +kernel, ?_⟩
  unfold shares
  decide +kernel

theorem witness_ShedEdgesReallocateAndLevelsFollow :
    yard.ctl = .running ∧ loading.ctl = .loading ∧ (yard.port 0).role ≠ .off := by decide

theorem witness_ReadBudgetFormsItsFigures : yard.hears 1 := yard_hears.2.1

theorem witness_BedAndCraneRequestsShareTheirChecks :
    (Instr.abandonBed 0 1 15).bedRequest? = some (0, 1, .abandonBed, 15) ∧
      (Instr.lifted 2 1 3 63 5).craneRequest? = some (2, 1, .lifted, 3, 63) ∧
      yard.hears 0 ∧ yard.hears 1 ∧ yard.hears 2 ∧ loading.hears 0 ∧ loading.hears 2 ∧
      yard.bed 15 = none ∧ (∃ x, yard.bed 4 = some x ∧ x.defn.bound ≠ some 1) ∧
      (yard.crane 3).enrolment = none ∧ ∃ e, (yard.crane 0).enrolment = some e ∧ e.bound = 2 :=
  ⟨rfl, rfl, yard_hears.1, yard_hears.2.1, yard_hears.2.2, loading_hears.1, loading_hears.2, by decide,
    ⟨_, rfl, by decide⟩, by decide, ⟨_, rfl, rfl⟩⟩

/-- Beds in EMPTY and SET for OFFICE, and one bound to the BEDSIDE port. -/
theorem witness_BedsAreSetCancelledAndPoured :
    yard.tends 0 4 (aBed 130 none .empty [] .off) ∧ yard.tends 1 3 (aBed 120 (some 1) .set [] .off) := by
  unfold State.tends
  decide

theorem witness_PourEndCastsOnceAndRepeats :
    yard.tends 1 5 (aBed 140 (some 1) .casting [] .off) ∧ castable aCast ∧
      (∀ y ∈ aCast, (yard.classOf y).isSome) ∧ (aCast.map PieceEntry.id).Nodup ∧
      (∀ y ∈ aCast, yard.piece y.id = none) ∧ yard.tends 0 1 (aBed 100 none .curing [9] .ramp) ∧
      (aBed 100 none .curing [9] .ramp).cycle.figures = some ⟨0, 0, 40⟩ := by
  refine ⟨?_, aCast_castable, by decide, by decide, by decide, ?_, rfl⟩ <;> unfold State.tends <;> decide

theorem witness_BedsAreDetensioned :
    yard.tends 0 2 (aBed 110 none .releasable [10] .cool) ∧
      (aBed 110 none .releasable [10] .cool).agg.tmax = some 300 ∧ yard.scan.yard.temp = some 100 ∧
      ¬ yard.settings.differentialLimit < 300 - 100 ∧
      yard.tends 0 6 (aBed 150 none .detensioning [11] .off) := by
  refine ⟨?_, rfl, rfl, by decide, ?_⟩ <;> unfold State.tends <;> decide

/-! #### The invariants on the yard -/

theorem yard_linksSafe : yard.linksSafe := by
  have h1 : ∀ i, ∀ m ∈ yard.move i, (yard.piece m.piece).isSome := by decide +kernel
  have h2 : ∀ x ∈ yard.pieces, ∀ i,
      (x.move = some i ↔ ((yard.move i).any fun m => m.piece == x.id) = true) := by decide +kernel
  refine ⟨fun i m h => h1 i m h, fun id x i h => ?_⟩
  have hid := State.piece_id h
  rw [h2 x (List.mem_of_find?_eq_some h) i, hid]
  simp [Option.any_eq_true]

theorem yard_creditSafe : yard.creditSafe := by
  unfold State.creditSafe
  decide +kernel

theorem yard_holdingSafe : yard.holdingSafe := by
  have h1 : ∀ k, ∀ h ∈ (yard.crane k).held, ∃ m g, yard.move h.slot = some m ∧ m.grant? = some g ∧
      g.crane = k := by
    intro k h hk
    have : ∀ k, ∀ h ∈ (yard.crane k).held, (yard.move h.slot).any (fun m =>
      m.grant?.any fun g => g.crane == k) = true := by decide +kernel
    have := this k h hk
    simp only [Option.any_eq_true, beq_iff_eq] at this
    obtain ⟨m, hm, g, hg, hc⟩ := this
    exact ⟨m, g, hm, hg, hc⟩
  refine ⟨fun k h hk => h1 k h hk, fun i m g hm hg => ?_⟩
  have : ∀ i, ∀ m ∈ yard.move i, ∀ g ∈ m.grant?, ((yard.crane g.crane).held.any fun h =>
    h.slot == i) = true := by decide +kernel
  have := this i m hm g hg
  simpa only [Option.any_eq_true, beq_iff_eq] using this

theorem yard_stacksSafe : yard.stacksSafe := by
  have h2 : ∀ i, ∀ m ∈ yard.move i, ∀ g ∈ m.grant?, (yard.stack m.dest).isSome := by decide +kernel
  have h3 : ∀ i, ∀ x ∈ yard.stack i, x.incoming = yard.countMoves (Move.boundFor i) ∧
      x.contents.length + x.incoming ≤ x.defn.tierLimit := by decide +kernel
  exact ⟨nofun, fun i m g hm hg => h2 i m hm g hg, fun i x hx => h3 i x hx⟩

theorem yard_spansSafe : yard.spansSafe := by
  have h : ∀ i, ∀ m ∈ yard.move i, ∀ g ∈ m.grant?, ∀ j, ∀ n ∈ yard.move j, ∀ h ∈ n.grant?,
      g.crane ≠ h.crane →
      widenedMeet g.spanLow g.spanHigh g.clearance h.spanLow h.spanHigh h.clearance = false := by
    decide +kernel
  exact fun i j m n g k hm hn hg hk hc => h i m hm g hg j n hn k hk hc

theorem yard_reservationsSafe : yard.reservationsSafe := by
  have h : ∀ k, ∀ r ∈ (yard.crane k).reservation, (yard.crane k).held.isSome ∧
      ((yard.crane k).enrolment.any fun e => e.rating == r.rating) = true := by decide
  intro k r hr
  obtain ⟨h1, h2⟩ := h k r hr
  simp only [Option.any_eq_true, beq_iff_eq] at h2
  exact ⟨h1, h2⟩

theorem yard_powerSafe : yard.powerSafe :=
  ⟨by unfold State.limitsSafe; decide, yard_reservationsSafe, nofun, by unfold State.feederSafe; decide⟩

theorem yard_maturitySafe : yard.maturitySafe := by
  have h : ∀ b, ∀ x ∈ yard.bed b, x.maturity.count ≤ 4294967295 ∧
      (¬ (x.cycle.state = .curing ∨ x.cycle.state = .releasable ∨ x.cycle.state = .detensioning ∨
        x.cycle.state = .stripping) → x.maturity = ⟨0, none, false, 0⟩) := by decide +kernel
  exact fun b x hx => h b x hx

theorem yard_profilesSafe : yard.profilesSafe := by
  refine ⟨by decide +kernel, ?_⟩
  have h : ∀ b, ∀ x ∈ yard.bed b, ∀ q ∈ x.heat.working, q.holdTemp < q.ceiling := by decide +kernel
  exact fun b x q hx hq => h b x hx q hq

theorem yard_recordsSafe : yard.recordsSafe := by unfold State.recordsSafe; decide

theorem yard_timerSafe : yard.timerSafe := by unfold State.timerSafe; decide

theorem yard_settingsSafe : yard.settingsSafe := by
  refine ⟨fun row port v h => ?_, by decide⟩
  have hp : ∀ p : PortId, yard.settings.creditLimit[p] = 16 := by decide
  by_cases hr : row < 15
  · interval_cases row <;> (cases h; decide)
  · obtain rfl | hr' : row = 15 ∨ 16 ≤ row := by omega
    · simp only [Settings.value?, Option.map_eq_some_iff] at h
      obtain ⟨p, -, rfl⟩ := h
      rw [hp p]
      decide
    · obtain ⟨n, rfl⟩ := Nat.exists_eq_add_of_le hr'
      rw [Nat.add_comm] at h
      cases h

/-! #### Pieces, moves and cranes -/

theorem witness_AbandonBedScrapsItsPieces :
    yard.tends 0 0 (aBed 0 (some 1) .stripping [7, 8] .off) ∧ (yard.port 0).role = .office ∧
      yard.linksSafe ∧ yard.tends 0 5 (aBed 140 (some 1) .casting [] .off) ∧
      yard.tends 0 4 (aBed 130 none .empty [] .off) := by
  refine ⟨?_, by decide, yard_linksSafe, ?_, ?_⟩ <;> unfold State.tends <;> decide

theorem witness_HoldsAreWrittenOnOnePiece :
    yard.asks 0 .office ∧ (yard.piece 12).isSome ∧ yard.piece 65535 = none :=
  ⟨yard_office, by decide, by decide⟩

/-- The top of stack 0, a buried piece, a piece on a bed and one in motion. -/
theorem witness_DeletePieceFreesOneRecord :
    yard.asks 0 .office ∧ yard.linksSafe ∧ yard.piece 65535 = none ∧
      (∃ x, yard.piece 3 = some x ∧ x.location = .stack 0 ∧ ¬ yard.moving x) ∧
      (∃ x, yard.piece 1 = some x ∧ x.location = .stack 0 ∧ ¬ yard.moving x) ∧
      (∃ x, yard.piece 7 = some x ∧ x.location = .bed 0 ∧ ¬ yard.moving x) ∧
      ∃ x, yard.piece 5 = some x ∧ yard.moving x := by
  refine ⟨yard_office, yard_linksSafe, by decide, ⟨_, rfl, rfl, ?_⟩, ⟨_, rfl, rfl, ?_⟩, ⟨_, rfl, rfl, ?_⟩,
    ⟨_, rfl, 2, _, rfl, rfl, nofun⟩⟩
  · rintro ⟨i, m, h1, h2, h3⟩
    cases h1
    cases h2
    exact h3 rfl
  · rintro ⟨i, m, h1, -⟩
    cases h1
  · rintro ⟨i, m, h1, h2, h3⟩
    cases h1
    cases h2
    exact h3 rfl

theorem witness_ShipDispatchFreesAWholeStack :
    yard.asks 0 .office ∧ yard.linksSafe ∧ yard.stack 95 = none ∧
      (∃ x, yard.stack 0 = some x ∧ x.defn.kind = .stock) ∧
      ∃ x y, yard.stack 1 = some x ∧ x.defn.kind = .dispatch ∧ x.incoming = 0 ∧ x.contents = [4] ∧
        yard.piece 4 = some y ∧ ¬ yard.moving y := by
  refine ⟨yard_office, yard_linksSafe, by decide +kernel, ⟨_, rfl, rfl⟩,
    ⟨_, _, rfl, rfl, rfl, rfl, rfl, ?_⟩⟩
  rintro ⟨i, m, h1, -⟩
  cases h1

/-- A merge for piece 3, a new entry for piece 2, a LOAD, and a STRIP from the BEDSIDE port of its bed. -/
theorem witness_RequestMoveMergesOrEnters :
    yard.ctl = .running ∧ yard.asks 0 .office ∧ yard.asks 1 .bedside ∧ yard.piece 65535 = none ∧
      (∃ x, yard.piece 3 = some x ∧ yard.movable .restack x ∧ x.location.isSource (.stack 0) ∧
        x.move = some 1 ∧ (yard.move 1).isSome) ∧
      (∃ x, yard.piece 2 = some x ∧ yard.movable .load x ∧ x.location.isSource (.stack 0) ∧ x.move = none ∧
        ¬ yard.moving x) ∧
      (∃ x, yard.piece 8 = some x ∧ yard.movable .strip x ∧ x.location.isSource (.bed 0) ∧ x.move = none) ∧
      (∃ y, yard.stack 1 = some y ∧ y.defn.kind = .dispatch ∧ y.defn.isOpen = true) ∧
      (∃ y, yard.stack 4 = some y ∧ y.defn.kind = .stock ∧ y.defn.isOpen = true) ∧
      yard.moves.charged[(0 : PortId)] < yard.settings.creditLimit[(0 : PortId)] ∧ yard.move 4 = none ∧
      (∀ j, j < 4 → yard.move j ≠ none) := by
  refine ⟨rfl, yard_office, yard_bedside, by decide,
    ⟨_, rfl, ⟨rfl, 0, rfl⟩, .inr ⟨0, rfl, rfl⟩, rfl, by decide⟩,
    ⟨_, rfl, ⟨rfl, 0, rfl⟩, .inr ⟨0, rfl, rfl⟩, rfl, ?_⟩,
    ⟨_, rfl, ⟨.inr rfl, 0, _, rfl, rfl, .inr (.inr rfl)⟩, .inl ⟨0, rfl, rfl⟩, rfl⟩,
    ⟨_, rfl, rfl, rfl⟩, ⟨_, rfl, rfl, rfl⟩, by decide, by decide, by decide +kernel⟩
  rintro ⟨i, m, h1, -⟩
  cases h1

theorem witness_CancelMoveWithdrawsAQueuedMove :
    yard.ctl = .running ∧ yard.asks 0 .office ∧ yard.asks 1 .bedside ∧ yard.move 63 = none ∧
      (∃ m, yard.move 0 = some m ∧ m.piece = 7 ∧ m.requester = 1 ∧ m.progress = .queued) ∧
      (∃ m, yard.move 1 = some m ∧ m.piece = 3 ∧ m.requester ≠ 1) ∧
      ∃ m, yard.move 2 = some m ∧ m.piece = 5 ∧ m.progress ≠ .queued :=
  ⟨rfl, yard_office, yard_bedside, by decide, ⟨_, rfl, rfl, rfl, rfl⟩, ⟨_, rfl, rfl, by decide⟩,
    ⟨_, rfl, rfl, nofun⟩⟩

theorem yard_drives :
    yard.drives 2 0 ⟨2, 0, 255, 100, 1000⟩ ∧ yard.drives 2 1 ⟨2, 0, 255, 50, 1000⟩ ∧
      yard.drives 2 2 ⟨2, 0, 255, 50, 1000⟩ :=
  ⟨⟨rfl, yard_crane, rfl, rfl⟩, ⟨rfl, yard_crane, rfl, rfl⟩, ⟨rfl, yard_crane, rfl, rfl⟩⟩

theorem witness_LiftedTakesThePieceOffItsSource :
    yard.drives 2 1 ⟨2, 0, 255, 50, 1000⟩ ∧ (∃ m, yard.move 2 = some m ∧ m.grant? = some grant1 ∧
      m.piece = 5 ∧ m.progress = .granted grant1 ∧ grant1.crane = 1) ∧
      (∃ m, yard.move 3 = some m ∧ m.grant? = some grant2 ∧ m.progress ≠ .granted grant2) ∧
      (∀ m, yard.move 63 = some m → ∀ g, m.grant? = some g → g.crane ≠ 1) :=
  ⟨yard_drives.2.1, ⟨_, rfl, rfl, rfl, rfl, rfl⟩, ⟨_, rfl, rfl, nofun⟩, nofun⟩

theorem witness_PlacedEndsALiftedMove :
    yard.drives 2 2 ⟨2, 0, 255, 50, 1000⟩ ∧ (∃ m y, yard.move 3 = some m ∧
      m.progress = .lifted grant2 85 false ∧ grant2.crane = 2 ∧ yard.stack m.dest = some y) ∧
      yard.drives 2 0 ⟨2, 0, 255, 100, 1000⟩ ∧ yard.move 9 = none ∧ (yard.crane 0).held = none ∧
      (yard.crane 0).lastMove = some ⟨9, 1, 0, 1, .placed⟩ ∧ (yard.crane 1).held ≠ none :=
  ⟨yard_drives.2.2, ⟨_, _, rfl, rfl, rfl, rfl⟩, yard_drives.1, by decide, rfl, rfl, by decide⟩

theorem witness_AbortMoveHandsBackOrDiverts :
    yard.drives 2 1 ⟨2, 0, 255, 50, 1000⟩ ∧ (∃ m, yard.move 2 = some m ∧ m.progress = .granted grant1 ∧
      grant1.crane = 1) ∧
      yard.drives 2 2 ⟨2, 0, 255, 50, 1000⟩ ∧ (∃ m y, yard.move 3 = some m ∧
        m.progress = .lifted grant2 85 false ∧ grant2.crane = 2 ∧ m.dest = 4 ∧ yard.stack 4 = some y ∧
        grant2.spanLow ≤ y.defn.bay ∧ y.defn.bay ≤ grant2.spanHigh) ∧ yard.stack 95 = none ∧
      yard.move 9 = none ∧ (yard.crane 0).lastMove = some ⟨9, 1, 0, 1, .placed⟩ :=
  ⟨yard_drives.2.1, ⟨_, rfl, rfl, rfl⟩, yard_drives.2.2,
    ⟨_, _, rfl, rfl, rfl, rfl, rfl, by decide, by decide⟩, by decide +kernel, by decide, rfl⟩

/-- At minute 101 the grant of minute 95 has expired, and a lift of minute 81 would be overdue. -/
theorem witness_MinuteExpiriesJudgeTheMoves :
    yard.ctl = .running ∧ (∃ m, yard.move 2 = some m ∧ m.progress = .granted grant1 ∧
      (yard.settings.grantTimeout : Int) ≤ yard.now + 1 - grant1.minute) ∧
      (∃ m, yard.move 3 = some m ∧ m.progress = .lifted grant2 85 false) ∧
      (yard.settings.liftOverdue : Int) ≤ yard.now + 1 - 81 ∧ yard.counters.frozen = false ∧
      (∀ j m g, loading.move j = some m → ¬ loading.expires 1 m g) := by
  have h : ∀ j, loading.move j = none := by decide +kernel
  exact ⟨rfl, ⟨_, rfl, rfl, by decide⟩, ⟨_, rfl, rfl⟩, by decide, rfl, fun j m g hm => by simp [h j] at hm⟩

theorem yard_suits : yard.suits ⟨2, 0, 255, 100, 1000⟩ ⟨.strip, 7, .bed 0, 0, 1, 1, .queued⟩ :=
  ⟨⟨_, rfl, rfl⟩, ⟨_, rfl, rfl, by decide, by decide, by decide⟩,
    ⟨0, 9, ⟨_, rfl, rfl, rfl⟩, by decide, by decide, by decide, by decide⟩, _, rfl, by decide⟩

theorem yard_affords : yard.affords ⟨2, 0, 255, 100, 1000⟩ := by
  unfold State.affords
  decide

theorem yard_runsOver : yard.runsOver 20 ⟨.strip, 7, .bed 0, 0, 1, 1, .queued⟩ 0 20 :=
  ⟨0, 9, _, ⟨_, rfl, rfl, rfl⟩, rfl, by decide, by decide⟩

theorem yard_offers : yard.offers 0 ⟨2, 0, 255, 100, 1000⟩ 20 0 ⟨.strip, 7, .bed 0, 0, 1, 1, .queued⟩ := by
  refine ⟨rfl, rfl, yard_suits, yard_affords, ?_⟩
  have hg : ∀ j, ∀ n ∈ yard.move j, ∀ g ∈ n.grant?, 80 ≤ g.spanLow ∧ g.clearance = 2 := by
    decide +kernel
  rintro lo hi j n g ⟨a, b, y, ⟨x, hx, rfl, rfl⟩, hy, rfl, rfl⟩ hn hgr - ⟨z, -, h2, h3, -⟩
  cases hx
  cases hy
  obtain ⟨h4, h5⟩ := hg j n hn g hgr
  have h6 : (yard.settings.clearance : Int) = 2 := rfl
  rw [h5] at h3
  rw [h6] at h2
  simp only [aBed] at h2
  omega

/-- The restack of piece 3 cannot pass crane 1's span, so the strip of piece 7 is the one picked. -/
theorem witness_NextMoveGrantsTheOldestEligibleMove :
    yard.drives 2 0 ⟨2, 0, 255, 100, 1000⟩ ∧ yard.reservationsSafe ∧ (yard.crane 0).held = none ∧
      yard.picks 0 ⟨2, 0, 255, 100, 1000⟩ 20 yard.turned.mode 0 ⟨.strip, 7, .bed 0, 0, 1, 1, .queued⟩ ∧
      (∃ y, yard.stack 0 = some y) ∧ (∃ z, yard.piece 7 = some z) ∧
      yard.runsOver 20 ⟨.strip, 7, .bed 0, 0, 1, 1, .queued⟩ 0 20 := by
  refine ⟨yard_drives.1, yard_reservationsSafe, rfl, ⟨yard_offers, ?_⟩, ⟨_, rfl⟩, ⟨_, rfl⟩, yard_runsOver⟩
  have hq : ∀ j, ∀ n ∈ yard.move j, n.progress = .queued → j ≠ 0 → n = aMove 3 (.stack 0) 2 2 .queued := by
    decide +kernel
  rintro j n ⟨hn, hp, -, -, -⟩ hj
  have := hq j n hn hp hj
  subst this
  refine ⟨fun _ _ => by decide, fun h => absurd ?_ h⟩
  unfold servedIn
  decide +kernel

/-- A HOLDING crane, and an IDLE one for which the limits of the yard under SHED leave no power. -/
theorem witness_NextMoveRepeatsOrAnswersNone :
    yard.drives 2 1 ⟨2, 0, 255, 50, 1000⟩ ∧ (∃ h m y z, (yard.crane 1).held = some h ∧
      yard.move h.slot = some m ∧ m.grant? = some grant1 ∧ yard.stack m.dest = some y ∧
      yard.piece m.piece = some z) ∧
      (let s : State := { yard with limits := ⟨250, 250, 100⟩ }
       s.drives 2 0 ⟨2, 0, 255, 100, 1000⟩ ∧ (s.crane 0).held = none ∧
        ∀ i m, ¬ s.offers 0 ⟨2, 0, 255, 100, 1000⟩ 20 i m) := by
  refine ⟨yard_drives.2.1, ⟨_, _, _, _, rfl, rfl, rfl, rfl, rfl⟩, ⟨rfl, ?_, rfl, rfl⟩, rfl, ?_⟩
  · unfold State.asks; decide
  · rintro i m ⟨-, -, -, h, -⟩
    revert h
    unfold State.affords
    decide

theorem witness_SetModeSetsModeAndLock : yard.asks 0 .office ∧ loading.asks 0 .office :=
  ⟨yard_office, loading_office⟩

theorem witness_ReadsOfPiecesStacksMovesCranesAndScans :
    yard.hears 2 ∧ 1 ≤ yard.scan.remaining ∧
      (∃ x y, yard.piece 9 = some x ∧ x.state = .onBed ∧ x.location = .bed 1 ∧ yard.bed 1 = some y ∧
        9 ∈ y.cycle.pieces) ∧
      (∃ x y, yard.piece 5 = some x ∧ x.location = .stack 3 ∧ yard.stack 3 = some y ∧ 5 ∈ y.contents ∧
        x.move = some 2 ∧ (yard.move 2).isSome) ∧
      (∃ x, yard.piece 6 = some x ∧ x.location = .crane 2) ∧
      yard.piece 65535 = none ∧ yard.stack 95 = none ∧ yard.move 63 = none ∧
      (∃ x, yard.stack 0 = some x ∧ ∀ id ∈ x.contents, (yard.piece id).isSome) ∧
      (∃ h m, (yard.crane 2).held = some h ∧ yard.move h.slot = some m ∧ m.grant? = some grant2) ∧
      (yard.crane 0).held = none :=
  ⟨yard_hears.2.2, by decide, ⟨_, _, rfl, rfl, rfl, rfl, by decide⟩,
    ⟨_, _, rfl, rfl, rfl, by decide, rfl, by decide⟩, ⟨_, rfl, rfl⟩, by decide, by decide +kernel, by decide,
    ⟨_, rfl, by decide⟩, ⟨_, _, rfl, rfl, rfl⟩, rfl⟩

/-! #### Ports and counters -/

theorem witness_AlertsAreReadMaskedAndShownOnTheLine :
    State.reset.hears 0 ∧ (State.reset.port 0).alerts.getLsbD 15 = true ∧
      Toward.everyPort.reaches 0 (yard.port 0).role ∧ (yard.port 0).mask.getLsbD 15 = true ∧
      ¬ (Toward.bed none).reaches 1 (yard.port 1).role ∧ (yard.port 1).mask.getLsbD 0 = false := by
  refine ⟨by unfold State.hears; decide, by decide, ⟨by decide, trivial⟩, by decide, ?_, by decide⟩
  rintro ⟨-, h | h⟩
  · exact h rfl
  · cases h

/-- The yard with a snapshot of bed 1 held at P2. -/
def frozen : State := after (.freezeBeds 2 1 2) yard

theorem witness_SnapshotsAreFrozenReadOnceAndEmptied :
    yard.hears 2 ∧ yard.bed 15 = none ∧ (∃ x, yard.bed 1 = some x ∧
      ∀ id ∈ x.cycle.pieces, (yard.piece id).isSome) ∧
      ((frozen.port 2).snapshots[(1 : BedId)]).isSome ∧ frozen.bed 1 = yard.bed 1 :=
  ⟨yard_hears.2.2, by decide, ⟨_, rfl, by decide⟩, by decide +kernel, by decide +kernel⟩

theorem witness_ReceiversAndResponsesFollowTheirStates :
    (yard.port 0).role ≠ .off ∧ (yard.port 0).rx = .hunt ∧ yard.hears 0 ∧ (yard.port 0).tx = .idle ∧
      ((powerOnState #v[.off, .off, .off, .off] false yard).port 0).role = .off ∧
      ((yard.setRx 0 .length).port 0).rx = .length ∧
      ((yard.setRx 0 (.collect 2 [1, 2, 0])).port 0).rx = .collect 2 [1, 2, 0] ∧
      ([1, 2, 0] : List Byte) = 1 :: 2 :: ([] ++ [0]) ∧
      ((yard.answered 0 1 .readClock .ok .empty).port 0).tx ≠ .idle := by
  refine ⟨by decide, by decide, yard_hears.1, by decide, by decide, rfl, rfl, rfl, ?_⟩
  decide

theorem witness_CompletedFramesAreTakenAsTheirRequests :
    (yard.port 0).role ≠ .off ∧ (yard.port 0).tx = .idle ∧
      decodeBody 0 1 .readBed [15] = some (.readBed 0 1 15) ∧ decodeBody 0 1 .readBed [] = none ∧
      (∀ k : RequestKind, k.code ≠ 0xFF) ∧
      ((yard.answered 0 1 .readClock .ok .empty).port 0).tx ≠ .idle := by
  refine ⟨by decide, by decide, by decide, by decide, ?_, by decide⟩
  intro k
  cases k <;> decide

theorem witness_RequestBodiesDecodeToWhatWasEncoded :
    (Instr.setConfig 3 255 4 255 (-32768)).kind? = some .setConfig ∧
      (Instr.setConfig 3 255 4 255 (-32768)).wellFormed = true ∧
      (decodeBody 3 255 .setConfig [4, 255, 128, 0]).isSome = true := by decide

/-- A BED_SET of a bed not defined is refused, and DEFINE_BED from the BEDSIDE port is not permitted. -/
theorem witness_RefusedRequestsChangeNothing :
    (Instr.bedSet 0 1 15).kind? = some .bedSet ∧ (yard.port 0).tx = .idle ∧
      ((after (.bedSet 0 1 15) yard).port 0).tx = .formed ⟨1, 0x20, .noSuch, .empty⟩ ∧
      0x10 ≤ Result.noSuch.code.toNat ∧ loading.ctl = .loading ∧ loading.asks 2 .crane ∧
      (decodeBody 2 1 .scanNow []).isSome ∧ RequestKind.scanNow ∉ anyRoleKinds ∧
      RequestKind.scanNow ∈ officeKinds ∧ yard.asks 1 .bedside ∧ yard.asks 2 .crane := by
  refine ⟨rfl, by decide, by decide +kernel, by decide, rfl, by unfold State.asks; decide, by decide,
    by decide, by decide, yard_bedside, yard_crane⟩

/-- A wrap of a freeze-enabled counter at an event whose counters are not frozen, and an event while frozen. -/
theorem witness_CountersTakeAnEventsAmounts :
    yard.counters.frozen = false ∧
      Counter.wraps ⟨.scanDone, .any, 4294967295, false, true⟩ [.scanDone] = true ∧
      ({ yard with counters := { yard.counters with frozen := true } } : State).counters.frozen = true := by
  decide

theorem witness_CounterRequestsWriteWhatTheyName :
    yard.asks 0 .office ∧ yard.hears 1 ∧ filterFits 16 (.bed 15) ∧ ¬ filterFits 15 (.bed 15) :=
  ⟨yard_office, yard_hears.2.1, .inr (.inr rfl), by unfold filterFits; decide⟩

/-! #### The steps that the invariants speak of -/

/-- The yard with NEXT_MOVE of crane 0 in front of its queue. -/
def stepping : State := yard.queueFront (.nextMove 2 7 0 20)

theorem witness_step : step stepping = .next (after (.nextMove 2 7 0 20) yard) := rfl

theorem witness_EveryStepKeepsTheFeederWithinItsLimit :
    stepping.powerSafe ∧ step stepping = .next (after (.nextMove 2 7 0 20) yard) :=
  ⟨yard_powerSafe, witness_step⟩

theorem witness_BedMaturityNeverDecreasesInRunning :
    (finishing.queueFront (.conversionCompletion 2000)).maturitySafe ∧
      step (finishing.queueFront (.conversionCompletion 2000)) =
        .next (after (.conversionCompletion 2000) finishing) ∧
      (finishing.queueFront (.conversionCompletion 2000)).ctl = .running ∧
      (∀ r0 r1 r2 r3 shed, (finishing.queueFront (.conversionCompletion 2000)).pending.head? ≠
        some (.powerOn r0 r1 r2 r3 shed)) :=
  ⟨yard_maturitySafe, rfl, rfl, nofun⟩

theorem witness_EveryStepKeepsTheMoveBooks :
    step stepping = .next (after (.nextMove 2 7 0 20) yard) ∧ stepping.creditSafe ∧ stepping.linksSafe ∧
      stepping.holdingSafe :=
  ⟨witness_step, yard_creditSafe, yard_linksSafe, yard_holdingSafe⟩

theorem witness_EveryStepKeepsStacksAndSpansApart :
    step stepping = .next (after (.nextMove 2 7 0 20) yard) ∧ stepping.stacksSafe ∧ stepping.spansSafe :=
  ⟨witness_step, yard_stacksSafe, yard_spansSafe⟩

theorem witness_EveryStepKeepsTheStoredFigures :
    step stepping = .next (after (.nextMove 2 7 0 20) yard) ∧ stepping.settingsSafe ∧
      stepping.profilesSafe ∧ stepping.recordsSafe ∧ stepping.timerSafe :=
  ⟨witness_step, yard_settingsSafe, yard_profilesSafe, yard_recordsSafe, yard_timerSafe⟩

end Sys2Proof.Tests
end

section
/-! The allocation as the statements speak of it: each figure of chapter 5 in the statements' words, what an
allocation and the end of its event make of the state, and the forming of its answer. -/

namespace Sys2Proof.Machine

/-! ### The figures of the budget (R80) -/

/-- The heat budget, cut at 0, in the statements' words (R80). -/
theorem State.heatBudget_toNat (s : State) :
    s.heatBudget.toNat = s.limitNow - s.limits.baseLoad - s.reservations := by
  have hr : s.reservedSum = s.reservations := total_onEach _ _
  have hl : s.effectiveLimit = s.limitNow := rfl
  rw [State.heatBudget, hr, hl]
  omega

/-- The guard table holds each slot's guard kW; a guard of 0 kW brings nothing, in the guard set or not. -/
theorem State.guards_get (s : State) (b : BedId) : s.guards[b] = s.guardAt b := by
  simp only [State.guards, onEach_get, State.guardAt, State.bed]
  cases s.beds[b] with
  | none => rfl
  | some x =>
    by_cases h : x.heat.frost = true ∧ ¬ x.heat.overheat = true
    · have hguarded : x.guarded = true ↔ 0 < x.defn.guard := by simp [Bed.guarded, h]
      simp only [hguarded, if_pos h]
      split <;> omega
    · have hguarded : ¬ x.guarded = true := by
        simpa [Bed.guarded] using fun hf ho => absurd ⟨hf, by simp [ho]⟩ h
      simp only [if_neg h, if_neg hguarded]

/-- A slot's demand in the statements' words (R74). -/
theorem State.slotDemand_bed (s : State) (b : BedId) : slotDemand (s.bed b) = s.demandAt b := by
  simp only [slotDemand, State.demandAt]
  cases s.bed b with
  | none => rfl
  | some x => cases hc : x.cycle.state <;> simp [hc]

/-- The sum of the enrolled ratings in the statements' words (R10). -/
theorem State.enrolledRatings_eq_sum (s : State) :
    s.enrolledRatings = ∑ k : CraneId, (s.crane k).rating := by
  rw [State.enrolledRatings, total_onEach]
  refine Finset.sum_congr rfl fun k _ => ?_
  simp only [State.crane, Crane.rating]
  cases s.cranes[k].enrolment <;> rfl

/-- The limit inequalities as propositions (R10). -/
theorem limitsHold_iff (l : Limits) (ratings : Nat) :
    limitsHold l ratings = true ↔
      l.shedLimit ≤ l.limit ∧ l.limit ≤ 20000 ∧ l.baseLoad + ratings ≤ l.shedLimit := by
  simp [limitsHold, and_assoc]

/-! ### The heat an allocation gives (R85, R86) -/

/-- A slot's share of a scaled table: in full when the sum fits, else cut by one fraction. -/
theorem scaled_get (v : Vector Nat 16) (budget : Nat) (b : BedId) :
    (scaled v budget)[b] =
      if ∑ c : BedId, v[c] ≤ budget then v[b] else v[b] * budget / ∑ c : BedId, v[c] := by
  rw [scaled, total_eq_sum]
  split
  · rfl
  · exact onEach_get _ _ _

/-- The two passes of an allocation share the heat as the statements say. -/
theorem shares_grants (guards demand : Vector Nat 16) (budget : Nat) :
    shares (fun b => guards[b]) (fun b => demand[b]) budget
      (fun b => (grants guards demand budget)[b]) := by
  intro b
  simp only [grants, extras, onEach_get, scaled_get, total_eq_sum]

/-- The heat an allocation gives in a state is shared by the guards and demands of its slots. -/
theorem State.allotment_shares (s : State) :
    shares s.guardAt s.demandAt (s.limitNow - s.limits.baseLoad - s.reservations)
      (fun b => s.allotment[b]) := by
  have hguard : s.guardAt = fun b => s.guards[b] := funext fun b => (s.guards_get b).symm
  have hdemand : s.demandAt = fun b => (onEach (fun _ ob => slotDemand ob) s.beds)[b] :=
    funext fun b => by rw [onEach_get, ← State.slotDemand_bed, State.bed]
  rw [hguard, hdemand, ← s.heatBudget_toNat]
  exact shares_grants _ _ _

/-! ### What an allocation raises -/

/-- An alert adds to a port's pending set and changes nothing else there. -/
theorem Port.join_eq_or (k : AlertKind) (t : Toward) (p : PortId) (x : Port) :
    ∃ a, x.join k t p = { x with alerts := x.alerts ||| a } := by
  unfold Port.join
  split
  · exact ⟨k.bit, rfl⟩
  · exact ⟨0, by simp⟩

/-- An alert leaves no pending kind out. -/
theorem Port.join_keeps (k : AlertKind) (t : Toward) (p : PortId) (x : Port) {n : Nat}
    (h : x.alerts.getLsbD n = true) : (x.join k t p).alerts.getLsbD n = true := by
  obtain ⟨a, ha⟩ := Port.join_eq_or k t p x
  simp [ha, h]

/-- The mask of an alert kind holds its own bit. -/
@[simp] theorem AlertKind.bit_num (k : AlertKind) : k.bit.getLsbD k.num = true := by
  cases k <;> rfl

/-- A port that is not OFF and enables a kind holds it pending once it is raised toward every port. -/
theorem Port.join_everyPort {k : AlertKind} {x : Port} (p : PortId) (hrole : x.role ≠ .off)
    (hmask : x.mask.getLsbD k.num = true) :
    (x.join k .everyPort p).alerts.getLsbD k.num = true := by
  have hsees : Toward.everyPort.sees p x.role = true := by
    cases hr : x.role with
    | off => exact absurd hr hrole
    | office | bedside | crane => rfl
  simp [Port.join, hsees, hmask]

/-- A port after an alert that is raised under a condition. -/
theorem State.raiseIf_port (s : State) (c : Bool) (k : AlertKind) (p : PortId) :
    (s.raiseIf c k).port p = if c then (s.port p).join k .everyPort p else s.port p := by
  unfold State.raiseIf
  split
  · exact State.raise_port _ _ _ _
  · rfl

/-- An alert changes only the ports. -/
theorem State.raiseIf_eq (s : State) (c : Bool) (k : AlertKind) :
    s.raiseIf c k = { s with ports := (s.raiseIf c k).ports } := by
  unfold State.raiseIf
  split <;> rfl

/-- Some bed is curtailed exactly when the list of curtailed beds is not empty. -/
theorem State.curtailedBeds_nonempty_iff (s : State) :
    (!s.curtailedBeds.isEmpty) = true ↔ ∃ b x, s.bed b = some x ∧ x.heat.curtailed = true := by
  simp [State.curtailedBeds, State.mem_definedBeds, List.filter_eq_nil_iff]

/-! ### An allocation and the end of its event -/

/-- The output level of a defined slot in the statements' words (R88). -/
theorem outputLevel_some (x : Bed) (granted : Nat) :
    outputLevel (some x) granted =
      if x.defn.rated = 0 then 0 else 255 * granted / x.defn.rated := by
  by_cases h : x.defn.rated = 0 <;> simp [outputLevel, h]

/-- The levels after an allocation are those of its grants (R88). -/
theorem allocate_levels (e : Event) (b : BedId) :
    (allocate e).st.budget.levels[b] =
      outputLevel (e.st.bed b) (allocate e).st.budget.granted[b] := by
  rw [allocate_granted, allocate_eq, State.raiseIf_budget]
  exact onEach_get _ _ _

@[simp] theorem State.writeAllocation_port (s : State) (p : PortId) :
    s.writeAllocation.port p = s.port p := by
  simp only [State.port, State.writeAllocation]

/-- A port after an allocation: CURTAILED joins its pending set when a bed is curtailed (R87). -/
theorem allocate_port (e : Event) (p : PortId) :
    (allocate e).st.port p =
      if !e.st.writeAllocation.curtailedBeds.isEmpty then
        (e.st.port p).join .curtailed .everyPort p
      else e.st.port p := by
  rw [allocate_eq, State.raiseIf_port, State.writeAllocation_port]

/-- The beds after an allocation are those with the curtailed flags it wrote. -/
theorem allocate_bed_eq_writeAllocation (e : Event) (b : BedId) :
    (allocate e).st.bed b = e.st.writeAllocation.bed b := by
  rw [allocate_eq, State.bed, State.raiseIf_beds, State.bed]

/-- A port that enables CURTAILED holds it pending after an allocation that curtails a bed. -/
theorem allocate_raises_curtailed (e : Event) (p : PortId) (hrole : (e.st.port p).role ≠ .off)
    (hmask : (e.st.port p).mask.getLsbD 8 = true)
    (hcut : ∃ b x, (allocate e).st.bed b = some x ∧ x.heat.curtailed = true) :
    ((allocate e).st.port p).alerts.getLsbD 8 = true := by
  simp only [allocate_bed_eq_writeAllocation] at hcut
  rw [allocate_port, if_pos ((State.curtailedBeds_nonempty_iff _).mpr hcut)]
  exact Port.join_everyPort (k := .curtailed) p hrole hmask

/-- An allocation changes only the beds, the budget and the ports. -/
theorem allocate_frame (e : Event) :
    (allocate e).st =
      { e.st with
        beds := (allocate e).st.beds, budget := (allocate e).st.budget
        ports := (allocate e).st.ports } := by
  rw [allocate_eq]
  simp only [State.raiseIf_beds, State.raiseIf_budget]
  rw [State.raiseIf_eq]
  simp only [State.writeAllocation]

/-- An allocation is taken as the statements describe it (R85 to R88). -/
theorem allocate_allocatesTo (e : Event) : e.st.allocatesTo (allocate e).st := by
  refine ⟨?_, ?_, ?_, fun b => ?_, fun b => ?_, fun p => ⟨?_, allocate_raises_curtailed e p⟩⟩
  · rw [allocate_counters]
    exact allocate_frame e
  · rw [allocate_eq, State.raiseIf_budget]
    rfl
  · rw [allocate_granted]
    exact e.st.allotment_shares
  · rw [allocate_granted]
    exact allocate_bed e b
  · rw [allocate_levels]
    cases e.st.bed b with
    | none => rfl
    | some x => exact outputLevel_some x _
  · rw [allocate_port]
    split
    · exact Port.join_eq_or _ _ _ _
    · exact ⟨0, by simp⟩

/-- The end of an event changes only the ports and the counters. -/
theorem Event.close_eq (e : Event) :
    e.close = { e.st with ports := e.close.ports, counters := e.close.counters } := by
  unfold Event.close
  split
  · rfl
  · rw [State.raiseIf_eq]

/-- The end of an event leaves an allocation as it was taken: it may only raise COUNTER_OVERFLOW (R187). -/
theorem State.allocatesTo.close {u : State} {e : Event} (h : u.allocatesTo e.st) :
    u.allocatesTo e.close := by
  obtain ⟨hframe, hbudget, hshares, hbeds, hlevels, hports⟩ := h
  refine ⟨?_, ?_, ?_, ?_, ?_, fun p => ?_⟩
  · calc e.close
        = { e.st with ports := e.close.ports, counters := e.close.counters } := e.close_eq
      _ = { u with
            beds := e.st.beds, budget := e.st.budget
            ports := e.close.ports, counters := e.close.counters } :=
          congrArg (fun s : State => { s with ports := e.close.ports, counters := e.close.counters })
            hframe
      _ = _ := by rw [Event.close_beds, Event.close_budget]
  · rw [Event.close_budget]
    exact hbudget
  · rw [Event.close_budget]
    exact hshares
  · simpa only [Event.close_bed, Event.close_budget] using hbeds
  · simpa only [Event.close_budget] using hlevels
  · obtain ⟨⟨a, ha⟩, hcurtailed⟩ := hports p
    simp only [Event.close_bed]
    rcases e.close_port p with hp | hp
    · rw [hp]
      exact ⟨⟨a, ha⟩, hcurtailed⟩
    · rw [hp]
      refine ⟨?_, fun hrole hmask hcut => Port.join_keeps _ _ _ _ (hcurtailed hrole hmask hcut)⟩
      obtain ⟨a', ha'⟩ := Port.join_eq_or .counterOverflow .everyPort p (e.st.port p)
      exact ⟨a ||| a', by rw [ha', ha, BitVec.or_assoc]⟩

/-! ### The answer of a request that allocates -/

/-- An alert joins a port alike before and after its response is formed. -/
theorem Port.join_setTx (k : AlertKind) (t : Toward) (p : PortId) (x : Port) (tx : Transmit) :
    Port.join k t p { x with tx := tx } = { x.join k t p with tx := tx } := by
  unfold Port.join
  split <;> rfl

/-- Raising an alert and forming a response commute. -/
theorem State.raise_answered (s : State) (kind : AlertKind) (t : Toward) (p : PortId) (tag : Byte)
    (k : RequestKind) (r : Result) (a : Answer) :
    (s.raise kind t).answered p tag k r a = (s.answered p tag k r a).raise kind t := by
  have hports : ((s.raise kind t).answered p tag k r a).ports =
      ((s.answered p tag k r a).raise kind t).ports := by
    refine vector_ext_fin fun q => ?_
    change ((s.raise kind t).answered p tag k r a).port q =
      ((s.answered p tag k r a).raise kind t).port q
    simp only [State.answered, State.raise_port, State.modPort_port]
    split
    · next h =>
      subst h
      exact (Port.join_setTx _ _ _ _ _).symm
    · rfl
  exact congrArg (fun v => { s with ports := v }) hports

/-- Raising an alert under a condition and forming a response commute. -/
theorem State.raiseIf_answered (s : State) (c : Bool) (kind : AlertKind) (p : PortId) (tag : Byte)
    (k : RequestKind) (r : Result) (a : Answer) :
    (s.raiseIf c kind).answered p tag k r a = (s.answered p tag k r a).raiseIf c kind := by
  unfold State.raiseIf
  split
  · exact State.raise_answered _ _ _ _ _ _ _ _
  · rfl

/-- Forming a response and writing an allocation commute. -/
theorem State.writeAllocation_answered (s : State) (p : PortId) (tag : Byte) (k : RequestKind)
    (r : Result) (a : Answer) :
    s.writeAllocation.answered p tag k r a = (s.answered p tag k r a).writeAllocation := by
  have hallotment : (s.answered p tag k r a).allotment = s.allotment := rfl
  simp only [State.writeAllocation, hallotment]
  simp only [State.answered, State.modPort, State.now]

/-- An allocation and the forming of a response commute: the statements form the response first. -/
theorem allocate_answered (e : Event) (p : PortId) (tag : Byte) (k : RequestKind) (r : Result)
    (a : Answer) :
    (allocate e).upd (fun s => s.answered p tag k r a) =
      allocate (e.upd fun s => s.answered p tag k r a) := by
  simp only [allocate_eq, Event.upd, State.raiseIf_answered, State.writeAllocation_answered]
  rfl

/-- A request accepted with an allocation ends with the allocation taken of its answered state. -/
theorem respond_allocate (e : Event) (p : PortId) (tag : Byte) (k : RequestKind) (a : Answer) :
    (e.st.answered p tag k .ok a).allocatesTo (respond p tag k.code (acceptEvent (allocate e) a)) := by
  have h : respond p tag k.code (acceptEvent (allocate e) a) =
      (allocate (e.upd fun s => s.answered p tag k .ok a)).close := by
    rw [← allocate_answered]
    rfl
  rw [h]
  exact (allocate_allocatesTo (e.upd fun s => s.answered p tag k .ok a)).close

end Sys2Proof.Machine
end

section
/-! SET_LIMITS (R10): its rule in each of its branches, and statement O11. -/

namespace Sys2Proof.Machine

/-- The inequalities of R10 for the limits a SET_LIMITS names. -/
def State.limitsFit (s : State) (l : Limits) : Prop :=
  l.shedLimit ≤ l.limit ∧ l.limit ≤ 20000 ∧
    l.baseLoad + ∑ k : CraneId, (s.crane k).rating ≤ l.shedLimit

/-- The rule's own check is that of R10. -/
theorem State.limitsFit_iff (s : State) (l : Limits) :
    limitsHold l s.enrolledRatings = true ↔ s.limitsFit l := by
  rw [limitsHold_iff, State.enrolledRatings_eq_sum, State.limitsFit]

/-- The rule of SET_LIMITS refuses figures that break an inequality. -/
theorem takeSetLimits_unfit {s : State} {l ls b : Nat} (h : ¬ s.limitsFit ⟨l, ls, b⟩) :
    takeSetLimits l ls b s = refuse s .badValue := by
  rw [takeSetLimits, if_neg (mt (s.limitsFit_iff _).mp h)]

/-- The rule of SET_LIMITS stores figures that fit, and takes an allocation with them in RUNNING. -/
theorem takeSetLimits_fit {s : State} {l ls b : Nat} (h : s.limitsFit ⟨l, ls, b⟩) :
    takeSetLimits l ls b s =
      acceptEvent (allocateRunning (State.event { s with limits := ⟨l, ls, b⟩ })) .empty := by
  rw [takeSetLimits, if_pos ((s.limitsFit_iff _).mpr h)]

/-- SET_LIMITS at an OFFICE port is answered by its rule in either state. -/
theorem exec_setLimits_office {s : State} {p : PortId} (h : s.asks p .office) (tag : Byte)
    (l ls b : Nat) :
    exec (.setLimits p tag l ls b) s =
      .next (respond p tag RequestKind.setLimits.code (takeSetLimits l ls b s)) := by
  rw [← serve_office h rfl rfl]
  rfl

/-- Settles O11: the rule's branches, with the allocation of RUNNING taken of the answered state. -/
theorem setLimitsAllocatesInRunning : Obligations.SetLimitsAllocatesInRunning := by
  intro p tag l ls b s hp fit run
  have hrun : run = .next (respond p tag RequestKind.setLimits.code (takeSetLimits l ls b s)) :=
    exec_setLimits_office hp tag l ls b
  rw [hrun]
  refine ⟨fun hunfit => ?_, fun hfit hctl => ?_, fun hfit hctl => ?_⟩
  · rw [takeSetLimits_unfit hunfit, respond_refused p tag .setLimits s .badValue]
  · rw [takeSetLimits_fit hfit, allocateRunning_loading hctl]
    exact congrArg _ (respond_ok p tag .setLimits _ _)
  · rw [takeSetLimits_fit hfit, allocateRunning_running hctl]
    exact ⟨_, rfl, respond_allocate _ p tag .setLimits .empty⟩

end Sys2Proof.Machine
end

section
/-! READ_PROBE and CLEAR_PROBE_TALLY (R22): each rule in each of its branches, what a clearing makes of the
Scan Unit, and statement O17. -/

namespace Sys2Proof.Machine

/-! ### Flag bytes (section 10.6) -/

/-- A flag is read back from the byte that sends it. -/
@[simp] theorem flag?_ofBool (o : Bool) : flag? (if o then 1 else 0) = some o := by
  cases o <;> rfl

/-- A byte from 2 on is no flag. -/
theorem flag?_none {n : Nat} (h : 2 ≤ n) : flag? n = none := by
  match n, h with
  | _ + 2, _ => rfl

/-! ### READ_PROBE -/

/-- The rule of READ_PROBE answers the record of its channel. -/
theorem takeReadProbe_channel (c : Channel) (s : State) :
    takeReadProbe c s = accept s (.probe s.scan.probes[c]) := by
  rw [takeReadProbe, slot?_val]

/-- The rule of READ_PROBE refuses a number that names no channel. -/
theorem takeReadProbe_outOfRange {n : Nat} (h : 64 ≤ n) (s : State) :
    takeReadProbe n s = refuse s .badValue := by
  rw [takeReadProbe, slot?_none h]

/-- READ_PROBE is answered by its rule at a port of any role. -/
theorem exec_readProbe_hears {s : State} {p : PortId} (h : s.hears p) (tag : Byte) (n : Nat) :
    exec (.readProbe p tag n) s =
      .next (respond p tag RequestKind.readProbe.code (takeReadProbe n s)) := by
  rw [← serve_hears h rfl rfl]
  rfl

/-! ### CLEAR_PROBE_TALLY -/

/-- The probes with the tallies of the channels named in a mask at 0 (R22). -/
def clearTallies (mask : Nat) (v : Vector Probe 64) : Vector Probe 64 :=
  onEach (fun c q => if inMask mask c then { q with tally := 0 } else q) v

/-- A clearing reaches the tally of a named channel and nothing else of any record. -/
theorem clearTallies_get (mask : Nat) (v : Vector Probe 64) (c : Channel) :
    (clearTallies mask v)[c] = if mask.testBit c then { v[c] with tally := 0 } else v[c] :=
  onEach_get _ _ _

/-- The empty mask clears no tally. -/
@[simp] theorem clearTallies_zero (v : Vector Probe 64) : clearTallies 0 v = v :=
  onEach_self _ _ fun c => by simp [inMask]

/-- The rule of CLEAR_PROBE_TALLY with a flag: the named tallies and, with it, the overrun tally. -/
theorem takeClearProbeTally_flag (mask : Nat) (o : Bool) (s : State) :
    takeClearProbeTally mask (if o then 1 else 0) s =
      accept
        { s with scan :=
          { s.scan with
            probes := clearTallies mask s.scan.probes
            overruns := if o then 0 else s.scan.overruns } }
        .empty := by
  rw [takeClearProbeTally, flag?_ofBool]
  rfl

/-- The rule of CLEAR_PROBE_TALLY with an empty mask and no flag changes nothing. -/
theorem takeClearProbeTally_nothing (s : State) : takeClearProbeTally 0 0 s = accept s .empty := by
  have h := takeClearProbeTally_flag 0 false s
  simpa only [clearTallies_zero, Bool.false_eq_true, if_false] using h

/-- The rule of CLEAR_PROBE_TALLY refuses a byte that is no flag. -/
theorem takeClearProbeTally_noFlag {n : Nat} (h : 2 ≤ n) (mask : Nat) (s : State) :
    takeClearProbeTally mask n s = refuse s .badValue := by
  rw [takeClearProbeTally, flag?_none h]

/-- CLEAR_PROBE_TALLY at an OFFICE port is answered by its rule in either state. -/
theorem exec_clearProbeTally_office {s : State} {p : PortId} (h : s.asks p .office) (tag : Byte)
    (mask n : Nat) :
    exec (.clearProbeTally p tag mask n) s =
      .next (respond p tag RequestKind.clearProbeTally.code (takeClearProbeTally mask n s)) := by
  rw [← serve_office h rfl rfl]
  rfl

/-- Settles O17: each request is answered by its rule, branch by branch; no branch looks at the scan in
flight. -/
theorem readProbeAndClearProbeTally : Obligations.ReadProbeAndClearProbeTally := by
  intro p tag s
  refine ⟨fun hp => ⟨fun c => ?_, fun n hn => ?_⟩, fun hp => ⟨fun mask o => ?_, ?_, fun mask n hn => ?_⟩⟩
  · rw [exec_readProbe_hears hp, takeReadProbe_channel, respond_ok]
  · rw [exec_readProbe_hears hp, takeReadProbe_outOfRange hn,
      respond_refused p tag .readProbe s .badValue]
  · refine ⟨clearTallies mask s.scan.probes, ?_, clearTallies_get mask _⟩
    rw [exec_clearProbeTally_office hp, takeClearProbeTally_flag, respond_ok]
  · rw [exec_clearProbeTally_office hp, takeClearProbeTally_nothing, respond_ok]
  · rw [exec_clearProbeTally_office hp, takeClearProbeTally_noFlag hn,
      respond_refused p tag .clearProbeTally s .badValue]

end Sys2Proof.Machine
end

section
/-! SET_PROFILE and READ_PROFILE (R60, R61): the range check of R59 in the statements' words, each rule in each
of its branches, and statement O26. -/

namespace Sys2Proof.Machine

/-- The rule's own check of a profile is that of R59. -/
theorem profileInRange_iff (q : Profile) : profileInRange q = true ↔ q.legal := by
  simp [profileInRange, between, Profile.legal, and_assoc]

/-! ### SET_PROFILE -/

/-- The stored profiles with one profile written into the slots named in a mask (R60). -/
def storeProfile (mask : Nat) (q : Profile) (v : Vector Profile 16) : Vector Profile 16 :=
  onEach (fun b old => if inMask mask b then q else old) v

/-- A named slot holds the profile written, and every other slot what it held. -/
theorem storeProfile_get (mask : Nat) (q : Profile) (v : Vector Profile 16) (b : BedId) :
    (storeProfile mask q v)[b] = if mask.testBit b then q else v[b] :=
  onEach_get _ _ _

/-- The rule of SET_PROFILE stores a profile in range. -/
theorem takeSetProfile_legal {q : Profile} (h : q.legal) (mask : Nat) (s : State) :
    takeSetProfile mask q s =
      accept { s with profiles := storeProfile mask q s.profiles } .empty := by
  rw [takeSetProfile, if_neg (not_not_intro ((profileInRange_iff q).mpr h)), storeProfile]

/-- The rule of SET_PROFILE refuses a profile with a figure out of range. -/
theorem takeSetProfile_illegal {q : Profile} (h : ¬ q.legal) (mask : Nat) (s : State) :
    takeSetProfile mask q s = refuse s .badValue := by
  rw [takeSetProfile, if_pos (mt (profileInRange_iff q).mp h)]

/-- SET_PROFILE at an OFFICE port is answered by its rule in either state. -/
theorem exec_setProfile_office {s : State} {p : PortId} (h : s.asks p .office) (tag : Byte)
    (mask : Nat) (q : Profile) :
    exec (.setProfile p tag mask q) s =
      .next (respond p tag RequestKind.setProfile.code (takeSetProfile mask q s)) := by
  rw [← serve_office h rfl rfl]
  rfl

/-! ### READ_PROFILE -/

/-- The rule of READ_PROFILE answers the slot's stored profile and its bed's working profile, if any. -/
theorem takeReadProfile_slot (b : BedId) (s : State) :
    takeReadProfile b s =
      accept s (.profiles s.profiles[b] ((s.bed b).bind fun x => x.heat.working)) := by
  rw [takeReadProfile, slot?_val]

/-- The rule of READ_PROFILE refuses a number that names no slot. -/
theorem takeReadProfile_outOfRange {n : Nat} (h : 16 ≤ n) (s : State) :
    takeReadProfile n s = refuse s .badValue := by
  rw [takeReadProfile, slot?_none h]

/-- READ_PROFILE is answered by its rule at a port of any role. -/
theorem exec_readProfile_hears {s : State} {p : PortId} (h : s.hears p) (tag : Byte) (n : Nat) :
    exec (.readProfile p tag n) s =
      .next (respond p tag RequestKind.readProfile.code (takeReadProfile n s)) := by
  rw [← serve_hears h rfl rfl]
  rfl

/-- Settles O26: each request is answered by its rule, branch by branch; only the range check of R59 parts the
branches of SET_PROFILE, whatever slots are defined. -/
theorem profilesAreStoredBySlotAndRead : Obligations.ProfilesAreStoredBySlotAndRead := by
  intro p tag s
  refine ⟨fun hp mask q => ⟨fun hq => ?_, fun hq => ?_⟩, fun hp => ⟨fun b => ?_, fun n hn => ?_⟩⟩
  · rw [exec_setProfile_office hp, takeSetProfile_illegal hq,
      respond_refused p tag .setProfile s .badValue]
  · refine ⟨storeProfile mask q s.profiles, ?_, storeProfile_get mask q _⟩
    rw [exec_setProfile_office hp, takeSetProfile_legal hq, respond_ok]
  · rw [exec_readProfile_hears hp, takeReadProfile_slot, respond_ok]
    cases s.bed b <;> rfl
  · rw [exec_readProfile_hears hp, takeReadProfile_outOfRange hn,
      respond_refused p tag .readProfile s .badValue]

end Sys2Proof.Machine
end

section
/-! READ_BUDGET (R93): the sums of the budget in the statements' words, the report's line of each bed slot, and
statement O29. -/

namespace Sys2Proof.Machine

/-- The sum of the reservations in the statements' words (R80). -/
theorem State.reservedSum_eq (s : State) : s.reservedSum = s.reservations := total_onEach _ _

/-- The sum of the guards in the statements' words (R80). -/
theorem State.guardSum_eq_sum (s : State) : s.guardSum = ∑ b, s.guardAt b := by
  rw [State.guardSum, total_eq_sum]
  exact Finset.sum_congr rfl fun b _ => s.guards_get b

/-- The heat budget, which may be negative, in the statements' words (R80). -/
theorem State.heatBudget_eq (s : State) :
    s.heatBudget = (s.limitNow : Int) - s.limits.baseLoad - s.reservations := by
  rw [State.heatBudget, s.reservedSum_eq]
  rfl

/-- The report's guard figure is Σg as it stands at the read. -/
theorem State.budgetReport_guards (s : State) : s.budgetReport.guards = s.guardSum := by
  simp only [State.budgetReport]

/-- The report's spare heat is its heat budget less its guards (R90). -/
theorem State.budgetReport_spare (s : State) :
    s.budgetReport.spare = s.budgetReport.heatBudget - s.budgetReport.guards := by
  simp only [State.budgetReport]

/-- The report's line of a bed slot: the slot's grant and level stand whether the slot is defined or not. -/
theorem State.budgetReport_bed (s : State) (b : BedId) :
    s.budgetReport.beds[b] = match s.bed b with
      | none => ⟨0, s.budget.granted[b], s.budget.levels[b], false, false⟩
      | some x => ⟨x.heat.requested, s.budget.granted[b], s.budget.levels[b], x.heat.curtailed,
          x.heat.frost && !x.heat.overheat && decide (0 < x.defn.guard)⟩ := by
  simp only [State.budgetReport, onEach_get, State.bed]
  cases s.beds[b] <;> rfl

/-- READ_BUDGET is answered with its report at a port of any role, in either state. -/
theorem exec_readBudget_hears {s : State} {p : PortId} (h : s.hears p) (tag : Byte) :
    exec (.readBudget p tag) s = .next (s.answered p tag .readBudget .ok (.budget s.budgetReport)) := by
  rw [← respond_ok]
  exact congrArg _ (serve_hears h rfl rfl tag takeReadBudget)

/-- Settles O29: the answer is the report, whose figures are read off field by field. -/
theorem readBudgetFormsItsFigures : Obligations.ReadBudgetFormsItsFigures := by
  intro p tag s hp
  exact ⟨s.budgetReport, exec_readBudget_hears hp tag, rfl, rfl, rfl, s.reservedSum_eq, s.heatBudget_eq,
    s.budgetReport_guards.trans s.guardSum_eq_sum, s.budgetReport_spare, fun _ => onEach_get _ _ _,
    s.budgetReport_bed, rfl⟩

end Sys2Proof.Machine
end

section
/-! What keeps the feeder within its limit (R82, R89): the figures that the invariant looks at, the bound that
an allocation keeps, and what each change of a crane leaves of the invariant. -/

namespace Sys2Proof.Machine

/-! ### The figures the invariant looks at -/

/-- All of the state that the feeder's invariant looks at. -/
structure PowerFigures where
  ctl : Ctl
  limits : Limits
  shed : Bool
  granted : Vector Nat 16
  cranes : Vector Crane 4

/-- The figures of a state that the feeder's invariant looks at. -/
def State.powerFigures (s : State) : PowerFigures :=
  ⟨s.ctl, s.limits, s.budget.shed, s.budget.granted, s.cranes⟩

/-- What the feeder's bound rests on: all of its invariant that an allocation needs. -/
def State.powerGrounded (s : State) : Prop := s.limitsSafe ∧ s.reservationsSafe ∧ s.loadingIdle

/-- The feeder's invariant is its bound with what the bound rests on. -/
theorem State.powerSafe_iff (s : State) : s.powerSafe ↔ s.powerGrounded ∧ s.feederSafe := by
  simp only [State.powerSafe, State.powerGrounded, and_assoc]

theorem State.powerSafe.grounded {s : State} (h : s.powerSafe) : s.powerGrounded :=
  (s.powerSafe_iff.mp h).1

/-- A state with the same figures has the same grounds for the bound. -/
theorem State.powerGrounded.congr {s t : State} (h : s.powerGrounded)
    (ht : t.powerFigures = s.powerFigures) : t.powerGrounded := by
  simp only [State.powerFigures, PowerFigures.mk.injEq] at ht
  obtain ⟨hctl, hlimits, -, hgranted, hcranes⟩ := ht
  simpa only [State.powerGrounded, State.limitsSafe, State.reservationsSafe, State.loadingIdle,
    State.enrolledRatings, State.crane, hctl, hlimits, hgranted, hcranes] using h

/-- A state with the same figures is as safe. -/
theorem State.powerSafe.congr {s t : State} (h : s.powerSafe) (ht : t.powerFigures = s.powerFigures) :
    t.powerSafe := by
  obtain ⟨hgrounded, hfeeder⟩ := s.powerSafe_iff.mp h
  refine t.powerSafe_iff.mpr ⟨hgrounded.congr ht, ?_⟩
  simp only [State.powerFigures, PowerFigures.mk.injEq] at ht
  obtain ⟨-, hlimits, hshed, hgranted, hcranes⟩ := ht
  simpa only [State.feederSafe, State.effectiveLimit, State.reservedSum, hlimits, hshed, hgranted,
    hcranes] using hfeeder

/-- A change that keeps the figures keeps them through a whole list. -/
theorem foldl_powerFigures {α : Type} {f : State → α → State}
    (h : ∀ s a, (f s a).powerFigures = s.powerFigures) (l : List α) (s : State) :
    (l.foldl f s).powerFigures = s.powerFigures := by
  induction l generalizing s with
  | nil => rfl
  | cons a l ih => rw [List.foldl_cons, ih, h]

/-! ### What leaves the figures as they stand -/

@[simp] theorem refuse_powerFigures (s : State) (r : Result) :
    (refuse s r).event.st.powerFigures = s.powerFigures := rfl
@[simp] theorem refuseWith_powerFigures (s : State) (r : Result) (a : Answer) :
    (refuseWith s r a).event.st.powerFigures = s.powerFigures := rfl
@[simp] theorem accept_powerFigures (s : State) (a : Answer) :
    (accept s a).event.st.powerFigures = s.powerFigures := rfl
@[simp] theorem State.setBed_powerFigures (s : State) (b : BedId) (x : Option Bed) :
    (s.setBed b x).powerFigures = s.powerFigures := rfl
@[simp] theorem State.setStack_powerFigures (s : State) (i : StackId) (x : Option Stack) :
    (s.setStack i x).powerFigures = s.powerFigures := rfl
@[simp] theorem State.modPort_powerFigures (s : State) (p : PortId) (f : Port → Port) :
    (s.modPort p f).powerFigures = s.powerFigures := rfl
@[simp] theorem State.setRx_powerFigures (s : State) (p : PortId) (r : Receiver) :
    (s.setRx p r).powerFigures = s.powerFigures := rfl
@[simp] theorem State.raise_powerFigures (s : State) (k : AlertKind) (t : Toward) :
    (s.raise k t).powerFigures = s.powerFigures := rfl
@[simp] theorem State.addPiece_powerFigures (s : State) (x : Piece) :
    (s.addPiece x).powerFigures = s.powerFigures := rfl
@[simp] theorem State.setMove_powerFigures (s : State) (i : SlotId) (m : Option Move) :
    (s.setMove i m).powerFigures = s.powerFigures := rfl
@[simp] theorem State.modPiece_powerFigures (s : State) (id : Nat) (f : Piece → Piece) :
    (s.modPiece id f).powerFigures = s.powerFigures := rfl
@[simp] theorem State.modPieces_powerFigures (s : State) (ids : List Nat) (f : Piece → Piece) :
    (s.modPieces ids f).powerFigures = s.powerFigures := rfl
@[simp] theorem State.freePiece_powerFigures (s : State) (id : Nat) :
    (s.freePiece id).powerFigures = s.powerFigures := rfl

@[simp] theorem State.raiseIf_powerFigures (s : State) (c : Bool) (k : AlertKind) :
    (s.raiseIf c k).powerFigures = s.powerFigures := by
  simp [State.powerFigures]

@[simp] theorem State.raiseBeds_powerFigures (s : State) (k : AlertKind) (pick : BedId → Bool) :
    (s.raiseBeds k pick).powerFigures = s.powerFigures :=
  foldl_powerFigures (fun s b => by split <;> rfl) _ _

@[simp] theorem Event.close_powerFigures (e : Event) : e.close.powerFigures = e.st.powerFigures := by
  simp [State.powerFigures]

@[simp] theorem leaveTable_powerFigures (i : SlotId) (m : Move) (s : State) :
    (leaveTable i m s).powerFigures = s.powerFigures := rfl
@[simp] theorem fewerIncoming_powerFigures (i : StackId) (s : State) :
    (fewerIncoming i s).powerFigures = s.powerFigures := rfl
@[simp] theorem pushPiece_powerFigures (i : StackId) (id : Nat) (s : State) :
    (pushPiece i id s).powerFigures = s.powerFigures := rfl
@[simp] theorem pullPiece_powerFigures (i : StackId) (id : Nat) (s : State) :
    (pullPiece i id s).powerFigures = s.powerFigures := rfl
@[simp] theorem unlistPiece_powerFigures (b : BedId) (id : Nat) (s : State) :
    (unlistPiece b id s).powerFigures = s.powerFigures := rfl
@[simp] theorem returnToEmpty_powerFigures (b : BedId) (s : State) :
    (returnToEmpty b s).powerFigures = s.powerFigures := rfl

@[simp] theorem dropMove_powerFigures (i : SlotId) (s : State) :
    (dropMove i s).powerFigures = s.powerFigures := by
  obtain h | ⟨m, -, -, h⟩ := dropMove_cases i s <;> simp [h]

@[simp] theorem dropMoveOf_powerFigures (id : Nat) (s : State) :
    (dropMoveOf id s).powerFigures = s.powerFigures := by
  unfold dropMoveOf
  split
  · rfl
  · exact dropMove_powerFigures _ _

@[simp] theorem castPieces_powerFigures (b : BedId) (m : Int) (es : List PieceEntry) (s : State) :
    (castPieces b m es s).powerFigures = s.powerFigures :=
  foldl_powerFigures State.addPiece_powerFigures _ _

/-! ### The state of an event under way -/

@[simp] theorem State.event_st (s : State) : s.event.st = s := rfl
@[simp] theorem Event.see_st (e : Event) (h : Happening) : (e.see h).st = e.st := rfl
@[simp] theorem Event.upd_st (e : Event) (f : State → State) : (e.upd f).st = f e.st := rfl

/-! ### The heat budget and its shares (R82, R85, R86) -/

/-- The reservations held are at most the ratings enrolled (R82). -/
theorem State.reservationsSafe.reservedSum_le {s : State} (h : s.reservationsSafe) :
    s.reservedSum ≤ s.enrolledRatings := by
  rw [State.reservedSum, State.enrolledRatings, total_onEach, total_onEach]
  refine Finset.sum_le_sum fun k _ => ?_
  rw [Crane.reserved]
  split
  · exact Nat.zero_le _
  · next r hr =>
    obtain ⟨-, e, he, hrating⟩ := h k r hr
    simp only [State.crane] at he
    simp only [he, hrating, le_refl]

/-- The reservations leave the base load its room beneath the effective limit: H is never below 0 (R82). -/
theorem State.reservedSum_fits {s : State} (hlimits : s.limitsSafe) (hres : s.reservationsSafe) :
    s.reservedSum + s.limits.baseLoad ≤ s.effectiveLimit := by
  have hsum := hres.reservedSum_le
  obtain ⟨hshed, -, hratings⟩ := (limitsHold_iff _ _).mp hlimits
  unfold State.effectiveLimit
  split <;> omega

/-- A table scaled to a budget sums to at most the budget. -/
theorem total_scaled_le (v : Vector Nat 16) (budget : Nat) : total (scaled v budget) ≤ budget := by
  unfold scaled
  split
  · assumption
  · next h =>
    have hpos : 0 < total v := by omega
    rw [total_onEach]
    refine Nat.le_of_mul_le_mul_right ?_ hpos
    calc (∑ b : BedId, v[b] * budget / total v) * total v
        = ∑ b : BedId, v[b] * budget / total v * total v := Finset.sum_mul _ _ _
      _ ≤ ∑ b : BedId, v[b] * budget := Finset.sum_le_sum fun b _ => Nat.div_mul_le_self _ _
      _ = budget * total v := by rw [← Finset.sum_mul, ← total_eq_sum, Nat.mul_comm]

/-- The two passes of an allocation give at most the budget between them. -/
theorem total_grants_le (guards demand : Vector Nat 16) (budget : Nat) :
    total (grants guards demand budget) ≤ budget := by
  have hfirst := total_scaled_le guards budget
  have hsecond := total_scaled_le (extras demand (scaled guards budget))
    (budget - total (scaled guards budget))
  have hsum : total (grants guards demand budget) = total (scaled guards budget) +
      total (scaled (extras demand (scaled guards budget))
        (budget - total (scaled guards budget))) := by
    rw [grants, total_onEach, Finset.sum_add_distrib, ← total_eq_sum, ← total_eq_sum]
  omega

/-! ### An allocation -/

/-- In LOADING the bound follows from what it rests on: nothing is granted or reserved (R89). -/
theorem State.powerGrounded.safe_of_loading {s : State} (h : s.powerGrounded) (hctl : s.ctl = .loading) :
    s.powerSafe := by
  obtain ⟨hlimits, hres, hidle⟩ := h
  have hfits := State.reservedSum_fits hlimits hres
  obtain ⟨hgranted, -⟩ := hidle hctl
  refine ⟨hlimits, hres, hidle, ?_⟩
  rwa [State.feederSafe, hgranted, Nat.zero_add]

/-- An allocation in RUNNING makes the bound hold: its grants fit the heat budget, which is not below 0. -/
theorem allocate_powerSafe {e : Event} (h : e.st.powerGrounded) (hctl : e.st.ctl = .running) :
    (allocate e).st.powerSafe := by
  obtain ⟨hlimits, hres, -⟩ := h
  have hlimits' : (allocate e).st.limitsSafe := by
    simpa only [State.limitsSafe, State.enrolledRatings, allocate_limits, allocate_cranes] using hlimits
  have hres' : (allocate e).st.reservationsSafe := by
    simpa only [State.reservationsSafe, State.crane, allocate_cranes] using hres
  refine ⟨hlimits', hres', fun hl => ?_, ?_⟩
  · rw [allocate_ctl, hctl] at hl
    cases hl
  · have hfits := State.reservedSum_fits hlimits hres
    have hgrants : total e.st.allotment ≤ e.st.heatBudget.toNat := total_grants_le _ _ _
    simp only [State.feederSafe, State.reservedSum, State.effectiveLimit, allocate_granted,
      allocate_cranes, allocate_limits, allocate_shed]
    simp only [State.heatBudget, State.reservedSum, State.effectiveLimit] at hfits hgrants
    omega

/-- An event that changes what the bound rests on stays safe by its allocation, and in LOADING without one. -/
theorem allocateRunning_powerSafe {e : Event} (h : e.st.powerGrounded) :
    (allocateRunning e).st.powerSafe := by
  cases hctl : e.st.ctl with
  | loading =>
    rw [allocateRunning_loading hctl]
    exact h.safe_of_loading hctl
  | running =>
    rw [allocateRunning_running hctl]
    exact allocate_powerSafe h hctl

/-! ### A change of one crane -/

/-- A reservation of the crane is held while it is HOLDING and at its enrolled rating (R82, R83). -/
def Crane.backed (c : Crane) : Prop :=
  ∀ r, c.reservation = some r → c.held.isSome ∧ ∃ e, c.enrolment = some e ∧ e.rating = r.rating

/-- A crane without a reservation needs nothing to back it. -/
theorem Crane.backed_of_none {c : Crane} (h : c.reservation = none) : c.backed := by
  intro r hr
  rw [h] at hr
  cases hr

/-- An IDLE crane holds no reservation (R83). -/
theorem State.reservationsSafe.none_of_idle {s : State} (h : s.reservationsSafe) {k : CraneId}
    (hidle : (s.crane k).held = none) : (s.crane k).reservation = none := by
  cases hr : (s.crane k).reservation with
  | none => rfl
  | some r => simpa [hidle] using (h k r hr).1

/-- The enrolled ratings depend on the enrolments alone. -/
theorem State.enrolledRatings_congr {s t : State}
    (h : ∀ j, (t.crane j).enrolment = (s.crane j).enrolment) :
    t.enrolledRatings = s.enrolledRatings := by
  simp only [State.enrolledRatings_eq_sum, Crane.rating, h]

section CraneChange

variable {s : State} {k : CraneId} {f : Crane → Crane}

/-- The enrolled ratings stay with the crane's enrolment. -/
theorem State.limitsSafe.modCrane (h : s.limitsSafe)
    (henrolment : (f (s.crane k)).enrolment = (s.crane k).enrolment) :
    (s.modCrane k f).limitsSafe := by
  have hratings : (s.modCrane k f).enrolledRatings = s.enrolledRatings := by
    refine State.enrolledRatings_congr fun j => ?_
    rw [State.modCrane_crane]
    split
    · next hj => exact hj ▸ henrolment
    · rfl
  rwa [State.limitsSafe, hratings]

/-- Every reservation stays backed when the changed crane's is. -/
theorem State.reservationsSafe.modCrane (h : s.reservationsSafe) (hbacked : (f (s.crane k)).backed) :
    (s.modCrane k f).reservationsSafe := by
  intro j
  rw [State.modCrane_crane]
  split
  · exact hbacked
  · exact h j

/-- The reservations do not grow when the changed crane's stays or goes. -/
theorem State.reservedSum_modCrane_le
    (hdraws : (f (s.crane k)).reservation = none ∨
      (f (s.crane k)).reservation = (s.crane k).reservation) :
    (s.modCrane k f).reservedSum ≤ s.reservedSum := by
  simp only [State.reservedSum, total_onEach]
  refine Finset.sum_le_sum fun j _ => ?_
  change ((s.modCrane k f).crane j).reserved ≤ (s.crane j).reserved
  rw [State.modCrane_crane]
  split
  · next hj =>
    subst hj
    obtain hr | hr := hdraws <;> simp [Crane.reserved, hr]
  · rfl

/-- A crane whose reservation stays or goes, still backed, leaves the feeder within its limit. -/
theorem State.powerSafe.modCrane (h : s.powerSafe) (hlimits : (s.modCrane k f).limitsSafe)
    (hbacked : (f (s.crane k)).backed)
    (hdraws : (f (s.crane k)).reservation = none ∨
      (f (s.crane k)).reservation = (s.crane k).reservation) :
    (s.modCrane k f).powerSafe := by
  obtain ⟨-, hres, hidle, hfeeder⟩ := h
  refine ⟨hlimits, hres.modCrane hbacked, fun hctl => ?_, ?_⟩
  · obtain ⟨hgranted, hnone⟩ := hidle hctl
    refine ⟨hgranted, fun j => ?_⟩
    rw [State.modCrane_crane]
    split
    · exact hdraws.elim id fun hr => hr.trans (hnone k)
    · exact hnone j
  · exact le_trans (Nat.add_le_add_right (Nat.add_le_add_left (s.reservedSum_modCrane_le hdraws) _) _)
      hfeeder

/-- A change that leaves the crane's enrolment, hold and reservation is none to the feeder. -/
theorem State.powerSafe.modCrane_keep (h : s.powerSafe)
    (henrolment : (f (s.crane k)).enrolment = (s.crane k).enrolment)
    (hheld : (f (s.crane k)).held = (s.crane k).held)
    (hreservation : (f (s.crane k)).reservation = (s.crane k).reservation) :
    (s.modCrane k f).powerSafe := by
  refine h.modCrane (h.1.modCrane henrolment) ?_ (.inr hreservation)
  rw [Crane.backed, hreservation, hheld, henrolment]
  exact h.2.1 k

end CraneChange

/-- A crane that becomes IDLE gives its reservation back (R83). -/
theorem State.powerSafe.idleCrane {s : State} (h : s.powerSafe) (k : CraneId) :
    (idleCrane k s).powerSafe :=
  h.modCrane (h.1.modCrane rfl) (Crane.backed_of_none rfl) (.inl rfl)

/-- A move that returns to QUEUED gives its crane's reservation back (R83). -/
theorem State.powerSafe.requeue {s : State} (h : s.powerSafe) (i : SlotId) (m : Move) (g : Grant) :
    (requeue i m g s).powerSafe :=
  State.powerSafe.idleCrane (h.congr (by simp)) g.crane

end Sys2Proof.Machine
end

section
/-! The events of the part leave the feeder within its limit (R89): the course of a scan, the judging of the
moves at a minute expiry, the SHED edges, POWER_ON and RESTART. -/

namespace Sys2Proof.Machine

/-! ### The course of a scan -/

/-- The end of an event is none to the feeder. -/
theorem Event.close_powerSafe {e : Event} (h : e.st.powerSafe) : e.close.powerSafe :=
  h.congr e.close_powerFigures

@[simp] theorem formAggregates_powerFigures (s : State) :
    (formAggregates s).powerFigures = s.powerFigures := by
  simp only [formAggregates, State.raiseIf_powerFigures, State.raiseBeds_powerFigures]
  simp only [State.powerFigures]

@[simp] theorem accountAll_powerFigures (s : State) :
    (accountAll s).powerFigures = s.powerFigures := by
  simp only [State.powerFigures, accountAll]

@[simp] theorem evaluateShip_powerFigures (s : State) :
    (evaluateShip s).powerFigures = s.powerFigures := by
  rw [evaluateShip, State.raiseIf_powerFigures]
  simp only [State.powerFigures]

@[simp] theorem evaluateRelease_powerFigures (s : State) :
    (evaluateRelease s).powerFigures = s.powerFigures := by
  rw [evaluateRelease, State.raiseBeds_powerFigures]
  simp only [State.powerFigures]

@[simp] theorem regulateAll_powerFigures (minutes : Vector Nat 16) (s : State) :
    (regulateAll minutes s).powerFigures = s.powerFigures := by
  simp only [regulateAll, State.raiseBeds_powerFigures]
  simp only [State.powerFigures]

@[simp] theorem judge_powerFigures (c : Channel) (raw : Nat) (e : Event) :
    (judge c raw e).st.powerFigures = e.st.powerFigures := by
  unfold judge
  dsimp only
  split
  · exact State.raiseIf_powerFigures _ _ _
  · simp only [Event.upd, State.powerFigures]

/-- The work of a scan result changes no figure of the feeder before its allocation. -/
theorem takeUp_powerSafe {e : Event} (h : e.st.powerSafe) (hctl : e.st.ctl = .running) :
    (takeUp e).st.powerSafe := by
  have hfigures : (regulateAll (onEach (fun _ ob => bedPeriod e.st.now ob) e.st.beds)
      (evaluateRelease (evaluateShip (accountAll e.st)))).powerFigures = e.st.powerFigures := by simp
  exact allocate_powerSafe (h.congr hfigures).grounded
    ((congrArg PowerFigures.ctl hfigures).trans hctl)

theorem deliver_powerSafe {e : Event} (h : e.st.powerSafe) : (deliver e).st.powerSafe := by
  unfold deliver
  dsimp only
  split
  · exact h
  · next hctl => exact takeUp_powerSafe (e := e.see _) h hctl

theorem completeScan_powerSafe {e : Event} (h : e.st.powerSafe) : (completeScan e).st.powerSafe :=
  deliver_powerSafe (h.congr (formAggregates_powerFigures _))

theorem startScan_powerSafe {e : Event} (h : e.st.powerSafe) : (startScan e).st.powerSafe := by
  unfold startScan
  dsimp only
  split
  · exact completeScan_powerSafe (h.congr (by simp only [State.powerFigures, restartTimer]))
  · exact h.congr (by simp only [State.powerFigures, restartTimer])

theorem convertChannel_powerSafe {c : Channel} {raw : Nat} {e : Event} (h : e.st.powerSafe) :
    (convertChannel c raw e).st.powerSafe := by
  have hjudged : (judge c raw e).st.powerSafe := h.congr (judge_powerFigures c raw e)
  unfold convertChannel
  dsimp only
  split
  · exact hjudged.congr rfl
  · exact completeScan_powerSafe hjudged

/-- A scan timer expiry starts a scan or is an overrun (R24, R26). -/
theorem execScanTimerExpiry_powerSafe {s t : State} (h : s.powerSafe)
    (ht : execScanTimerExpiry s = .next t) : t.powerSafe := by
  unfold execScanTimerExpiry at ht
  split at ht <;> cases ht
  · exact Event.close_powerSafe (startScan_powerSafe (e := s.event) h)
  · refine Event.close_powerSafe (h.congr ?_)
    simp only [State.event, Event.see, State.raise_powerFigures]
    simp only [State.powerFigures, restartTimer]

theorem execConversionCompletion_powerSafe {s t : State} (h : s.powerSafe) {raw : BitVec 12}
    (ht : execConversionCompletion raw s = .next t) : t.powerSafe := by
  unfold execConversionCompletion at ht
  split at ht <;> cases ht
  · exact h
  · exact Event.close_powerSafe (convertChannel_powerSafe (e := s.event) h)

/-! ### The judging of the moves (R152, R153) -/

theorem revoke_powerSafe {e : Event} (h : e.st.powerSafe) (i : SlotId) : (revoke e i).st.powerSafe := by
  unfold revoke
  split
  · exact h
  · next m _ =>
    split
    · exact h
    · next g _ => exact (h.requeue i m g).congr (by simp)

@[simp] theorem revoke_ctl (e : Event) (i : SlotId) : (revoke e i).st.ctl = e.st.ctl := by
  unfold revoke
  split
  · rfl
  · split <;> rfl

/-- Every revoke gives a reservation back, and the allocation follows the last of them. -/
theorem judgeGrants_powerSafe {e : Event} (h : e.st.powerSafe) : (judgeGrants e).st.powerSafe := by
  obtain heq | ⟨hctl, -, heq⟩ := judgeGrants_cases e
  · rwa [heq]
  · have hrevoked : ((List.finRange 64).foldl revoke e).st.powerSafe ∧
        ((List.finRange 64).foldl revoke e).st.ctl = .running :=
      List.foldlRecOn (motive := fun e : Event => e.st.powerSafe ∧ e.st.ctl = .running) _ _ ⟨h, hctl⟩
        fun e he i _ => ⟨revoke_powerSafe he.1 i, (revoke_ctl e i).trans he.2⟩
    rw [heq]
    exact allocate_powerSafe hrevoked.1.grounded hrevoked.2

@[simp] theorem flagOverdue_powerFigures (s : State) (i : SlotId) :
    (flagOverdue s i).powerFigures = s.powerFigures := by
  unfold flagOverdue
  split
  · rfl
  · split <;> rfl

@[simp] theorem judgeLifts_powerFigures (s : State) :
    (judgeLifts s).powerFigures = s.powerFigures := by
  unfold judgeLifts
  split
  · rfl
  · exact foldl_powerFigures flagOverdue_powerFigures _ _

theorem execMinuteExpiry_powerSafe {s t : State} (h : s.powerSafe)
    (ht : execMinuteExpiry s = .next t) : t.powerSafe := by
  cases ht
  have hadvanced : (advanceMinute s).event.st.powerSafe := h.congr rfl
  exact Event.close_powerSafe ((judgeGrants_powerSafe hadvanced).congr (judgeLifts_powerFigures _))

theorem execGrantTimeout_powerSafe {s t : State} (h : s.powerSafe)
    (ht : execGrantTimeout s = .next t) : t.powerSafe := by
  cases ht
  exact Event.close_powerSafe (judgeGrants_powerSafe (e := s.event) h)

theorem execLiftOverdue_powerSafe {s t : State} (h : s.powerSafe)
    (ht : execLiftOverdue s = .next t) : t.powerSafe := by
  cases ht
  exact h.congr (judgeLifts_powerFigures s)

/-! ### SHED edges, POWER_ON and RESTART -/

/-- What the bound rests on does not depend on the level of the SHED line (R82). -/
theorem shedEdge_powerSafe {s : State} (h : s.powerSafe) (level : Bool) :
    (shedEdge level s).powerSafe :=
  Event.close_powerSafe (allocateRunning_powerSafe h.grounded)

/-- The command of a SHED edge ends in its edge. -/
theorem shedEdge_next_powerSafe {s t : State} (h : s.powerSafe) (level : Bool)
    (ht : Host.Outcome.next (φ := Fault) (ρ := Refusal) (shedEdge level s) = .next t) :
    t.powerSafe := by
  cases ht
  exact shedEdge_powerSafe h level

/-- The link and its levels are none to the bound. -/
theorem execLinkUpdateDone_powerSafe {s t : State} (h : s.powerSafe)
    (ht : execLinkUpdateDone s = .next t) : t.powerSafe := by
  cases ht
  exact h.congr (by simp only [State.powerFigures])

/-- After POWER_ON nothing is granted, reserved or enrolled, and every limit is 0. -/
theorem powerOnState_powerSafe (roles : Vector Role 4) (shed : Bool) (s : State) :
    (powerOnState roles shed s).powerSafe := by
  have hcrane : ∀ k, (powerOnState roles shed s).crane k = Crane.powerOn := fun k => by
    simp [powerOnState, State.reset, State.crane]
  refine State.powerGrounded.safe_of_loading ⟨?_, fun k => ?_, fun _ => ⟨?_, fun k => ?_⟩⟩ rfl
  · change limitsHold ⟨0, 0, 0⟩ State.reset.enrolledRatings = true
    decide
  · rw [hcrane]
    exact Crane.backed_of_none rfl
  · change total (Vector.replicate 16 0) = 0
    decide
  · rw [hcrane]
    rfl

theorem execPowerOn_powerSafe {s t : State} {r0 r1 r2 r3 : Role} {shed : Bool}
    (ht : execPowerOn r0 r1 r2 r3 shed s = .next t) : t.powerSafe := by
  rw [← Host.Outcome.next.inj ht]
  exact powerOnState_powerSafe _ _ _

theorem returnMove_powerSafe {s : State} (h : s.powerSafe) (i : SlotId) : (returnMove s i).powerSafe := by
  unfold returnMove
  split
  · exact h
  · split
    · exact h
    · exact h.requeue i _ _
    · exact h

theorem restartState_powerSafe {s : State} (h : s.powerSafe) : (restartState s).powerSafe := by
  have habandoned : (abandonScan s).powerSafe := h.congr rfl
  have hreturned : ((List.finRange 64).foldl returnMove (abandonScan s)).powerSafe :=
    List.foldlRecOn (motive := State.powerSafe) _ _ habandoned fun _ hs i _ => returnMove_powerSafe hs i
  exact hreturned.congr (by simp only [State.powerFigures, restartState])

/-- A RESTART gives the reservations of GRANTED moves back, with an allocation in RUNNING (R95). -/
theorem execRestart_powerSafe {s t : State} (h : s.powerSafe) (ht : execRestart s = .next t) :
    t.powerSafe := by
  have hraised : ((restartState s).raiseIf (restartState s).clock.unset .clockUnset).powerGrounded :=
    (restartState_powerSafe h).grounded.congr (State.raiseIf_powerFigures _ _ _)
  unfold execRestart at ht
  rw [← Host.Outcome.next.inj ht]
  refine Event.close_powerSafe (allocateRunning_powerSafe ?_)
  rwa [State.event_st]

end Sys2Proof.Machine
end

section
/-! The rules of the requests leave the feeder within its limit (R89). Most change no figure of the feeder; the
others change the limits, a crane or the controller state, or take an allocation. -/

namespace Sys2Proof.Machine

variable {s : State}

/-! ### The Yard Map (chapter 1) and the probes (chapter 2) -/

theorem takeReadMap_powerFigures (kind number port : Nat) :
    (takeReadMap kind number port s).event.st.powerFigures = s.powerFigures := by
  unfold takeReadMap
  split <;> rfl

theorem takeDefineBed_powerFigures (b a f l r g q : Nat) :
    (takeDefineBed b a f l r g q s).event.st.powerFigures = s.powerFigures := by
  unfold takeDefineBed removeBed defineBedAs
  repeat' split
  all_goals rfl

theorem takeDefineStack_powerFigures (i a b k t o : Nat) :
    (takeDefineStack i a b k t o s).event.st.powerFigures = s.powerFigures := by
  unfold takeDefineStack removeStack defineStackAs
  repeat' split
  all_goals rfl

theorem takeSetStackOpen_powerFigures (i o : Nat) :
    (takeSetStackOpen i o s).event.st.powerFigures = s.powerFigures := by
  unfold takeSetStackOpen
  repeat' split
  all_goals rfl

theorem takeDefineClass_powerFigures (c a st sa ht ha : Nat) :
    (takeDefineClass c a st sa ht ha s).event.st.powerFigures = s.powerFigures := by
  unfold takeDefineClass
  dsimp only
  repeat' split
  all_goals rfl

theorem takeSetConfig_powerFigures (row port : Nat) (x : Int) :
    (takeSetConfig row port x s).event.st.powerFigures = s.powerFigures := by
  unfold takeSetConfig
  dsimp only
  repeat' split
  all_goals rfl

theorem restorePiece_powerFigures (id cls mass count age : Nat) (c : ClassId) (i : StackId)
    (hold : Option Nat) :
    (restorePiece id cls mass count age c i hold s).event.st.powerFigures = s.powerFigures := by
  unfold restorePiece
  dsimp only
  repeat' split
  all_goals simp

theorem takeLoadPiece_powerFigures (id c m n a i rg r : Nat) :
    (takeLoadPiece id c m n a i rg r s).event.st.powerFigures = s.powerFigures := by
  unfold takeLoadPiece
  repeat' split
  all_goals simp [restorePiece_powerFigures]

theorem restoreBed_powerFigures (b : BedId) (r : BedRestore) :
    (restoreBed b r s).event.st.powerFigures = s.powerFigures := by
  unfold restoreBed
  repeat' split
  all_goals simp

theorem takeLoadBedState_powerFigures (b cy n pa t ma : Nat) (q : Profile) (ph : Nat) (sp : Int)
    (es : List PieceEntry) :
    (takeLoadBedState b cy n pa t ma q ph sp es s).event.st.powerFigures = s.powerFigures := by
  unfold takeLoadBedState
  dsimp only
  repeat' split
  all_goals simp [restoreBed_powerFigures]

/-- COMMIT keeps the limits, the reservations and the grants, and RUNNING asks for nothing more (R15). -/
theorem takeCommit_powerSafe (h : s.powerSafe) : (takeCommit s).event.st.powerSafe := by
  unfold takeCommit
  split
  · exact h
  · split
    · obtain ⟨hlimits, hres, -, hfeeder⟩ := h
      exact ⟨hlimits, hres, nofun, hfeeder⟩
    · exact h

/-- SET_LIMITS stores only limits that carry every enrolled crane, and allocates with them (R10). -/
theorem takeSetLimits_powerSafe (h : s.powerSafe) (l ls b : Nat) :
    (takeSetLimits l ls b s).event.st.powerSafe := by
  by_cases hfit : s.limitsFit ⟨l, ls, b⟩
  · rw [takeSetLimits_fit hfit]
    obtain ⟨-, hres, hidle, -⟩ := h
    exact allocateRunning_powerSafe (e := State.event _) ⟨(s.limitsFit_iff _).mpr hfit, hres, hidle⟩
  · rw [takeSetLimits_unfit hfit]
    exact h

/-- LOAD_CRANE changes only an IDLE crane, and only where the limits carry the new ratings (R8). -/
theorem enrol_powerSafe (h : s.powerSafe) (k : CraneId) (e : Option Enrolment) :
    (enrol k e s).event.st.powerSafe := by
  unfold enrol
  split
  · exact h
  · next hratings =>
    split
    · exact h
    · next hidle =>
      have hnone : (s.crane k).reservation = none := h.2.1.none_of_idle (by simpa using hidle)
      obtain ⟨hshed, hmax, -⟩ := (limitsHold_iff _ _).mp h.1
      refine h.modCrane ((limitsHold_iff _ _).mpr ⟨hshed, hmax, ?_⟩) (Crane.backed_of_none ?_) (.inl ?_)
      · rw [State.enrolledRatings_congr (s := s.modCrane k fun c => { c with enrolment := e })
          fun j => by simp only [State.modCrane_crane]; split_ifs <;> rfl]
        exact Nat.not_lt.mp hratings
      all_goals split_ifs <;> exact hnone

theorem takeLoadCrane_powerSafe (h : s.powerSafe) (c a q l hi r m : Nat) :
    (takeLoadCrane c a q l hi r m s).event.st.powerSafe := by
  unfold takeLoadCrane
  dsimp only
  split
  · exact enrol_powerSafe h _ _
  · split
    · exact h
    · split_ifs
      · exact enrol_powerSafe h _ _
      · exact h
  · exact h

theorem takeDefineProbe_powerFigures (c a b e rl : Nat) (tl : Int) (rh : Nat) (th : Int) :
    (takeDefineProbe c a b e rl tl rh th s).event.st.powerFigures = s.powerFigures := by
  unfold takeDefineProbe
  repeat' split
  all_goals rfl

theorem takeReadProbe_powerFigures (c : Nat) :
    (takeReadProbe c s).event.st.powerFigures = s.powerFigures := by
  unfold takeReadProbe
  split <;> rfl

theorem takeClearProbeTally_powerFigures (m o : Nat) :
    (takeClearProbeTally m o s).event.st.powerFigures = s.powerFigures := by
  unfold takeClearProbeTally
  split
  · rfl
  · simp only [accept, State.event, State.powerFigures]

theorem takeAbortScan_powerFigures : (takeAbortScan s).event.st.powerFigures = s.powerFigures := by
  unfold takeAbortScan
  split <;> rfl

theorem takeScanNow_powerSafe (h : s.powerSafe) : (takeScanNow s).event.st.powerSafe := by
  unfold takeScanNow
  split
  · exact h
  · exact startScan_powerSafe (e := s.event) h

/-! ### The profiles (chapter 4) and the beds (chapter 6) -/

theorem takeSetProfile_powerFigures (m : Nat) (q : Profile) :
    (takeSetProfile m q s).event.st.powerFigures = s.powerFigures := by
  unfold takeSetProfile
  split
  · rfl
  · simp only [accept, State.event, State.powerFigures]

theorem takeReadProfile_powerFigures (b : Nat) :
    (takeReadProfile b s).event.st.powerFigures = s.powerFigures := by
  unfold takeReadProfile
  split <;> rfl

/-- A bed request is refused by the checks of R98 or comes to its own rule. -/
theorem bedRequest_powerSafe {p : PortId} {bed : Nat} {rule : BedId → Bed → State → Taken}
    (hrule : ∀ b x, (rule b x s).event.st.powerSafe) (h : s.powerSafe) :
    (bedRequest p bed rule s).event.st.powerSafe := by
  unfold bedRequest
  split
  · exact h
  · split
    · exact h
    · split
      · exact h
      · exact hrule _ _

theorem ruleBedSet_powerFigures (b : BedId) (x : Bed) :
    (ruleBedSet b x s).event.st.powerFigures = s.powerFigures := by
  unfold ruleBedSet
  split <;> rfl

theorem ruleCancelSet_powerFigures (b : BedId) (x : Bed) :
    (ruleCancelSet b x s).event.st.powerFigures = s.powerFigures := by
  unfold ruleCancelSet
  split <;> rfl

theorem rulePourStart_powerFigures (b : BedId) (x : Bed) :
    (rulePourStart b x s).event.st.powerFigures = s.powerFigures := by
  unfold rulePourStart
  split <;> rfl

theorem rulePourEnd_powerFigures (es : List PieceEntry) (b : BedId) (x : Bed) :
    (rulePourEnd es b x s).event.st.powerFigures = s.powerFigures := by
  unfold rulePourEnd pourCasting pourResend acceptPour
  dsimp only
  repeat' split
  all_goals simp [wrongCycle, State.event]

theorem ruleDetensionRequest_powerFigures (b : BedId) (x : Bed) :
    (ruleDetensionRequest b x s).event.st.powerFigures = s.powerFigures := by
  unfold ruleDetensionRequest
  repeat' split
  all_goals rfl

/-- A bed returns to EMPTY with the allocation of its event (R114). -/
theorem emptied_powerSafe (h : s.powerSafe) (b : BedId) :
    (allocateRunning (returnToEmpty b s).event).st.powerSafe :=
  allocateRunning_powerSafe (h.grounded.congr (returnToEmpty_powerFigures b s))

theorem ruleDetensionDone_powerSafe (h : s.powerSafe) (b : BedId) (x : Bed) :
    (ruleDetensionDone b x s).event.st.powerSafe := by
  unfold ruleDetensionDone
  split
  · exact h
  · split
    · exact emptied_powerSafe h b
    · exact h.congr rfl

theorem abandonLoaded_powerSafe (h : s.powerSafe) (b : BedId) (x : Bed) :
    (abandonLoaded b x s).st.powerSafe := by
  refine allocateRunning_powerSafe (h.grounded.congr ?_)
  rw [State.event_st, State.setBed_powerFigures, State.modPieces_powerFigures,
    foldl_powerFigures fun s id => dropMoveOf_powerFigures id s]

theorem ruleAbandonBed_powerSafe (h : s.powerSafe) (b : BedId) (x : Bed) :
    (ruleAbandonBed b x s).event.st.powerSafe := by
  unfold ruleAbandonBed
  split
  · exact h
  · split
    · exact emptied_powerSafe h b
    · exact abandonLoaded_powerSafe h b x

/-! ### Pieces and stacks (chapter 7) -/

/-- A request about a piece is refused by its id or comes to its own rule. -/
theorem withPiece_powerSafe {id : Nat} {rule : Piece → State → Taken}
    (hrule : ∀ x, (rule x s).event.st.powerSafe) (h : s.powerSafe) :
    (withPiece id rule s).event.st.powerSafe := by
  unfold withPiece
  split
  · exact h
  · split
    · exact h
    · exact hrule _

/-- A bed that a piece has left stays as it is or returns to EMPTY with an allocation (R113, R114). -/
theorem settleBed_powerSafe {e : Event} (h : e.st.powerSafe) (b : BedId) :
    (settleBed b e).st.powerSafe := by
  obtain ⟨-, heq⟩ | ⟨-, heq⟩ := settleBed_cases b e <;> rw [heq]
  · exact h
  · exact allocateRunning_powerSafe (h.grounded.congr (returnToEmpty_powerFigures b e.st))

theorem erasePiece_powerSafe (h : s.powerSafe) (x : Piece) : (erasePiece x s).st.powerSafe := by
  have hdropped : (dropMoveOf x.id s).powerSafe := h.congr (dropMoveOf_powerFigures x.id s)
  unfold erasePiece
  dsimp only
  split
  · exact settleBed_powerSafe (hdropped.congr rfl) _
  · exact hdropped.congr rfl
  · exact hdropped.congr rfl

theorem takeDeletePiece_powerSafe (h : s.powerSafe) (id : Nat) :
    (takeDeletePiece id s).event.st.powerSafe := by
  refine withPiece_powerSafe (fun x => ?_) h
  split
  · exact h
  · split
    · exact h
    · exact erasePiece_powerSafe h x

theorem shipStack_powerFigures (i : StackId) (x : Stack) :
    (shipStack i x s).powerFigures = s.powerFigures := by
  unfold shipStack
  simp only [State.setStack_powerFigures]
  rw [foldl_powerFigures (fun s id => s.freePiece_powerFigures id),
    foldl_powerFigures fun s id => dropMoveOf_powerFigures id s]

theorem takeShipDispatch_powerFigures (i : Nat) :
    (takeShipDispatch i s).event.st.powerFigures = s.powerFigures := by
  unfold takeShipDispatch
  repeat' split
  all_goals simp [shipStack_powerFigures]

theorem takeReadStack_powerFigures (i : Nat) :
    (takeReadStack i s).event.st.powerFigures = s.powerFigures := by
  unfold takeReadStack
  repeat' split
  all_goals rfl

/-! ### The Move Table (chapter 8) -/

theorem placeRequest_powerFigures (p : PortId) (k : MoveKind) (x : Piece) (src : Source) (d : StackId) :
    (placeRequest p k x src d s).event.st.powerFigures = s.powerFigures := by
  unfold placeRequest newMove
  repeat' split
  all_goals rfl

theorem takeRequestMove_powerSafe (h : s.powerSafe) (p : PortId) (kind id d : Nat) :
    (takeRequestMove p kind id d s).event.st.powerSafe := by
  unfold takeRequestMove
  split
  · exact h
  · split
    · refine withPiece_powerSafe (fun x => ?_) h
      repeat' split
      all_goals exact h.congr (by simp [placeRequest_powerFigures])
    · exact h

theorem takeCancelMove_powerFigures (p : PortId) (sl id : Nat) :
    (takeCancelMove p sl id s).event.st.powerFigures = s.powerFigures := by
  unfold takeCancelMove
  repeat' split
  all_goals rfl

theorem takeReadMove_powerFigures (sl : Nat) :
    (takeReadMove sl s).event.st.powerFigures = s.powerFigures := by
  unfold takeReadMove
  split <;> rfl

/-- A crane's request is refused by the checks of R177 or comes to its own rule on the enrolled crane. -/
theorem withCrane_powerSafe {p : PortId} {crane : Nat} {rule : CraneId → Enrolment → State → Taken}
    (hrule : ∀ k e, (s.crane k).enrolment = some e → (rule k e s).event.st.powerSafe)
    (h : s.powerSafe) : (withCrane p crane rule s).event.st.powerSafe := by
  unfold withCrane
  split
  · exact h
  · split
    · exact h
    · next e he =>
      split
      · exact h
      · exact hrule _ e he

/-- A crane's report is refused by its checks or comes to its own rule on the slot. -/
theorem craneReport_powerSafe {p : PortId} {crane slot : Nat}
    {rule : CraneId → SlotId → State → Taken} (hrule : ∀ k i, (rule k i s).event.st.powerSafe) (h : s.powerSafe) :
    (craneReport p crane slot rule s).event.st.powerSafe := by
  refine withCrane_powerSafe (fun k e _ => ?_) h
  split
  · exact h
  · exact hrule _ _

/-- A lift keeps the crane's reservation; it allocates only where it empties a STRIPPING bed (R83). -/
theorem liftMove_powerSafe (h : s.powerSafe) (k : CraneId) (i : SlotId) (m : Move) (g : Grant) :
    (liftMove k i m g s).st.powerSafe := by
  unfold liftMove leaveSource settleSource
  cases m.source with
  | bed b => exact settleBed_powerSafe (h.congr (by simp)) b
  | stack j => exact h.congr (by simp)

theorem ruleLifted_powerSafe (h : s.powerSafe) (id : Nat) (k : CraneId) (i : SlotId) :
    (ruleLifted id k i s).event.st.powerSafe := by
  unfold ruleLifted
  split
  · exact h
  · split
    · exact h
    · split_ifs
      · exact h
      · exact h
      · exact liftMove_powerSafe h k i _ _
    · split_ifs <;> exact h

/-- A move that ends gives its crane's reservation back, with an allocation (R83). -/
theorem endMove_powerSafe (h : s.powerSafe) (k : CraneId) (i : SlotId) (m : Move) (onto : StackId)
    (kind : StackKind) (how : Ending) : (endMove k i m onto kind how s).st.powerSafe := by
  have hplaced : (leaveTable i m ((pushPiece onto m.piece (fewerIncoming m.dest s)).modPiece m.piece
      (Piece.setDown onto kind))).powerSafe := h.congr (by simp)
  unfold endMove
  refine allocateRunning_powerSafe (State.powerSafe.grounded ?_)
  rw [Event.see_st, State.event_st]
  exact (hplaced.idleCrane k).modCrane_keep rfl rfl rfl

theorem repeatLast_powerFigures (k : CraneId) (i : SlotId) (r : Result) :
    (repeatLast k i r s).event.st.powerFigures = s.powerFigures := by
  unfold repeatLast
  repeat' split
  all_goals rfl

theorem rulePlaced_powerSafe (h : s.powerSafe) (k : CraneId) (i : SlotId) :
    (rulePlaced k i s).event.st.powerSafe := by
  have hrepeat : (repeatLast k i .wrongState s).event.st.powerSafe :=
    h.congr (repeatLast_powerFigures k i _)
  unfold rulePlaced
  split
  · exact hrepeat
  · split
    · exact hrepeat
    · exact hrepeat
    · split_ifs
      · exact hrepeat
      · exact endMove_powerSafe h k i _ _ _ _

theorem handBack_powerSafe (h : s.powerSafe) (i : SlotId) (m : Move) (g : Grant) :
    (handBack i m g s).event.st.powerSafe :=
  allocateRunning_powerSafe (h.requeue i m g).grounded

theorem divert_powerSafe (h : s.powerSafe) (k : CraneId) (i : SlotId) (m : Move) (g : Grant)
    (setDown : Option Nat) : (divert k i m g setDown s).event.st.powerSafe := by
  unfold divert
  split
  · exact h
  · split
    · exact h
    · split_ifs
      · exact h
      · exact h
      · exact endMove_powerSafe h k i m _ _ _
      · exact h

theorem ruleAbortMove_powerSafe (h : s.powerSafe) (setDown : Option Nat) (k : CraneId) (i : SlotId) :
    (ruleAbortMove setDown k i s).event.st.powerSafe := by
  have hrepeat : (repeatLast k i .tooLate s).event.st.powerSafe :=
    h.congr (repeatLast_powerFigures k i _)
  unfold ruleAbortMove
  split
  · exact hrepeat
  · split
    · exact hrepeat
    · split_ifs
      · exact hrepeat
      · exact handBack_powerSafe h i _ _
    · split_ifs
      · exact hrepeat
      · exact divert_powerSafe h k i _ _ _

theorem takeAbortMove_powerSafe (h : s.powerSafe) (p : PortId) (c sl given st : Nat) :
    (takeAbortMove p c sl given st s).event.st.powerSafe := by
  refine craneReport_powerSafe (fun k i => ?_) h
  split
  · exact h
  · exact ruleAbortMove_powerSafe h _ k i

/-! ### The Crane Arbiter (chapter 9) -/

@[simp] theorem evaluateSwitch_powerFigures (e : Event) :
    (evaluateSwitch e).st.powerFigures = e.st.powerFigures := by
  unfold evaluateSwitch
  split <;> rfl

@[simp] theorem starveAfter_powerFigures (k : MoveKind) :
    (starveAfter k s).powerFigures = s.powerFigures := by
  unfold starveAfter
  split <;> rfl

/-- A grant in RUNNING reserves the crane's enrolled rating while the crane is HOLDING (R83, R164). -/
theorem grantMove_grounded (h : s.powerSafe) (hctl : s.ctl = .running) {k : CraneId} {e : Enrolment}
    (he : (s.crane k).enrolment = some e) (bay : Nat) (i : SlotId) (m : Move) :
    (grantMove k e bay i m s).powerGrounded := by
  obtain ⟨hlimits, hres, -, -⟩ := h
  refine State.powerGrounded.congr ?_ (starveAfter_powerFigures _)
  refine ⟨State.limitsSafe.modCrane hlimits rfl, State.reservationsSafe.modCrane hres ?_, fun hl => ?_⟩
  · rintro r ⟨⟩
    exact ⟨rfl, e, he, rfl⟩
  · cases hctl.symm.trans hl

theorem makeGrant_powerSafe {ev : Event} (h : ev.st.powerSafe) (hctl : ev.st.ctl = .running)
    {k : CraneId} {e : Enrolment} (he : (ev.st.crane k).enrolment = some e) (bay : Nat) (i : SlotId)
    (m : Move) : (makeGrant k e bay i m ev).event.st.powerSafe := by
  have hgrounded := grantMove_grounded h hctl he bay i m
  refine allocateRunning_powerSafe ?_
  split <;> exact hgrounded

theorem findWork_powerSafe (h : s.powerSafe) (hctl : s.ctl = .running) {k : CraneId} {e : Enrolment}
    (he : (s.crane k).enrolment = some e) (bay : Nat) : (findWork k e bay s).event.st.powerSafe := by
  have hfigures := evaluateSwitch_powerFigures s.event
  have hsafe : (evaluateSwitch s.event).st.powerSafe := State.powerSafe.congr (s := s) h hfigures
  unfold findWork
  dsimp only
  split
  · unfold answerNone
    dsimp only
    split <;> exact hsafe
  · refine makeGrant_powerSafe hsafe ((congrArg PowerFigures.ctl hfigures).trans hctl) ?_ _ _ _
    exact (congrArg (fun f => (f.cranes[k]).enrolment) hfigures).trans he

theorem repeatGrant_powerFigures (h : Held) :
    (repeatGrant h s).event.st.powerFigures = s.powerFigures := by
  unfold repeatGrant
  split <;> rfl

/-- In RUNNING a NEXT_MOVE notes the crane's bay, and then repeats, grants or finds nothing (R159). -/
theorem takeNextMove_powerSafe (h : s.powerSafe) (hctl : s.ctl = .running) (p : PortId) (c bay : Nat) :
    (takeNextMove p c bay s).event.st.powerSafe := by
  refine withCrane_powerSafe (fun k e he => ?_) h
  have hnoted : (s.modCrane k fun c => { c with lastBay := some bay }).powerSafe :=
    h.modCrane_keep rfl rfl rfl
  split
  · exact h
  · dsimp only
    split
    · exact hnoted.congr (repeatGrant_powerFigures _)
    · refine findWork_powerSafe hnoted hctl ?_ bay
      rw [State.modCrane_crane, if_pos rfl]
      exact he

theorem takeSetMode_powerFigures (m l : Nat) :
    (takeSetMode m l s).event.st.powerFigures = s.powerFigures := by
  unfold takeSetMode
  repeat' split
  all_goals rfl

theorem takeReadCrane_powerFigures (c : Nat) :
    (takeReadCrane c s).event.st.powerFigures = s.powerFigures := by
  unfold takeReadCrane
  split <;> rfl

/-! ### The ports (chapter 10) and the counters (chapter 11) -/

theorem takeFreezeBeds_powerFigures (p : PortId) (m : Nat) :
    (takeFreezeBeds p m s).event.st.powerFigures = s.powerFigures := by
  unfold takeFreezeBeds
  split <;> rfl

theorem takeReadBed_powerFigures (p : PortId) (b : Nat) :
    (takeReadBed p b s).event.st.powerFigures = s.powerFigures := by
  unfold takeReadBed
  repeat' split
  all_goals rfl

theorem takeReadPort_powerFigures (p : PortId) (q : Nat) :
    (takeReadPort p q s).event.st.powerFigures = s.powerFigures := by
  unfold takeReadPort
  split <;> rfl

theorem takeSetCounter_powerFigures (c sel fk fn fe pg v : Nat) :
    (takeSetCounter c sel fk fn fe pg v s).event.st.powerFigures = s.powerFigures := by
  unfold takeSetCounter
  split <;> rfl

end Sys2Proof.Machine
end

section
/-! Every step keeps the feeder within its limit (R82, R89): a request by its rule, whether it comes as a row of
the table or as a frame on the line, an event by what it does; statement O30. -/

namespace Sys2Proof

/-- A body decoded for a kind spells a request of that kind. -/
theorem decodeBody_kind {p : PortId} {tag : Byte} {k : RequestKind} {body : List Byte} {i : Instr}
    (h : decodeBody p tag k body = some i) : i.kind? = some k := by
  cases k
  case readClock | commit | scanNow | abortScan | readScan | readBudget | readAlerts | unfreeze
      | readCounters | unfreezeCounters | resetCounters | resetCounterSelect =>
    match body, h with
    | [], h => cases h; rfl
  case readProbe | readProfile | bedSet | cancelSet | pourStart | detensionRequest | detensionDone
      | abandonBed | readBed | shipDispatch | readStack | readMove | readCrane | readPort
      | clearOverflow =>
    match body, h with
    | [_], h => cases h; rfl
  case setStackOpen | clearHold | deletePiece | readPiece | nextMove | placed | setMode | setAlertMask
      | freezeBeds =>
    match body, h with
    | [_, _], h => cases h; rfl
  case readMap | setHold | cancelMove =>
    match body, h with
    | [_, _, _], h => cases h; rfl
  case setClock | setConfig | requestMove | lifted | abortMove =>
    match body, h with
    | [_, _, _, _], h => cases h; rfl
  case defineStack | setLimits =>
    match body, h with
    | [_, _, _, _, _, _], h => cases h; rfl
  case defineBed | loadCrane | clearProbeTally =>
    match body, h with
    | [_, _, _, _, _, _, _, _, _], h => cases h; rfl
  case defineClass | setCounter =>
    match body, h with
    | [_, _, _, _, _, _, _, _, _, _], h => cases h; rfl
  case defineProbe =>
    match body, h with
    | [_, _, _, _, _, _, _, _, _, _, _, _], h => cases h; rfl
  case setProfile =>
    match body, h with
    | [_, _, _, _, _, _, _, _, _, _, _, _, _, _, _], h => cases h; rfl
  case loadPiece =>
    match body, h with
    | [_, _, _, _, _, _, _, _, _, _, _, _, _, _, _, _], h => cases h; rfl
  case pourEnd =>
    match body, h with
    | _ :: _ :: _, h =>
      obtain ⟨es, -, rfl⟩ := Option.map_eq_some_iff.mp h
      rfl
  case loadBedState =>
    match body, h with
    | _ :: _ :: _ :: _ :: _ :: _ :: _ :: _ :: _ :: _ :: _ :: _ :: _ :: _ :: _ :: _ :: _ :: _ :: _ :: _ ::
        _ :: _ :: _ :: _ :: _ :: _ :: _ :: _ :: _ :: _ :: _ :: _, h =>
      obtain ⟨es, -, rfl⟩ := Option.map_eq_some_iff.mp h
      rfl

end Sys2Proof

namespace Sys2Proof.Machine

/-! ### Requests -/

/-- A request that LOADING refuses comes to its rule in RUNNING only (R12, R177). -/
theorem running_of_not_barred {k : RequestKind} {r : Role} {c : Ctl} (h : barred k r c = none)
    (hk : needsRunning k = true) : c = .running := by
  cases c with
  | running => rfl
  | loading => simp [barred, hk] at h

/-- The rule of every request keeps the feeder within its limit, where its kind may be taken. -/
theorem requestRule_powerSafe {i : Instr} {k : RequestKind} {rule : State → Taken} {s : State}
    (hrule : requestRule i = some rule) (hkind : i.kind? = some k)
    (hrun : needsRunning k = true → s.ctl = .running) (h : s.powerSafe) :
    (rule s).event.st.powerSafe := by
  cases i <;> cases hrule
  case readClock | setClock | readScan | readBudget | readAlerts | setAlertMask | unfreeze
      | readCounters | unfreezeCounters | clearOverflow | resetCounters | resetCounterSelect =>
    exact h.congr rfl
  case readMap => exact h.congr (takeReadMap_powerFigures _ _ _)
  case defineBed => exact h.congr (takeDefineBed_powerFigures _ _ _ _ _ _ _)
  case defineStack => exact h.congr (takeDefineStack_powerFigures _ _ _ _ _ _)
  case setStackOpen => exact h.congr (takeSetStackOpen_powerFigures _ _)
  case loadCrane => exact takeLoadCrane_powerSafe h _ _ _ _ _ _ _
  case defineClass => exact h.congr (takeDefineClass_powerFigures _ _ _ _ _ _)
  case setLimits => exact takeSetLimits_powerSafe h _ _ _
  case setConfig => exact h.congr (takeSetConfig_powerFigures _ _ _)
  case loadPiece => exact h.congr (takeLoadPiece_powerFigures _ _ _ _ _ _ _ _)
  case loadBedState => exact h.congr (takeLoadBedState_powerFigures _ _ _ _ _ _ _ _ _ _)
  case commit => exact takeCommit_powerSafe h
  case defineProbe => exact h.congr (takeDefineProbe_powerFigures _ _ _ _ _ _ _ _)
  case readProbe => exact h.congr (takeReadProbe_powerFigures _)
  case clearProbeTally => exact h.congr (takeClearProbeTally_powerFigures _ _)
  case scanNow => exact takeScanNow_powerSafe h
  case abortScan => exact h.congr takeAbortScan_powerFigures
  case setProfile => exact h.congr (takeSetProfile_powerFigures _ _)
  case readProfile => exact h.congr (takeReadProfile_powerFigures _)
  case bedSet => exact bedRequest_powerSafe (fun b x => h.congr (ruleBedSet_powerFigures b x)) h
  case cancelSet => exact bedRequest_powerSafe (fun b x => h.congr (ruleCancelSet_powerFigures b x)) h
  case pourStart => exact bedRequest_powerSafe (fun b x => h.congr (rulePourStart_powerFigures b x)) h
  case pourEnd => exact bedRequest_powerSafe (fun b x => h.congr (rulePourEnd_powerFigures _ b x)) h
  case detensionRequest =>
    exact bedRequest_powerSafe (fun b x => h.congr (ruleDetensionRequest_powerFigures b x)) h
  case detensionDone => exact bedRequest_powerSafe (ruleDetensionDone_powerSafe h) h
  case abandonBed => exact bedRequest_powerSafe (ruleAbandonBed_powerSafe h) h
  case readBed => exact h.congr (takeReadBed_powerFigures _ _)
  case setHold | clearHold | readPiece => exact withPiece_powerSafe (fun _ => h.congr rfl) h
  case deletePiece => exact takeDeletePiece_powerSafe h _
  case shipDispatch => exact h.congr (takeShipDispatch_powerFigures _)
  case readStack => exact h.congr (takeReadStack_powerFigures _)
  case requestMove => exact takeRequestMove_powerSafe h _ _ _ _
  case cancelMove => exact h.congr (takeCancelMove_powerFigures _ _ _)
  case readMove => exact h.congr (takeReadMove_powerFigures _)
  case nextMove =>
    cases hkind
    exact takeNextMove_powerSafe h (hrun rfl) _ _ _
  case lifted => exact craneReport_powerSafe (ruleLifted_powerSafe h _) h
  case placed => exact craneReport_powerSafe (rulePlaced_powerSafe h) h
  case abortMove => exact takeAbortMove_powerSafe h _ _ _ _ _
  case setMode => exact h.congr (takeSetMode_powerFigures _ _)
  case readCrane => exact h.congr (takeReadCrane_powerFigures _)
  case freezeBeds => exact h.congr (takeFreezeBeds_powerFigures _ _)
  case readPort => exact h.congr (takeReadPort_powerFigures _ _)
  case setCounter => exact h.congr (takeSetCounter_powerFigures _ _ _ _ _ _ _)

/-- A request row of the table is served at its port by its kind and its rule. -/
theorem exec_request {i : Instr} {rule : State → Taken} (h : requestRule i = some rule) :
    ∃ p tag k, i.kind? = some k ∧ ∀ s, exec i s = .next (serve p tag k rule s) := by
  cases i <;> cases h <;> exact ⟨_, _, _, rfl, fun _ => rfl⟩

/-- The state and role checks refuse a request, which changes nothing, or let it come to its rule (R177). -/
theorem screened_powerSafe {s : State} {i : Instr} {k : RequestKind} {rule : State → Taken}
    (hrule : requestRule i = some rule) (hkind : i.kind? = some k) (h : s.powerSafe) (p : PortId) :
    (screened p k rule s).event.st.powerSafe := by
  unfold screened
  split
  · exact h
  · next hbarred => exact requestRule_powerSafe hrule hkind (running_of_not_barred hbarred) h

/-- A taken request is answered, which is none to the feeder; an untaken one changes a tally at most. -/
theorem arrive_powerSafe {s : State} {take : State → Taken} (htake : (take s).event.st.powerSafe)
    (h : s.powerSafe) (p : PortId) (tag kind : Byte) : (arrive p tag kind take s).powerSafe := by
  unfold arrive
  split_ifs
  · exact h
  · exact h.congr (s.modPort_powerFigures _ _)
  · unfold respond
    dsimp only
    split <;> exact Event.close_powerSafe (htake.congr (State.modPort_powerFigures _ _ _))

/-! ### Frames on the line -/

theorem takeFrame_powerSafe {s : State} (h : s.powerSafe) (p : PortId) (tag kind : Byte)
    (body : List Byte) : (takeFrame p tag kind body s).event.st.powerSafe := by
  unfold takeFrame
  split
  · exact h
  · split
    · exact h
    · next hdecoded =>
      obtain ⟨i, hbody, hrule⟩ := Option.bind_eq_some_iff.mp hdecoded
      exact screened_powerSafe hrule (decodeBody_kind hbody) h p

theorem rejectFrame_powerSafe {s : State} (h : s.powerSafe) (p : PortId) : (rejectFrame p s).powerSafe :=
  Event.close_powerSafe (h.congr rfl)

theorem completeFrame_powerSafe {s : State} (h : s.powerSafe) (p : PortId) (tag kind : Byte)
    (body : List Byte) (check : BitVec 16) : (completeFrame p tag kind body check s).powerSafe := by
  unfold completeFrame
  split
  · exact arrive_powerSafe (takeFrame_powerSafe h p tag kind body) h p tag kind
  · exact rejectFrame_powerSafe h p

theorem completeKept_powerSafe {s : State} (h : s.powerSafe) (p : PortId) (len : Nat)
    (kept : List Byte) : (completeKept p len kept s).powerSafe := by
  unfold completeKept
  split
  · split
    · exact completeFrame_powerSafe h _ _ _ _ _
    · exact h
  · exact h

/-- A byte moves the receiver, rejects a frame or completes one (R174). -/
theorem execByteReceived_powerSafe {s t : State} (h : s.powerSafe) {p : PortId} {b : Byte}
    (ht : execByteReceived p b s = .next t) : t.powerSafe := by
  have hrx (r : Receiver) : (s.setRx p r).powerSafe := h.congr rfl
  unfold execByteReceived at ht
  split at ht
  · cases ht
    exact h
  · split at ht <;> cases ht
    · split
      · exact hrx _
      · exact h
    · unfold takeLength
      split
      · exact hrx _
      · exact rejectFrame_powerSafe (hrx _) p
    · unfold takeKept
      dsimp only
      split
      · exact hrx _
      · exact completeKept_powerSafe (hrx _) p _ _

theorem execCharacterSilenceTimeout_powerSafe {s t : State} (h : s.powerSafe) {p : PortId}
    (ht : execCharacterSilenceTimeout p s = .next t) : t.powerSafe := by
  have hreject : (rejectFrame p (s.setRx p .hunt)).powerSafe :=
    rejectFrame_powerSafe (h.congr (s.setRx_powerFigures p .hunt)) p
  unfold execCharacterSilenceTimeout at ht
  split at ht
  · cases ht
    exact h
  · split at ht <;> cases ht
    · exact h
    · exact hreject
    · exact hreject

theorem execResponseSent_powerSafe {s t : State} (h : s.powerSafe) {p : PortId}
    (ht : execResponseSent p s = .next t) : t.powerSafe := by
  cases ht
  exact h.congr rfl

theorem execLineTurnaround_powerSafe {s t : State} (h : s.powerSafe) {p : PortId}
    (ht : execLineTurnaround p s = .next t) : t.powerSafe := by
  cases ht
  exact h.congr rfl

theorem execBreakEnd_powerSafe {s t : State} (h : s.powerSafe) {p : PortId}
    (ht : execBreakEnd p s = .next t) : t.powerSafe := by
  unfold execBreakEnd at ht
  split at ht <;> cases ht
  · exact h
  · exact h.congr rfl

theorem execFrameCompletion_powerSafe {s t : State} (h : s.powerSafe) {p : PortId} {tag kind : Byte}
    {body : List Byte} {check : BitVec 16}
    (ht : execFrameCompletion p tag kind body check s = .next t) : t.powerSafe := by
  unfold execFrameCompletion at ht
  split at ht <;> cases ht
  · exact h
  · exact completeFrame_powerSafe (h.congr (s.setRx_powerFigures p .hunt)) _ _ _ _ _

/-! ### Every command -/

/-- An event of the part keeps the feeder within its limit. -/
theorem execEvent_powerSafe {i : Instr} {s t : State} (hi : requestRule i = none) (h : s.powerSafe)
    (ht : exec i s = .next t) : t.powerSafe := by
  cases i <;> cases hi
  case powerOn => exact execPowerOn_powerSafe ht
  case restart => exact execRestart_powerSafe h ht
  case shedAssertion => exact shedEdge_next_powerSafe h true ht
  case shedDeassertion => exact shedEdge_next_powerSafe h false ht
  case minuteExpiry => exact execMinuteExpiry_powerSafe h ht
  case grantTimeout => exact execGrantTimeout_powerSafe h ht
  case liftOverdue => exact execLiftOverdue_powerSafe h ht
  case scanTimerExpiry => exact execScanTimerExpiry_powerSafe h ht
  case conversionCompletion => exact execConversionCompletion_powerSafe h ht
  case byteReceived => exact execByteReceived_powerSafe h ht
  case characterSilenceTimeout => exact execCharacterSilenceTimeout_powerSafe h ht
  case breakEnd => exact execBreakEnd_powerSafe h ht
  case frameCompletion => exact execFrameCompletion_powerSafe h ht
  case responseSent => exact execResponseSent_powerSafe h ht
  case linkUpdateDone => exact execLinkUpdateDone_powerSafe h ht
  case lineTurnaround => exact execLineTurnaround_powerSafe h ht

/-- Every command keeps the feeder within its limit. -/
theorem exec_powerSafe {i : Instr} {s t : State} (h : s.powerSafe) (ht : exec i s = .next t) :
    t.powerSafe := by
  cases hi : requestRule i with
  | none => exact execEvent_powerSafe hi h ht
  | some rule =>
    obtain ⟨p, tag, k, hkind, hexec⟩ := exec_request hi
    cases (hexec s).symm.trans ht
    exact arrive_powerSafe (screened_powerSafe hi hkind h p) h p tag k.code

/-- The idle step changes nothing, and any other runs a command. -/
theorem step_powerSafe {s t : State} (h : s.powerSafe) (ht : step s = .next t) : t.powerSafe := by
  unfold step at ht
  split at ht
  · cases ht
    exact h
  · next i rest _ =>
    have hrest : ({ s with pending := rest } : State).powerSafe := h.congr rfl
    exact exec_powerSafe hrest ht

/-- The bound of R89 in the statement's words. -/
theorem State.powerSafe.within_limit {s : State} (h : s.powerSafe) :
    ∑ b : BedId, s.budget.granted[b] + s.reservations + s.limits.baseLoad ≤ s.limitNow := by
  rw [← total_eq_sum, ← s.reservedSum_eq]
  exact (s.powerSafe_iff.mp h).2

/-- Settles O30: every step keeps the invariant, and the bound is a part of it. -/
theorem everyStepKeepsTheFeederWithinItsLimit : Obligations.EveryStepKeepsTheFeederWithinItsLimit := by
  intro s t h ht
  have hsafe := step_powerSafe h ht
  exact ⟨hsafe, hsafe.within_limit⟩

end Sys2Proof.Machine
end

section
/-! BED_SET, CANCEL_SET and POUR_START (R99 to R101): a bed request past the checks of R98 comes to its rule,
which moves the bed on from one cycle state and refuses every other; statement O32. -/

namespace Sys2Proof.Machine

/-! ### A bed request from a port that tends the bed (R98) -/

section Tends
variable {s : State} {p : PortId} {b : BedId} {x : Bed}

/-- The state and role checks pass a port that tends a bed, for every kind granted to OFFICE and BEDSIDE. -/
theorem State.tends.takes (h : s.tends p b x) {k : RequestKind} (hk : requestRoles k = .officeBedside) :
    s.takes p k := by
  obtain ⟨hctl, hidle, -, hrole⟩ := h
  refine ⟨hidle, ?_⟩
  rcases hrole with hoffice | ⟨hbedside, -⟩
  · simp [barred, hctl, hk, hoffice, Roles.permits]
  · simp [barred, hctl, hk, hbedside, Roles.permits]

/-- The checks of R98 pass a port that tends the bed. -/
theorem bedRequest_tends (h : s.tends p b x) (rule : BedId → Bed → State → Taken) :
    bedRequest p b rule s = rule b x s := by
  obtain ⟨-, -, hbed, hrole⟩ := h
  have hbound : ¬ ((s.port p).role = .bedside ∧ x.defn.bound ≠ some p) := by
    rintro ⟨hbedside, hother⟩
    rcases hrole with hoffice | ⟨-, hown⟩
    · exact absurd (hoffice.symm.trans hbedside) nofun
    · exact hother hown
  simp only [bedRequest, slot?_val, hbed, if_neg hbound]

/-- A bed request at a port that tends the bed is answered by its own rule. -/
theorem serve_bedRequest_tends (h : s.tends p b x) {k : RequestKind}
    (hk : requestRoles k = .officeBedside) (tag : Byte) (rule : BedId → Bed → State → Taken) :
    serve p tag k (bedRequest p b rule) s = respond p tag k.code (rule b x s) := by
  rw [serve_takes (h.takes hk), bedRequest_tends h]

end Tends

/-- A rule that demands a cycle state answers with OK, or refuses with WRONG_STATE and the state the bed stands
in (R98). -/
theorem respond_cycleRule (p : PortId) (tag : Byte) (k : RequestKind) (s t : State) (x : Bed) (a : Answer)
    (c : CycleState) :
    respond p tag k.code (if x.cycle.state = c then accept t a else wrongCycle x s) =
      if x.cycle.state = c then t.answered p tag k .ok a
      else s.refused p tag k .wrongState (.cycle x.cycle.state) := by
  split
  · exact respond_ok p tag k t a
  · exact respond_refusedWith p tag k s .wrongState _

/-! ### The three requests -/

/-- Settles O32: each request comes to its rule, which demands one cycle state. -/
theorem bedsAreSetCancelledAndPoured : Obligations.BedsAreSetCancelledAndPoured := by
  intro p tag b x s h idle moved stays
  refine ⟨congrArg Host.Outcome.next ?bedSet, congrArg Host.Outcome.next ?cancelSet,
    congrArg Host.Outcome.next ?pourStart⟩
  case bedSet =>
    exact (serve_bedRequest_tends h rfl tag ruleBedSet).trans
      (respond_cycleRule p tag .bedSet s _ x _ .empty)
  case cancelSet =>
    exact (serve_bedRequest_tends h rfl tag ruleCancelSet).trans
      (respond_cycleRule p tag .cancelSet s _ x _ .set)
  case pourStart =>
    exact (serve_bedRequest_tends h rfl tag rulePourStart).trans
      (respond_cycleRule p tag .pourStart s _ x _ .set)

end Sys2Proof.Machine
end

section
/-! SET_MODE (R169): what the office's choice makes of the arbiter, the rule in each of its branches, and
statement O47. -/

namespace Sys2Proof.Machine

/-! ### The mode byte (section 10.6) -/

/-- A service mode is read back from the byte that sends it. -/
@[simp] theorem serviceMode?_ofMode (m : ServiceMode) :
    serviceMode? (if m = .strip then 0 else 1) = some m := by
  cases m <;> rfl

/-- A byte from 2 on is no service mode. -/
theorem serviceMode?_none {n : Nat} (h : 2 ≤ n) : serviceMode? n = none := by
  match n, h with
  | _ + 2, _ => rfl

/-! ### The arbiter after the office's choice -/

/-- The arbiter with the office's mode and lock: a change of mode clears the starve count of the new class. -/
def Arbiter.chosen (a : Arbiter) (mode : ServiceMode) (lock : Bool) : Arbiter where
  mode := mode
  lock := lock
  stripStarve := if a.mode = .dispatch ∧ mode = .strip then 0 else a.stripStarve
  dispatchStarve := if a.mode = .strip ∧ mode = .dispatch then 0 else a.dispatchStarve

/-- The choice of the mode that stands sets the lock alone. -/
theorem Arbiter.chosen_same (a : Arbiter) (lock : Bool) :
    a.chosen a.mode lock = { a with lock := lock } := by
  obtain ⟨mode, _, _, _⟩ := a
  cases mode <;> rfl

/-- The choice of the other mode is a switch to it, with the lock set beside. -/
theorem Arbiter.chosen_switch {a : Arbiter} {mode : ServiceMode} (h : mode ≠ a.mode) (lock : Bool) :
    a.chosen mode lock = { a.turn mode with lock := lock } := by
  obtain ⟨standing, _, _, _⟩ := a
  cases standing <;> cases mode
  case strip.strip | dispatch.dispatch => exact absurd rfl h
  case strip.dispatch | dispatch.strip => rfl

/-! ### The rule and its answer -/

/-- The rule of SET_MODE with a mode and a flag: both are stored, and a change of mode is seen by the counters. -/
theorem takeSetMode_chosen (mode : ServiceMode) (lock : Bool) (s : State) :
    takeSetMode (if mode = .strip then 0 else 1) (if lock then 1 else 0) s =
      acceptEvent
        ⟨{ s with arbiter := s.arbiter.chosen mode lock },
          if mode = s.arbiter.mode then [] else [.modeSwitch]⟩
        (.service mode lock) := by
  simp only [takeSetMode, serviceMode?_ofMode, flag?_ofBool]
  split
  · next hsame =>
    subst hsame
    rw [Arbiter.chosen_same]
    rfl
  · next hswitch =>
    rw [Arbiter.chosen_switch hswitch]
    rfl

/-- The rule of SET_MODE refuses a byte that is no mode or no flag. -/
theorem takeSetMode_badByte {m l : Nat} (h : 2 ≤ m ∨ 2 ≤ l) (s : State) :
    takeSetMode m l s = refuse s .badValue := by
  rcases h with hmode | hlock
  · rw [takeSetMode, serviceMode?_none hmode]
  · rw [takeSetMode, flag?_none hlock]
    cases serviceMode? m <;> rfl

/-- A request accepted with an event ends with the response formed in the event's state, and the event closed. -/
theorem respond_acceptEvent (p : PortId) (tag : Byte) (k : RequestKind) (e : Event) (a : Answer) :
    respond p tag k.code (acceptEvent e a) = (e.upd fun s => s.answered p tag k .ok a).close :=
  rfl

/-- SET_MODE at an OFFICE port is answered by its rule in either state. -/
theorem exec_setMode_office {s : State} {p : PortId} (h : s.asks p .office) (tag : Byte) (m l : Nat) :
    exec (.setMode p tag m l) s =
      .next (respond p tag RequestKind.setMode.code (takeSetMode m l s)) := by
  rw [← serve_office h rfl rfl]
  rfl

/-- Settles O47: the rule stores the office's choice, or refuses a byte out of range. -/
theorem setModeSetsModeAndLock : Obligations.SetModeSetsModeAndLock := by
  intro p tag s h
  refine ⟨fun mode lock => ?_, fun m l hbad => ?_⟩
  · rw [exec_setMode_office h, takeSetMode_chosen, respond_acceptEvent]
    rfl
  · rw [exec_setMode_office h, takeSetMode_badByte hbad, respond_refused p tag .setMode s .badValue]

end Sys2Proof.Machine
end

section
/-! READ_ALERTS, SET_ALERT_MASK and the alert line (R179), what an alert raised adds to a port (R178), and
statement O49. -/

namespace Sys2Proof.Machine

/-! ### The alert line (R179) -/

/-- A port's line is active exactly while some kind stands both in its pending set and in its mask. -/
theorem Port.lineActive_iff (x : Port) :
    x.lineActive = true ↔ ∃ n < 16, x.alerts.getLsbD n = true ∧ x.mask.getLsbD n = true := by
  simp [Port.lineActive, BitVec.eq_of_getLsbD_eq_iff]

/-- A port with nothing pending shows no alert. -/
theorem Port.lineActive_of_empty {x : Port} (h : x.alerts = 0) : x.lineActive = false := by
  simp [Port.lineActive, h]

/-- The response formed at a port leaves every port's alert line. -/
theorem State.alertLine_answered (s : State) (p q : PortId) (tag : Byte) (k : RequestKind) (r : Result)
    (a : Answer) : (s.answered p tag k r a).alertLine q = s.alertLine q := by
  simp only [State.alertLine, State.answered, State.modPort_port]
  split
  · next h =>
    subst h
    rfl
  · rfl

/-! ### The two requests (R179) -/

/-- READ_ALERTS is answered by its rule at a port of any role, in either state. -/
theorem exec_readAlerts_hears {s : State} {p : PortId} (h : s.hears p) (tag : Byte) :
    exec (.readAlerts p tag) s = .next
      ((s.modPort p fun x => { x with alerts := 0 }).answered p tag .readAlerts .ok
        (.alerts (s.port p).alerts (s.port p).mask)) := by
  rw [← respond_ok]
  exact congrArg _ (serve_hears h rfl rfl tag (takeReadAlerts p))

/-- SET_ALERT_MASK is answered by its rule at a port of any role, in either state. -/
theorem exec_setAlertMask_hears {s : State} {p : PortId} (h : s.hears p) (tag : Byte) (mask : BitVec 16) :
    exec (.setAlertMask p tag mask.toNat) s = .next
      ((s.modPort p fun x => { x with mask := mask }).answered p tag .setAlertMask .ok .empty) := by
  have hrule : takeSetAlertMask p mask.toNat s =
      accept (s.modPort p fun x => { x with mask := mask }) .empty := by
    rw [takeSetAlertMask, BitVec.ofNat_toNat, BitVec.setWidth_eq]
  rw [← respond_ok, ← hrule]
  exact congrArg _ (serve_hears h rfl rfl tag (takeSetAlertMask p mask.toNat))

/-- After READ_ALERTS the port's own line is inactive. -/
theorem State.alertLine_emptied (s : State) (p : PortId) :
    (s.modPort p fun x => { x with alerts := 0 }).alertLine p = false := by
  rw [State.alertLine, State.modPort_port, if_pos rfl]
  exact Port.lineActive_of_empty rfl

/-! ### An alert raised (R178) -/

/-- The ports that see an alert, in the statements' words. -/
theorem Toward.sees_iff_reaches (w : Toward) (p : PortId) (r : Role) :
    w.sees p r = true ↔ w.reaches p r := by
  cases w with
  | everyPort => cases r <;> simp [Toward.sees, Toward.reaches]
  | bed bound => cases r <;> simp [Toward.sees, Toward.reaches]
  | move requester cranePort => cases r <;> simp [Toward.sees, Toward.reaches]

/-- A kind's place among the alert kinds is its bit number (section 10.6). -/
theorem alertKinds_num (n : Fin 16) : alertKinds[n].num = n.val := by
  revert n
  decide

/-- The mask of an alert kind holds its own bit and no other. -/
theorem AlertKind.bit_getLsbD_iff (k : AlertKind) (m : Nat) :
    k.bit.getLsbD m = true ↔ m = k.num := by
  have hnum : k.num < 16 := by cases k <;> decide
  change (BitVec.twoPow 16 k.num).getLsbD m = true ↔ m = k.num
  simp [BitVec.getLsbD_twoPow, hnum, eq_comm]

section Join

variable {k : AlertKind} {w : Toward} {p : PortId} {x : Port}

/-- The kind joins the set of a port that is to see the alert and enables it. -/
theorem Port.join_of_reaches (hsees : w.reaches p x.role) (hmask : x.mask.getLsbD k.num = true) :
    x.join k w p = { x with alerts := x.alerts ||| k.bit } := by
  rw [← Toward.sees_iff_reaches] at hsees
  simp [Port.join, hsees, hmask]

/-- A port that is not to see the alert, or has the kind disabled, stays. -/
theorem Port.join_of_not_reaches (h : ¬ w.reaches p x.role ∨ x.mask.getLsbD k.num = false) :
    x.join k w p = x := by
  rw [← Toward.sees_iff_reaches] at h
  rcases h with hsees | hmask
  · simp [Port.join, hsees]
  · simp [Port.join, hmask]

end Join

/-- Settles O49: the line is read bit by bit, both requests come to their rules, and an alert raised joins each
port's set by the port's own role and mask. -/
theorem alertsAreReadMaskedAndShownOnTheLine : Obligations.AlertsAreReadMaskedAndShownOnTheLine := by
  intro p tag mask s
  refine ⟨fun q => (s.port q).lineActive_iff, fun hp => ⟨?_, exec_setAlertMask_hears hp tag mask⟩,
    fun n w => ⟨rfl, fun q hsees hmask => ?_, fun q hnot => ?_⟩⟩
  · exact ⟨_, exec_readAlerts_hears hp tag, rfl,
      (State.alertLine_answered _ _ _ _ _ _ _).trans (s.alertLine_emptied p)⟩
  · rw [← alertKinds_num] at hmask
    refine ⟨(s.port q).alerts ||| alertKinds[n].bit, ?_, fun m _ => ?_⟩
    · rw [State.raise_port, Port.join_of_reaches hsees hmask]
    · rw [BitVec.getLsbD_or, Bool.or_eq_true, AlertKind.bit_getLsbD_iff, alertKinds_num, or_comm]
  · rw [← alertKinds_num] at hnot
    rw [State.raise_port, Port.join_of_not_reaches hnot]

end Sys2Proof.Machine
end

section
/-! The ledger of the controller: all that the invariants of the moves, stacks, cranes, pieces, beds and stored
figures look at, and what leaves it as it stands. -/

namespace Sys2Proof.Machine

/-! ### The ledger of a state -/

/-- What the invariants look at of a bed. -/
structure BedLine where
  working : Option Profile
  maturity : Maturity
  state : CycleState

/-- What the invariants look at of a stack. -/
structure StackLine where
  tierLimit : Nat
  height : Nat
  incoming : Nat

/-- All of the state that the invariants look at, beside the feeder's. -/
structure Ledger where
  ctl : Ctl
  pending : List Instr
  roles : PortId → Role
  settings : Settings
  profiles : Vector Profile 16
  beds : BedId → Option BedLine
  piles : StackId → Option StackLine
  held : CraneId → Option SlotId
  slots : SlotId → Option Move
  charged : PortId → Nat
  link : Nat → Option (Option SlotId)
  records : Nat
  countdown : Nat
  remaining : Nat

def Bed.line (x : Bed) : BedLine := ⟨x.heat.working, x.maturity, x.cycle.state⟩

def Stack.line (x : Stack) : StackLine := ⟨x.defn.tierLimit, x.contents.length, x.incoming⟩

/-- The ledger of a state. -/
def State.ledger (s : State) : Ledger where
  ctl := s.ctl
  pending := s.pending
  roles := fun p => (s.port p).role
  settings := s.settings
  profiles := s.profiles
  beds := fun b => (s.bed b).map Bed.line
  piles := fun i => (s.stack i).map Stack.line
  held := fun k => (s.crane k).held.map Held.slot
  slots := s.move
  charged := fun p => s.moves.charged[p]
  link := fun id => (s.piece id).map Piece.move
  records := s.pieces.length
  countdown := s.scan.countdown
  remaining := s.scan.remaining

/-! ### Reading the registry -/

/-- A change that keeps every id leaves each id its record, changed. -/
theorem find?_map_keepsId {f : Piece → Piece} (hf : ∀ x, (f x).id = x.id) (l : List Piece) (id : Nat) :
    (l.map f).find? (fun x => x.id == id) = (l.find? fun x => x.id == id).map f := by
  rw [List.find?_map]
  exact congrArg _ (congrArg (fun p => l.find? p) (funext fun x => by simp [hf]))

/-- A change of one piece's record reaches that record alone. -/
theorem State.modPiece_piece (s : State) {f : Piece → Piece} (hf : ∀ x, (f x).id = x.id) (id j : Nat) :
    (s.modPiece id f).piece j = if j = id then (s.piece id).map f else s.piece j := by
  have hkeeps : ∀ x : Piece, (if x.id == id then f x else x).id = x.id := fun x => by
    split
    · exact hf x
    · rfl
  rw [State.piece, State.modPiece, find?_map_keepsId hkeeps]
  change (s.piece j).map _ = _
  cases hj : s.piece j with
  | none =>
    split
    · next h => subst h; rw [hj]; rfl
    · rfl
  | some x =>
    have hid := State.piece_id hj
    split
    · next h => subst h; simp [hj, hid]
    · next h => simp [hid, h]

/-- A record put into the registry is found by its id, and every other as before. -/
theorem find?_insertPiece (x : Piece) (l : List Piece) (h : l.find? (fun y => y.id == x.id) = none)
    (id : Nat) :
    (insertPiece x l).find? (fun y => y.id == id) =
      if id = x.id then some x else l.find? fun y => y.id == id := by
  induction l with
  | nil =>
    by_cases hid : id = x.id
    · simp [insertPiece, hid]
    · simp [insertPiece, hid, Ne.symm hid]
  | cons y l ih =>
    obtain ⟨hy, hl⟩ : ¬ y.id = x.id ∧ l.find? (fun y => y.id == x.id) = none := by
      rw [List.find?_cons] at h
      split at h
      · cases h
      · next hne => exact ⟨by simpa using hne, h⟩
    unfold insertPiece
    split
    · by_cases hid : id = x.id
      · simp [hid]
      · have hne : ¬ x.id = id := Ne.symm hid
        simp [hid, hne]
    · by_cases hyid : y.id = id
      · subst hyid
        simp [hy]
      · simp [hyid, ih hl]

theorem State.addPiece_piece {s : State} {x : Piece} (h : s.piece x.id = none) (id : Nat) :
    (s.addPiece x).piece id = if id = x.id then some x else s.piece id :=
  find?_insertPiece x s.pieces h id

/-- A record freed is not found, and every other as before. -/
theorem State.freePiece_piece (s : State) (id j : Nat) :
    (s.freePiece id).piece j = if j = id then none else s.piece j := by
  rw [State.piece, State.freePiece, List.find?_filter]
  split
  · next h =>
    subst h
    simp
  · next h =>
    refine congrArg (fun p => s.pieces.find? p) (funext fun x => ?_)
    by_cases hx : x.id = j <;> simp [hx, h]

theorem length_insertPiece (x : Piece) (l : List Piece) :
    (insertPiece x l).length = l.length + 1 := by
  induction l with
  | nil => rfl
  | cons y l ih =>
    unfold insertPiece
    split
    · rfl
    · rw [List.length_cons, ih, List.length_cons]

end Sys2Proof.Machine
end

section
/-! What leaves the ledger as it stands: alerts, responses, the end of an event, an allocation, and the changes
of a bed, a piece or the Scan Unit that no invariant looks at. -/

namespace Sys2Proof.Machine

/-! ### Ports, alerts and the end of an event -/

/-- A change of the ports and counters that keeps every role. -/
theorem State.ledger_ports (s : State) (v : Vector Port 4) (c : CounterBank)
    (h : ∀ p : PortId, v[p].role = (s.port p).role) :
    ({ s with ports := v, counters := c } : State).ledger = s.ledger :=
  congrArg (fun roles => { s.ledger with roles := roles }) (funext h)

theorem State.modPort_ledger (s : State) (p : PortId) {f : Port → Port} (hf : ∀ x, (f x).role = x.role) :
    (s.modPort p f).ledger = s.ledger := by
  refine s.ledger_ports _ s.counters fun q => ?_
  change ((s.modPort p f).port q).role = _
  rw [State.modPort_port]
  split
  · next h => rw [hf, h]
  · rfl

@[simp] theorem State.raise_ledger (s : State) (k : AlertKind) (t : Toward) :
    (s.raise k t).ledger = s.ledger := by
  refine s.ledger_ports _ s.counters fun q => ?_
  change ((s.raise k t).port q).role = _
  simp

@[simp] theorem State.raiseIf_ledger (s : State) (c : Bool) (k : AlertKind) :
    (s.raiseIf c k).ledger = s.ledger := by
  unfold State.raiseIf
  split
  · exact s.raise_ledger _ _
  · rfl

/-- A change that keeps the ledger keeps it through a whole list. -/
theorem foldl_ledger {α : Type} {f : State → α → State} (h : ∀ s a, (f s a).ledger = s.ledger)
    (l : List α) (s : State) : (l.foldl f s).ledger = s.ledger := by
  induction l generalizing s with
  | nil => rfl
  | cons a l ih => rw [List.foldl_cons, ih, h]

@[simp] theorem State.raiseBeds_ledger (s : State) (k : AlertKind) (pick : BedId → Bool) :
    (s.raiseBeds k pick).ledger = s.ledger :=
  foldl_ledger (fun s b => by
    split
    · exact s.raise_ledger _ _
    · rfl) _ _

@[simp] theorem Event.close_ledger (e : Event) : e.close.ledger = e.st.ledger := by
  rw [e.close_eq]
  refine e.st.ledger_ports _ _ fun p => ?_
  change (e.close.port p).role = _
  rcases e.close_port p with h | h <;> rw [h]
  exact Port.join_role _ _ _ _

@[simp] theorem State.setRx_ledger (s : State) (p : PortId) (r : Receiver) :
    (s.setRx p r).ledger = s.ledger :=
  s.modPort_ledger p fun _ => rfl

/-! ### Beds, pieces and the Scan Unit -/

/-- A change of the beds that keeps every line. -/
theorem State.ledger_beds (s : State) (v : Vector (Option Bed) 16)
    (h : ∀ b : BedId, v[b].map Bed.line = (s.bed b).map Bed.line) :
    ({ s with beds := v } : State).ledger = s.ledger :=
  congrArg (fun lines => { s.ledger with beds := lines }) (funext h)

/-- A change of the piece records that keeps every id and pending move. -/
theorem State.ledger_mapPieces (s : State) {f : Piece → Piece} (hid : ∀ x, (f x).id = x.id)
    (hmove : ∀ x, (f x).move = x.move) :
    ({ s with pieces := s.pieces.map f } : State).ledger = s.ledger := by
  have hlink : (fun id => (({ s with pieces := s.pieces.map f } : State).piece id).map Piece.move) =
      fun id => (s.piece id).map Piece.move := by
    funext id
    rw [State.piece, find?_map_keepsId hid, Option.map_map]
    exact congrArg (fun g => (s.piece id).map g) (funext hmove)
  have hrecords : (s.pieces.map f).length = s.pieces.length := List.length_map _
  exact congrArg₂ (fun link records => { s.ledger with link := link, records := records }) hlink hrecords

theorem State.modPiece_ledger (s : State) (id : Nat) {f : Piece → Piece} (hid : ∀ x, (f x).id = x.id)
    (hmove : ∀ x, (f x).move = x.move) : (s.modPiece id f).ledger = s.ledger :=
  s.ledger_mapPieces (fun x => by split <;> simp [hid]) (fun x => by split <;> simp [hmove])

theorem State.modPieces_ledger (s : State) (ids : List Nat) {f : Piece → Piece}
    (hid : ∀ x, (f x).id = x.id) (hmove : ∀ x, (f x).move = x.move) :
    (s.modPieces ids f).ledger = s.ledger :=
  s.ledger_mapPieces (fun x => by split <;> simp [hid]) (fun x => by split <;> simp [hmove])

theorem State.setBed_ledger (s : State) (b : BedId) (x : Option Bed) :
    (s.setBed b x).ledger =
      { s.ledger with beds := Function.update s.ledger.beds b (x.map Bed.line) } := by
  refine congrArg (fun lines => { s.ledger with beds := lines }) (funext fun c => ?_)
  rw [State.setBed_bed]
  by_cases h : b = c
  · subst h
    simp
  · simp [h, Function.update_of_ne (Ne.symm h), State.ledger]

/-- A defined bed changed without its line. -/
theorem State.modBed_ledger (s : State) (b : BedId) {f : Bed → Bed} (h : ∀ x, (f x).line = x.line) :
    (s.modBed b f).ledger = s.ledger := by
  refine s.ledger_beds _ fun c => ?_
  change ((s.modBed b f).bed c).map _ = _
  rw [State.modBed, State.setBed_bed]
  split
  · next hb =>
    subst hb
    rw [Option.map_map]
    exact congrArg (fun g => (s.bed b).map g) (funext h)
  · rfl

@[simp] theorem unlistPiece_ledger (b : BedId) (id : Nat) (s : State) :
    (unlistPiece b id s).ledger = s.ledger :=
  s.modBed_ledger b fun _ => rfl

/-! ### An allocation -/

@[simp] theorem allocate_ledger (e : Event) : (allocate e).st.ledger = e.st.ledger := by
  rw [allocate_eq, State.raiseIf_ledger]
  refine congrArg (fun lines => { e.st.ledger with beds := lines }) (funext fun b => ?_)
  simp only [State.bed, State.writeAllocation, onEach_get, Option.map_map]
  rfl

@[simp] theorem allocateRunning_ledger (e : Event) : (allocateRunning e).st.ledger = e.st.ledger := by
  unfold allocateRunning
  split
  · rfl
  · exact allocate_ledger e

/-! ### The course of a scan -/

@[simp] theorem formAggregates_ledger (s : State) : (formAggregates s).ledger = s.ledger := by
  simp only [formAggregates, State.raiseIf_ledger, State.raiseBeds_ledger]
  refine s.ledger_beds _ fun b => ?_
  rw [onEach_get, Option.map_map]
  rfl

@[simp] theorem evaluateShip_ledger (s : State) : (evaluateShip s).ledger = s.ledger := by
  rw [evaluateShip, State.raiseIf_ledger]
  exact s.ledger_mapPieces (fun _ => rfl) (fun _ => rfl)

/-- The phase steps leave the working profile. -/
@[simp] theorem stepPhase_working (i : HeatInput) (q : Profile) (t : Int) (a : Aggregate) (g : Regulation) :
    (stepPhase i q t a g).working = g.working := by
  unfold stepPhase leavePreset advance descend
  dsimp only
  repeat' split
  all_goals rfl

/-- Regulation leaves a bed's working profile, maturity and cycle state. -/
theorem Bed.regulate_line (i : HeatInput) (q : Profile) (x : Bed) : (x.regulate i q).line = x.line := by
  have hworking : (Machine.regulate i q x).working = x.heat.working := by
    unfold Machine.regulate
    dsimp only
    split <;> exact stepPhase_working _ _ _ _ _
  unfold Bed.regulate
  split
  · simp only [Bed.line, hworking]
  · rfl

@[simp] theorem regulateAll_ledger (minutes : Vector Nat 16) (s : State) :
    (regulateAll minutes s).ledger = s.ledger := by
  simp only [regulateAll, State.raiseBeds_ledger]
  refine s.ledger_beds _ fun b => ?_
  rw [onEach_get, Option.map_map]
  exact congrArg (fun g => (s.bed b).map g) (funext fun x => x.regulate_line _ _)

@[simp] theorem judge_ledger (c : Channel) (raw : Nat) (e : Event) :
    (judge c raw e).st.ledger = e.st.ledger := by
  unfold judge
  dsimp only
  split
  · exact State.raiseIf_ledger _ _ _
  · rfl

end Sys2Proof.Machine
end

section
/-! What a command can do to the ledger: the entries that the chapters' rules write into it, one constructor per
kind of entry, each with the facts its rule has checked. -/

namespace Sys2Proof.Machine

/-! ### Entries about one bed -/

/-- The line of a bed in EMPTY without a working profile. -/
def BedLine.empty : BedLine := ⟨none, Maturity.none, .empty⟩

/-- What a command other than BED_SET can make of a bed slot's line, with the slot's stored profile. -/
inductive BedTurn (ctl : Ctl) (stored : Profile) : Option BedLine → Option BedLine → Prop where
  /-- The slot keeps its line. -/
  | stays (o : Option BedLine) : BedTurn ctl stored o o
  /-- The slot's definition is removed (R5). -/
  | removed (o : Option BedLine) : BedTurn ctl stored o none
  /-- The slot is defined (R4) or its bed returns to EMPTY (R114). -/
  | emptied (o : Option BedLine) : BedTurn ctl stored o (some .empty)
  /-- CANCEL_SET (R100). -/
  | cancelled (x : BedLine) (hset : x.state = .set) :
      BedTurn ctl stored (some x) (some { x with state := .empty })
  /-- POUR_START (R101). -/
  | casting (x : BedLine) (hset : x.state = .set) :
      BedTurn ctl stored (some x) (some { x with state := .casting })
  /-- POUR_END (R103). -/
  | poured (x : BedLine) (m : Int) (hcasting : x.state = .casting) :
      BedTurn ctl stored (some x) (some ⟨some stored, ⟨0, some m, false, 0⟩, .curing⟩)
  /-- An accounting, or the minute that COMMIT writes (R15, R46). -/
  | accounted (x : BedLine) (m : Maturity) (hcures : x.state.accounted = true)
      (hgrows : x.maturity.count ≤ maxCount → x.maturity.count ≤ m.count ∧ m.count ≤ maxCount) :
      BedTurn ctl stored (some x) (some { x with maturity := m })
  /-- A release, a detensioning or an abandonment (R107, R109 to R111). -/
  | advanced (x : BedLine) (c : CycleState) (hcures : x.state.accounted = true)
      (hcures' : c.accounted = true) : BedTurn ctl stored (some x) (some { x with state := c })
  /-- LOAD_BED_STATE (R14). -/
  | restored (o : Option BedLine) (q : Profile) (m : Maturity) (c : CycleState) (hctl : ctl = .loading)
      (hprofile : q.holdTemp < q.ceiling) (hcures : c.accounted = true) (hmax : m.count ≤ maxCount) :
      BedTurn ctl stored o (some ⟨some q, m, c⟩)

/-! ### Entries about one stack -/

def StackLine.fewer (x : StackLine) : StackLine := { x with incoming := x.incoming - 1 }
def StackLine.more (x : StackLine) : StackLine := { x with incoming := x.incoming + 1 }
def StackLine.taller (x : StackLine) : StackLine := { x with height := x.height + 1 }

/-- One more piece has room beside the pieces and the moves bound for the stack (R124). -/
def StackLine.hasRoom (x : StackLine) : Prop := x.height + x.incoming < x.tierLimit

namespace Ledger

variable (L : Ledger)

@[simps]
def putStack (i : StackId) (o : Option StackLine) : Ledger :=
  { L with piles := Function.update L.piles i o }

@[simps!]
def modStack (i : StackId) (f : StackLine → StackLine) : Ledger := L.putStack i ((L.piles i).map f)

/-! ### Entries about one move -/

@[simps]
def putMove (i : SlotId) (o : Option Move) : Ledger := { L with slots := Function.update L.slots i o }

@[simps]
def hold (k : CraneId) (o : Option SlotId) : Ledger := { L with held := Function.update L.held k o }

@[simps]
def charge (p : PortId) (n : Nat) : Ledger := { L with charged := Function.update L.charged p n }

/-- The pending move of a registered piece written. -/
@[simps]
def relink (id : Nat) (o : Option SlotId) : Ledger :=
  { L with link := Function.update L.link id ((L.link id).map fun _ => o) }

/-- A move leaves the table (R126, R141, R146). -/
@[simp] def leave (i : SlotId) (m : Move) : Ledger :=
  ((L.putMove i none).charge m.requester (L.charged m.requester - 1)).relink m.piece none

/-- A new move is entered (R140, R144). -/
@[simp] def enter (i : SlotId) (m : Move) : Ledger :=
  ((L.putMove i (some m)).charge m.requester (L.charged m.requester + 1)).relink m.piece (some i)

/-- A GRANTED move returns to QUEUED (R129). -/
@[simp] def requeue (i : SlotId) (m : Move) (g : Grant) : Ledger :=
  ((L.putMove i (some { m with progress := .queued })).modStack m.dest .fewer).hold g.crane none

/-- A QUEUED move is granted (R164). -/
@[simp] def grant (i : SlotId) (m : Move) (g : Grant) : Ledger :=
  ((L.putMove i (some { m with progress := .granted g })).modStack m.dest .more).hold g.crane (some i)

/-- A lifted move ends on a stack (R128, R151). -/
@[simp] def finish (i : SlotId) (m : Move) (k : CraneId) (onto : StackId) : Ledger :=
  (((L.modStack m.dest .fewer).modStack onto .taller).leave i m).hold k none

end Ledger

/-! ### What one entry can be -/

/-- One entry that a command other than BED_SET and POWER_ON can write into the ledger. -/
inductive Change (L : Ledger) : Ledger → Prop where
  /-- COMMIT starts RUNNING (R15). -/
  | commit (hctl : L.ctl = .loading) : Change L { L with ctl := .running }
  /-- SET_CONFIG (R11). -/
  | setting (row port : Nat) (x : Int) (hknown : (L.settings.value? row port).isSome)
      (hlow : (settingRange row).1 ≤ x) (hhigh : x ≤ (settingRange row).2)
      (hfrost : row = 6 ∨ row = 7 → (L.settings.store row port x).frostPair = true) :
      Change L { L with settings := L.settings.store row port x }
  /-- SET_PROFILE (R60). -/
  | profiles (v : Vector Profile 16)
      (hv : ∀ b : BedId, v[b] = L.profiles[b] ∨ v[b].holdTemp < v[b].ceiling) :
      Change L { L with profiles := v }
  /-- The scan timer's countdown begins again (R24). -/
  | timer : Change L { L with countdown := L.settings.scanInterval, remaining := L.settings.scanInterval }
  /-- READ_SCAN makes the minutes remaining known (R38). -/
  | remaining (n : Nat) (hn : 1 ≤ L.remaining → 1 ≤ n ∧ n ≤ L.remaining) : Change L { L with remaining := n }
  /-- The beds change, each as its rule allows. -/
  | beds (lines : BedId → Option BedLine)
      (h : ∀ b : BedId, BedTurn L.ctl L.profiles[b] (L.beds b) (lines b)) : Change L { L with beds := lines }
  /-- A stack that holds nothing and is bound for by nothing is defined or removed (R6). -/
  | redefine (i : StackId) (o : Option StackLine) (ho : o = none ∨ ∃ n, 1 ≤ n ∧ o = some ⟨n, 0, 0⟩)
      (hfree : ∀ x, L.piles i = some x → x.incoming = 0 ∧ ∀ j m, L.slots j = some m → m.dest ≠ i) :
      Change L (L.putStack i o)
  /-- A stack gives pieces up (R127, R131, R132). -/
  | shrink (i : StackId) (x : StackLine) (n : Nat) (hx : L.piles i = some x) (hn : n ≤ x.height) :
      Change L (L.putStack i (some { x with height := n }))
  /-- LOAD_PIECE puts a piece on a stack (R13). -/
  | restore (i : StackId) (x : StackLine) (hctl : L.ctl = .loading) (hx : L.piles i = some x)
      (hroom : x.height < x.tierLimit) : Change L (L.putStack i (some x.taller))
  /-- A piece is registered (R13, R14, R103). -/
  | register (id : Nat) (hnew : L.link id = none) (hroom : L.records < maxPieces) :
      Change L { L with link := Function.update L.link id (some none), records := L.records + 1 }
  /-- The record of a piece without a move in the table is freed (R120). -/
  | free (id n : Nat) (hn : n ≤ L.records) (hmove : ∀ o, L.link id = some o → o.bind L.slots = none) :
      Change L { L with link := Function.update L.link id none, records := n }
  /-- A QUEUED move leaves the table (R145, R146). -/
  | leave (i : SlotId) (m : Move) (hm : L.slots i = some m) (hq : m.progress = .queued) :
      Change L (L.leave i m)
  /-- A request merges into a QUEUED move (R143). -/
  | merge (i : SlotId) (m : Move) (k : MoveKind) (src : Source) (d : StackId) (hm : L.slots i = some m)
      (hq : m.progress = .queued) :
      Change L (L.putMove i (some { m with kind := k, source := src, dest := d }))
  /-- A move is entered for a registered piece without one (R144). -/
  | enter (i : SlotId) (m : Move) (o : Option SlotId) (hctl : L.ctl = .running) (hi : L.slots i = none)
      (hq : m.progress = .queued) (ho : L.link m.piece = some o) (hnone : o.bind L.slots = none) :
      Change L (L.enter i m)
  /-- A GRANTED move returns to QUEUED (R150, R152, R156). -/
  | requeue (i : SlotId) (m : Move) (g : Grant) (hm : L.slots i = some m) (hg : m.progress = .granted g) :
      Change L (L.requeue i m g)
  /-- A QUEUED move is granted to an IDLE crane (R164). -/
  | grant (i : SlotId) (m : Move) (g : Grant) (x : StackLine) (hctl : L.ctl = .running)
      (hm : L.slots i = some m) (hq : m.progress = .queued) (hidle : L.held g.crane = none)
      (hx : L.piles m.dest = some x) (hroom : x.hasRoom)
      (hclear : ∀ j n h, L.slots j = some n → n.grant? = some h → h.crane ≠ g.crane →
        widenedMeet g.spanLow g.spanHigh g.clearance h.spanLow h.spanHigh h.clearance = false) :
      Change L (L.grant i m g)
  /-- A granted move is lifted, or a lifted one is marked overdue (R148, R153). -/
  | lift (i : SlotId) (m : Move) (g : Grant) (t : Int) (flag : Bool) (hm : L.slots i = some m)
      (hg : m.grant? = some g) : Change L (L.putMove i (some { m with progress := .lifted g t flag }))
  /-- A lifted move ends on its destination or on a stack with room (R149, R151). -/
  | finish (i : SlotId) (m : Move) (g : Grant) (onto : StackId) (hm : L.slots i = some m)
      (hg : m.grant? = some g)
      (honto : onto = m.dest ∨ ∃ x, L.piles onto = some x ∧ x.hasRoom) :
      Change L (L.finish i m g.crane onto)

/-- Any number of entries, one after the other. -/
abbrev Changes : Ledger → Ledger → Prop := Relation.ReflTransGen Change

/-- What a command other than POWER_ON makes of the ledger: a BED_SET takes a bed from EMPTY to SET, and any
other command writes the entries of its rules. -/
inductive Effect (L : Ledger) : Ledger → Prop where
  | entries {L' : Ledger} (h : Changes L L') : Effect L L'
  | bedSet (b : BedId) (x : BedLine) (hx : L.beds b = some x) (hempty : x.state = .empty) :
      Effect L { L with beds := Function.update L.beds b (some { x with state := .set }) }

theorem Changes.one {L L' : Ledger} (h : Change L L') : Changes L L' := .single h

theorem Changes.of_eq {L L' : Ledger} (h : L' = L) : Changes L L' := h ▸ .refl

theorem Effect.of_eq {L L' : Ledger} (h : L' = L) : Effect L L' := .entries (.of_eq h)

/-! ### The state's operations as entries -/

theorem State.setStack_ledger (s : State) (i : StackId) (o : Option Stack) :
    (s.setStack i o).ledger = s.ledger.putStack i (o.map Stack.line) := by
  refine congrArg (fun piles => { s.ledger with piles := piles }) (funext fun j => ?_)
  rw [State.setStack_stack]
  by_cases h : i = j
  · subst h
    simp
  · simp [h, Function.update_of_ne (Ne.symm h), State.ledger]

theorem State.modStack_ledger (s : State) (i : StackId) {f : Stack → Stack} {g : StackLine → StackLine}
    (h : ∀ x, (f x).line = g x.line) : (s.modStack i f).ledger = s.ledger.modStack i g := by
  rw [State.modStack, State.setStack_ledger, Option.map_map]
  have hf : Stack.line ∘ f = g ∘ Stack.line := funext h
  rw [hf, ← Option.map_map]
  rfl

theorem State.setMove_ledger (s : State) (i : SlotId) (o : Option Move) :
    (s.setMove i o).ledger = s.ledger.putMove i o := by
  refine congrArg (fun slots => { s.ledger with slots := slots }) (funext fun j => ?_)
  rw [State.setMove_move]
  by_cases h : i = j
  · subst h
    simp
  · simp [h, Function.update_of_ne (Ne.symm h), State.ledger]

theorem State.modCrane_ledger (s : State) (k : CraneId) (f : Crane → Crane) :
    (s.modCrane k f).ledger = s.ledger.hold k ((f (s.crane k)).held.map Held.slot) := by
  refine congrArg (fun held => { s.ledger with held := held }) (funext fun j => ?_)
  rw [State.modCrane_crane]
  by_cases h : k = j
  · subst h
    simp
  · simp [h, Function.update_of_ne (Ne.symm h), State.ledger]

/-- A change of a crane that keeps what it holds. -/
theorem State.modCrane_ledger_keep (s : State) (k : CraneId) {f : Crane → Crane}
    (h : (f (s.crane k)).held = (s.crane k).held) : (s.modCrane k f).ledger = s.ledger := by
  rw [State.modCrane_ledger, h]
  exact congrArg (fun held => { s.ledger with held := held }) (Function.update_eq_self k s.ledger.held)

/-- The pending move of a piece written by its id. -/
theorem State.modPiece_relink (s : State) (id : Nat) (o : Option SlotId) :
    (s.modPiece id fun x => { x with move := o }).ledger = s.ledger.relink id o := by
  have hlink : (fun j => ((s.modPiece id fun x => { x with move := o }).piece j).map Piece.move) =
      Function.update s.ledger.link id ((s.ledger.link id).map fun _ => o) := by
    funext j
    rw [State.modPiece_piece (f := fun x => { x with move := o }) s (fun _ => rfl)]
    by_cases h : j = id
    · subst h
      simp [State.ledger, Function.comp_def]
    · simp [h, State.ledger]
  have hrecords : (s.modPiece id fun x => { x with move := o }).pieces.length = s.pieces.length :=
    List.length_map _
  exact congrArg₂ (fun link records => { s.ledger with link := link, records := records }) hlink hrecords

/-- A port's charged count written. -/
theorem State.charge_ledger (s : State) (p : PortId) (n : Nat) :
    ({ s with moves := { s.moves with charged := s.moves.charged.set p n } } : State).ledger =
      s.ledger.charge p n := by
  refine congrArg (fun charged => { s.ledger with charged := charged }) (funext fun q => ?_)
  change (s.moves.charged.set p n)[q] = _
  rw [vector_set_get]
  by_cases h : p = q
  · subst h
    simp
  · simp [h, Function.update_of_ne (Ne.symm h), State.ledger]

theorem leaveTable_ledger (i : SlotId) (m : Move) (s : State) :
    (leaveTable i m s).ledger = s.ledger.leave i m := by
  rw [leaveTable, State.modPiece_relink]
  exact congrArg (Ledger.relink · m.piece none) <| (State.charge_ledger _ _ _).trans <|
    congrArg (Ledger.charge · m.requester _) (s.setMove_ledger i none)

theorem enterMove_ledger (p : PortId) (k : MoveKind) (id : Nat) (src : Source) (d : StackId) (i : SlotId)
    (s : State) :
    (enterMove p k id src d i s).ledger = s.ledger.enter i ⟨k, id, src, d, p, s.moves.seq + 1, .queued⟩ := by
  rw [enterMove, State.modPiece_relink]
  exact congrArg (Ledger.relink · id (some i)) <| (State.charge_ledger _ _ _).trans <|
    congrArg (Ledger.charge · p _) (s.setMove_ledger i _)

theorem requeue_ledger (i : SlotId) (m : Move) (g : Grant) (s : State) :
    (requeue i m g s).ledger = s.ledger.requeue i m g := by
  rw [requeue, idleCrane, State.modCrane_ledger, fewerIncoming,
    State.modStack_ledger (g := .fewer) _ _ fun _ => rfl, State.setMove_ledger]
  rfl

/-- A stack whose pieces alone change. -/
theorem State.setContents_ledger {s : State} {i : StackId} {x : Stack} (l : List Nat) :
    (s.setStack i (some { x with contents := l })).ledger =
      s.ledger.putStack i (some { x.line with height := l.length }) :=
  s.setStack_ledger i _

theorem State.addPiece_ledger {s : State} {x : Piece} (hnew : s.piece x.id = none) (hmove : x.move = none) :
    (s.addPiece x).ledger =
      { s.ledger with
        link := Function.update s.ledger.link x.id (some none)
        records := s.ledger.records + 1 } := by
  have hlink : (fun j => ((s.addPiece x).piece j).map Piece.move) =
      Function.update s.ledger.link x.id (some none) := by
    funext j
    rw [State.addPiece_piece hnew]
    by_cases h : j = x.id
    · simp [h, hmove]
    · simp [h, State.ledger]
  exact congrArg₂ (fun link records => { s.ledger with link := link, records := records }) hlink
    (length_insertPiece x s.pieces)

theorem State.freePiece_ledger (s : State) (id : Nat) :
    (s.freePiece id).ledger =
      { s.ledger with
        link := Function.update s.ledger.link id none
        records := (s.freePiece id).pieces.length } := by
  have hlink : (fun j => ((s.freePiece id).piece j).map Piece.move) =
      Function.update s.ledger.link id none := by
    funext j
    rw [State.freePiece_piece]
    by_cases h : j = id
    · simp [h]
    · simp [h, State.ledger]
  exact congrArg (fun link => { s.ledger with link := link, records := (s.freePiece id).pieces.length })
    hlink

end Sys2Proof.Machine
end

section
/-! The entries that the operations shared by beds, pieces, moves and cranes write into the ledger, and those of
the part's events. -/

namespace Sys2Proof.Machine

/-! ### Beds -/

/-- Every bed slot takes a turn. -/
theorem Changes.mapBeds (s : State) (v : Vector (Option Bed) 16)
    (h : ∀ b : BedId, BedTurn s.ctl s.profiles[b] ((s.bed b).map Bed.line) (v[b].map Bed.line)) :
    Changes s.ledger ({ s with beds := v } : State).ledger :=
  .one (.beds (fun b => v[b].map Bed.line) h)

/-- One bed slot takes a turn. -/
theorem Changes.setBed (s : State) (b : BedId) (o : Option Bed)
    (h : BedTurn s.ctl s.profiles[b] ((s.bed b).map Bed.line) (o.map Bed.line)) :
    Changes s.ledger (s.setBed b o).ledger := by
  refine .mapBeds s _ fun c => ?_
  change BedTurn _ _ _ (((s.setBed b o).bed c).map Bed.line)
  rw [State.setBed_bed]
  split
  · next hb => exact hb ▸ h
  · exact .stays _

theorem returnToEmpty_changes (b : BedId) (s : State) : Changes s.ledger (returnToEmpty b s).ledger := by
  refine .setBed s b _ ?_
  cases s.bed b with
  | none => exact .stays _
  | some x => exact .emptied _

theorem settleBed_changes (b : BedId) (e : Event) : Changes e.st.ledger (settleBed b e).st.ledger := by
  obtain ⟨-, h⟩ | ⟨-, h⟩ := settleBed_cases b e <;> rw [h]
  rw [allocateRunning_ledger]
  exact returnToEmpty_changes b e.st

/-! ### Stacks -/

theorem pullPiece_changes (i : StackId) (id : Nat) (s : State) :
    Changes s.ledger (pullPiece i id s).ledger := by
  unfold pullPiece State.modStack
  cases hx : s.stack i with
  | none =>
    refine .of_eq ?_
    rw [State.setStack_ledger]
    refine congrArg (fun piles => { s.ledger with piles := piles }) ?_
    have hnone : s.ledger.piles i = none := by simp [State.ledger, hx]
    exact (congrArg _ hnone.symm).trans (Function.update_eq_self i s.ledger.piles)
  | some x =>
    have hline : s.ledger.piles i = some x.line := by simp [State.ledger, hx]
    rw [Option.map_some, State.setContents_ledger]
    exact .one (.shrink i x.line _ hline (List.length_filter_le _ _))

/-! ### Moves that leave the table -/

theorem State.ledger_slots {s : State} {i : SlotId} {m : Move} (h : s.move i = some m) :
    s.ledger.slots i = some m := h

theorem State.ledger_link {s : State} {id : Nat} {x : Piece} (h : s.piece id = some x) :
    s.ledger.link id = some x.move := by simp [State.ledger, h]

theorem dropMove_changes (i : SlotId) (s : State) : Changes s.ledger (dropMove i s).ledger := by
  obtain h | ⟨m, hm, hq, h⟩ := dropMove_cases i s <;> rw [h]
  rw [State.raise_ledger, leaveTable_ledger]
  exact .one (.leave i m hm hq)

theorem dropMoveOf_changes (id : Nat) (s : State) : Changes s.ledger (dropMoveOf id s).ledger := by
  unfold dropMoveOf
  split
  · exact .refl
  · exact dropMove_changes _ s

/-- Moves and pending moves have only been lost. -/
def Ledger.Loses (L L' : Ledger) : Prop :=
  (∀ j m, L'.slots j = some m → L.slots j = some m) ∧
    ∀ id o, L'.link id = some o → o = none ∨ L.link id = some o

/-- No move of the table is the piece's. -/
def Ledger.Unmoved (L : Ledger) (id : Nat) : Prop := ∀ o, L.link id = some o → o.bind L.slots = none

/-- The piece has no move in motion. -/
def Ledger.AtRest (L : Ledger) (id : Nat) : Prop :=
  ∀ i m, L.link id = some (some i) → L.slots i = some m → m.progress = .queued

theorem Ledger.Loses.refl (L : Ledger) : L.Loses L := ⟨fun _ _ h => h, fun _ _ h => .inr h⟩

theorem Ledger.Unmoved.loses {L L' : Ledger} {id : Nat} (h : L.Unmoved id) (hl : L.Loses L') :
    L'.Unmoved id := by
  obtain ⟨hslots, hlink⟩ := hl
  intro o ho
  obtain rfl | hold := hlink id o ho
  · rfl
  · cases o with
    | none => rfl
    | some i =>
      have hi : L.slots i = none := h _ hold
      cases hj : L'.slots i with
      | none => exact hj
      | some m => exact absurd (hslots i m hj) (by simp [hi])

theorem Ledger.AtRest.loses {L L' : Ledger} {id : Nat} (h : L.AtRest id) (hl : L.Loses L') :
    L'.AtRest id := by
  obtain ⟨hslots, hlink⟩ := hl
  intro i m ho hm
  obtain hnone | hold := hlink id _ ho
  · cases hnone
  · exact h i m hold (hslots i m hm)

theorem Ledger.loses_leave (L : Ledger) (i : SlotId) (m : Move) : L.Loses (L.leave i m) := by
  refine ⟨fun j n hn => ?_, fun id o ho => ?_⟩
  · change Function.update L.slots i none j = some n at hn
    by_cases h : j = i
    · subst h
      simp at hn
    · rwa [Function.update_of_ne h] at hn
  · change Function.update L.link m.piece ((L.link m.piece).map fun _ => none) id = some o at ho
    by_cases h : id = m.piece
    · subst h
      rw [Function.update_self] at ho
      obtain ⟨-, -, rfl⟩ := Option.map_eq_some_iff.mp ho
      exact .inl rfl
    · rw [Function.update_of_ne h] at ho
      exact .inr ho

theorem dropMove_loses (i : SlotId) (s : State) : s.ledger.Loses (dropMove i s).ledger := by
  obtain h | ⟨m, -, -, h⟩ := dropMove_cases i s <;> rw [h]
  · exact .refl _
  · rw [State.raise_ledger, leaveTable_ledger]
    exact Ledger.loses_leave _ _ _

theorem dropMoveOf_loses (id : Nat) (s : State) : s.ledger.Loses (dropMoveOf id s).ledger := by
  unfold dropMoveOf
  split
  · exact .refl _
  · exact dropMove_loses _ s

theorem State.freePiece_loses (s : State) (id : Nat) : s.ledger.Loses (s.freePiece id).ledger := by
  rw [State.freePiece_ledger]
  refine ⟨fun _ _ h => h, fun j o ho => ?_⟩
  by_cases h : j = id
  · subst h
    simp at ho
  · exact .inr (by simpa [Function.update_of_ne h] using ho)

theorem State.atRest_of_not_inMotion {s : State} {id : Nat} {x : Piece} (hx : s.piece id = some x)
    (h : s.inMotion x = false) : s.ledger.AtRest id := by
  intro i m hlink hm
  have hmove : x.move = some i := Option.some.inj ((State.ledger_link hx).symm.trans hlink)
  have hm : s.move i = some m := hm
  rw [State.inMotion, State.moveOf, hmove, Option.bind_some, hm] at h
  exact (Move.isQueued_iff m).mp (by simpa using h)

/-- A piece at rest has no move in the table after its QUEUED move is dropped. -/
theorem dropMoveOf_unmoved {s : State} {id : Nat} (h : s.ledger.AtRest id) :
    (dropMoveOf id s).ledger.Unmoved id := by
  intro o ho
  unfold dropMoveOf at ho ⊢
  cases hx : s.piece id with
  | none =>
    simp only [hx, Option.bind_none] at ho ⊢
    simp [State.ledger, hx] at ho
  | some x =>
    have hlink := State.ledger_link hx
    cases hmove : x.move with
    | none =>
      simp only [hx, Option.bind_some, hmove] at ho ⊢
      rw [hlink, hmove] at ho
      cases ho
      rfl
    | some i =>
      simp only [hx, Option.bind_some, hmove] at ho ⊢
      rw [hmove] at hlink
      cases hm : s.move i with
      | none =>
        simp only [dropMove, hm] at ho ⊢
        rw [hlink] at ho
        cases ho
        exact hm
      | some m =>
        have hq := (Move.isQueued_iff m).mpr (h i m hlink hm)
        simp only [dropMove, hm, if_pos hq, State.raise_ledger, leaveTable_ledger] at ho ⊢
        obtain rfl | hold := (s.ledger.loses_leave i m).2 id o ho
        · rfl
        · rw [hlink] at hold
          cases hold
          exact Function.update_self i none s.ledger.slots

theorem State.freePiece_changes {s : State} {id : Nat} (h : s.ledger.Unmoved id) :
    Changes s.ledger (s.freePiece id).ledger := by
  rw [State.freePiece_ledger]
  exact .one (.free id _ (List.length_filter_le _ _) h)

/-! ### Moves that return to QUEUED or end -/

theorem requeue_changes {s : State} {i : SlotId} {m : Move} {g : Grant} (hm : s.move i = some m)
    (hg : m.progress = .granted g) : Changes s.ledger (requeue i m g s).ledger := by
  rw [requeue_ledger]
  exact .one (.requeue i m g hm hg)

theorem Stack.hasRoom_line {x : Stack} (h : x.hasRoom = true) : x.line.hasRoom := by
  simpa [Stack.hasRoom, StackLine.hasRoom, Stack.line] using h

theorem Piece.setDown_ledger (s : State) (id : Nat) (i : StackId) (k : StackKind) :
    (s.modPiece id (Piece.setDown i k)).ledger = s.ledger :=
  s.modPiece_ledger id (fun _ => rfl) (fun _ => rfl)

theorem endMove_changes {s : State} {i : SlotId} {m : Move} {g : Grant} {onto : StackId}
    (hm : s.move i = some m) (hg : m.grant? = some g)
    (honto : onto = m.dest ∨ ∃ x, s.stack onto = some x ∧ x.hasRoom = true) (kind : StackKind)
    (how : Ending) : Changes s.ledger (endMove g.crane i m onto kind how s).st.ledger := by
  have hfinish : (endMove g.crane i m onto kind how s).st.ledger =
      s.ledger.finish i m g.crane onto := by
    rw [endMove, allocateRunning_ledger, Event.see_st, State.event_st]
    refine (State.modCrane_ledger_keep _ _ rfl).trans ?_
    rw [idleCrane, State.modCrane_ledger, leaveTable_ledger, Piece.setDown_ledger, pushPiece,
      State.modStack_ledger (g := .taller) _ _ fun x => by simp [Stack.line, StackLine.taller],
      fewerIncoming, State.modStack_ledger (g := .fewer) _ _ fun _ => rfl]
    rfl
  rw [hfinish]
  refine .one (.finish i m g onto hm hg (honto.imp_right ?_))
  rintro ⟨x, hx, hroom⟩
  exact ⟨x.line, by simp [State.ledger, hx], Stack.hasRoom_line hroom⟩

/-! ### Pieces registered -/

theorem noRepeat_iff (l : List Nat) : noRepeat l = true ↔ l.Nodup := by
  induction l with
  | nil => simp [noRepeat]
  | cons x l ih => simp [noRepeat, ih]

/-- The ids of the entries are free exactly when none stands twice and none is registered. -/
theorem idsFree_iff (s : State) (es : List PieceEntry) :
    idsFree s es = true ↔ (es.map PieceEntry.id).Nodup ∧ ∀ y ∈ es, s.piece y.id = none := by
  simp [idsFree, noRepeat_iff]

/-- Registering pieces changes the records alone. -/
theorem foldl_addPiece (xs : List Piece) (s : State) :
    xs.foldl State.addPiece s =
      { s with pieces := xs.foldl (fun l x => insertPiece x l) s.pieces } := by
  induction xs generalizing s with
  | nil => rfl
  | cons x xs ih => rw [List.foldl_cons, ih]; rfl

theorem castPieces_eq (b : BedId) (m : Int) (es : List PieceEntry) (s : State) :
    castPieces b m es s = { s with pieces := (castPieces b m es s).pieces } := by
  rw [castPieces, foldl_addPiece]

/-- Pieces of free ids and without moves are registered one by one. -/
theorem foldl_addPiece_changes (xs : List Piece) (s : State) (hnodup : (xs.map Piece.id).Nodup)
    (hnew : ∀ x ∈ xs, s.piece x.id = none) (hmove : ∀ x ∈ xs, x.move = none)
    (hroom : s.pieces.length + xs.length ≤ maxPieces) :
    Changes s.ledger (xs.foldl State.addPiece s).ledger := by
  induction xs generalizing s with
  | nil => exact .refl
  | cons x xs ih =>
    simp only [List.map_cons, List.nodup_cons, List.mem_map, not_exists, not_and] at hnodup
    obtain ⟨hx, hnodup⟩ := hnodup
    simp only [List.length_cons] at hroom
    have hnewx := hnew x List.mem_cons_self
    refine .trans (b := (s.addPiece x).ledger) ?_ (ih _ hnodup (fun y hy => ?_)
      (fun y hy => hmove y (List.mem_cons_of_mem _ hy)) ?_)
    · rw [State.addPiece_ledger hnewx (hmove x List.mem_cons_self)]
      refine Changes.one (.register x.id ?_ ?_)
      · simp [State.ledger, hnewx]
      · change s.pieces.length < maxPieces
        omega
    · rw [State.addPiece_piece hnewx, if_neg (hx y hy)]
      exact hnew y (List.mem_cons_of_mem _ hy)
    · change (insertPiece x s.pieces).length + xs.length ≤ maxPieces
      rw [length_insertPiece]
      omega

theorem castPieces_changes {s : State} {es : List PieceEntry} (hfree : idsFree s es = true)
    (hroom : recordsFree s es.length = true) (b : BedId) (m : Int) :
    Changes s.ledger (castPieces b m es s).ledger := by
  obtain ⟨hnodup, hnew⟩ := (idsFree_iff s es).mp hfree
  have hids : (es.map (castPiece s b m)).map Piece.id = es.map PieceEntry.id := by
    rw [List.map_map]
    rfl
  refine foldl_addPiece_changes _ _ (hids ▸ hnodup) (fun x hx => ?_) (fun x hx => ?_) ?_
  · obtain ⟨y, hy, rfl⟩ := List.mem_map.mp hx
    exact hnew y hy
  · obtain ⟨y, -, rfl⟩ := List.mem_map.mp hx
    rfl
  · simpa [recordsFree] using hroom

/-! ### The course of a scan -/

theorem Bed.account_turn (ctl : Ctl) (stored : Profile) (now datum ceiling : Int) (x : Bed) :
    BedTurn ctl stored (some x.line) (some (x.account now datum ceiling).line) := by
  unfold Bed.account
  split
  · next h =>
    refine .accounted x.line _ h fun hmax => ?_
    change x.maturity.count ≤ addCount x.maturity.count _ ∧ addCount x.maturity.count _ ≤ maxCount
    exact ⟨Nat.le_min.mpr ⟨Nat.le_add_right _ _, hmax⟩, Nat.min_le_right _ _⟩
  · exact .stays _

theorem accountAll_changes (s : State) : Changes s.ledger (accountAll s).ledger := by
  have hpieces : (accountAll s).ledger = ({ s with beds := (accountAll s).beds } : State).ledger :=
    State.ledger_mapPieces { s with beds := (accountAll s).beds }
      (fun x => by unfold Piece.account; split <;> rfl) (fun x => by unfold Piece.account; split <;> rfl)
  rw [hpieces]
  refine .mapBeds s _ fun b => ?_
  simp only [accountAll, onEach_get, Option.map_map]
  change BedTurn _ _ ((s.beds[b]).map _) _
  cases s.beds[b] with
  | none => exact .stays _
  | some x => exact x.account_turn _ _ _ _ _

theorem evaluateRelease_changes (s : State) : Changes s.ledger (evaluateRelease s).ledger := by
  rw [evaluateRelease, State.raiseBeds_ledger]
  refine .mapBeds s _ fun b => ?_
  simp only [onEach_get, Option.map_map]
  change BedTurn _ _ ((s.beds[b]).map _) _
  cases s.beds[b] with
  | none => exact .stays _
  | some x =>
    change BedTurn _ _ (some x.line) (some (x.release s.now).line)
    unfold Bed.release
    split
    · next h =>
      have hcuring : x.cycle.state = .curing := by
        simp only [Bed.ripe, Bool.and_eq_true, beq_iff_eq] at h
        exact h.1
      exact .advanced x.line .releasable (by simp [Bed.line, hcuring, CycleState.accounted]) rfl
    · exact .stays _

theorem takeUp_changes (e : Event) : Changes e.st.ledger (takeUp e).st.ledger := by
  unfold takeUp
  dsimp only
  rw [allocate_ledger, Event.upd_st, regulateAll_ledger]
  refine (accountAll_changes e.st).trans ?_
  rw [← evaluateShip_ledger (accountAll e.st)]
  exact evaluateRelease_changes _

theorem deliver_changes (e : Event) : Changes e.st.ledger (deliver e).st.ledger := by
  unfold deliver
  dsimp only
  split
  · exact .refl
  · exact takeUp_changes (e.see _)

theorem completeScan_changes (e : Event) : Changes e.st.ledger (completeScan e).st.ledger := by
  refine .trans (Changes.of_eq ?_) (deliver_changes _)
  exact (State.raise_ledger _ _ _).trans (formAggregates_ledger { e.st with scan := _ })

theorem restartTimer_changes (s : State) : Changes s.ledger (restartTimer s).ledger :=
  .one .timer

/-- A change of the Scan Unit writes its countdown alone. -/
theorem State.ledger_scan (s : State) (u : ScanUnit) :
    ({ s with scan := u } : State).ledger =
      { s.ledger with countdown := u.countdown, remaining := u.remaining } := rfl

theorem State.countdown_changes {s : State} {u : ScanUnit} (hcountdown : u.countdown = s.settings.scanInterval)
    (hremaining : u.remaining = s.settings.scanInterval) :
    Changes s.ledger ({ s with scan := u } : State).ledger := by
  rw [State.ledger_scan s u, hcountdown, hremaining]
  exact .single .timer

/-- The state of a scan start that puts a channel, or none, under conversion (R24, R27). -/
def State.startedWith (s : State) (o : Option Channel) : State :=
  { s with scan :=
    { s.scan with
      probes := onEach (fun _ q => { q with mark := false }) s.scan.probes
      countdown := s.settings.scanInterval
      remaining := s.settings.scanInterval
      inFlight := o } }

theorem State.startedWith_changes (s : State) (o : Option Channel) :
    Changes s.ledger (s.startedWith o).ledger :=
  State.countdown_changes (u := (s.startedWith o).scan) rfl rfl

/-- A scan start that finds its set empty completes at once (R27). -/
theorem startScan_empty {e : Event} (h : e.st.scanSet = []) :
    startScan e = completeScan ⟨e.st.startedWith none, e.seen⟩ := by
  have hset : (restartTimer e.st).scanSet.head? = none := congrArg List.head? h
  rw [startScan]
  dsimp only
  rw [hset]
  rfl

/-- Any other scan start puts the lowest channel of the set under conversion (R24). -/
theorem startScan_cons {e : Event} {c : Channel} {l : List Channel} (h : e.st.scanSet = c :: l) :
    startScan e = ⟨e.st.startedWith (some c), e.seen⟩ := by
  have hset : (restartTimer e.st).scanSet.head? = some c := congrArg List.head? h
  rw [startScan]
  dsimp only
  rw [hset]
  rfl

theorem startScan_changes (e : Event) : Changes e.st.ledger (startScan e).st.ledger := by
  refine (e.st.startedWith_changes e.st.scanSet.head?).trans ?_
  cases h : e.st.scanSet with
  | nil =>
    rw [startScan_empty h]
    exact completeScan_changes ⟨e.st.startedWith none, e.seen⟩
  | cons c l =>
    rw [startScan_cons h]
    exact .refl

theorem convertChannel_changes (c : Channel) (raw : Nat) (e : Event) :
    Changes e.st.ledger (convertChannel c raw e).st.ledger := by
  unfold convertChannel
  dsimp only
  split
  · exact .of_eq (judge_ledger c raw e)
  · rw [← judge_ledger c raw e]
    exact completeScan_changes _

theorem execScanTimerExpiry_changes {s t : State} (ht : execScanTimerExpiry s = .next t) :
    Changes s.ledger t.ledger := by
  unfold execScanTimerExpiry at ht
  split at ht <;> cases ht <;> rw [Event.close_ledger]
  · exact startScan_changes s.event
  · rw [Event.see_st, State.event_st, State.raise_ledger]
    exact restartTimer_changes { s with scan := _ }

theorem execConversionCompletion_changes {s t : State} {raw : BitVec 12}
    (ht : execConversionCompletion raw s = .next t) : Changes s.ledger t.ledger := by
  unfold execConversionCompletion at ht
  split at ht <;> cases ht
  · exact .refl
  · rw [Event.close_ledger]
    exact convertChannel_changes _ _ s.event

/-! ### The judging of the moves -/

theorem State.timedOut_granted {s : State} {m : Move} {g : Grant} (h : s.timedOut m = some g) :
    m.progress = .granted g := by
  unfold State.timedOut at h
  split at h
  · cases h
  · next hg =>
    split at h
    · cases h
      exact hg
    · cases h
  · cases h

theorem revoke_changes (e : Event) (i : SlotId) : Changes e.st.ledger (revoke e i).st.ledger := by
  unfold revoke
  split
  · exact .refl
  · next m hm =>
    split
    · exact .refl
    · next g hg =>
      simp only [Event.see_st, Event.upd_st, State.raise_ledger]
      exact requeue_changes hm (State.timedOut_granted hg)

/-- Entries written by each element of a list are entries written by the whole. -/
theorem foldl_changes {α β : Type} {f : β → α → β} {st : β → State}
    (h : ∀ e a, Changes (st e).ledger (st (f e a)).ledger) (l : List α) (e : β) :
    Changes (st e).ledger (st (l.foldl f e)).ledger := by
  induction l generalizing e with
  | nil => exact .refl
  | cons a l ih => exact (h e a).trans (ih _)

theorem judgeGrants_changes (e : Event) : Changes e.st.ledger (judgeGrants e).st.ledger := by
  obtain h | ⟨-, -, h⟩ := judgeGrants_cases e <;> rw [h]
  rw [allocate_ledger]
  exact foldl_changes (st := Event.st) revoke_changes _ _

theorem flagOverdue_changes (s : State) (i : SlotId) : Changes s.ledger (flagOverdue s i).ledger := by
  unfold flagOverdue
  split
  · exact .refl
  · next m hm =>
    split
    · next hover =>
      rw [State.raise_ledger, State.setMove_ledger]
      unfold State.comesOverdue at hover
      split at hover
      · cases hover
      · cases hover
      · next g t _ hp =>
        rw [Move.markOverdue, hp]
        exact .one (.lift i m g t true hm (by rw [Move.grant?, hp]))
    · exact .refl

theorem judgeLifts_changes (s : State) : Changes s.ledger (judgeLifts s).ledger := by
  unfold judgeLifts
  split
  · exact .refl
  · exact foldl_changes (st := id) flagOverdue_changes _ _

theorem execMinuteExpiry_changes {s t : State} (ht : execMinuteExpiry s = .next t) :
    Changes s.ledger t.ledger := by
  cases ht
  rw [Event.close_ledger]
  exact (judgeGrants_changes (advanceMinute s).event).trans (judgeLifts_changes _)

theorem execGrantTimeout_changes {s t : State} (ht : execGrantTimeout s = .next t) :
    Changes s.ledger t.ledger := by
  cases ht
  rw [Event.close_ledger]
  exact judgeGrants_changes s.event

theorem execLiftOverdue_changes {s t : State} (ht : execLiftOverdue s = .next t) :
    Changes s.ledger t.ledger := by
  cases ht
  exact judgeLifts_changes s

/-! ### SHED edges, the link and RESTART -/

theorem shedEdge_ledger (level : Bool) (s : State) : (shedEdge level s).ledger = s.ledger := by
  rw [shedEdge, Event.close_ledger, allocateRunning_ledger, State.event_st, State.raise_ledger]
  rfl

theorem returnMove_changes (s : State) (i : SlotId) : Changes s.ledger (returnMove s i).ledger := by
  unfold returnMove
  split
  · exact .refl
  · next m hm =>
    split
    · exact .refl
    · next g hg => exact requeue_changes hm hg
    · exact .refl

theorem restartState_changes (s : State) : Changes s.ledger (restartState s).ledger := by
  have hreturned : Changes s.ledger ((List.finRange 64).foldl returnMove (abandonScan s)).ledger :=
    foldl_changes (st := id) returnMove_changes _ (abandonScan s)
  refine hreturned.trans (Changes.of_eq ?_)
  rw [restartState]
  generalize (List.finRange 64).foldl returnMove (abandonScan s) = u
  exact State.ledger_ports { u with arbiter := ⟨.strip, false, 0, 0⟩ } _ _ fun p => by
    rw [onEach_get]
    rfl

theorem execRestart_changes {s t : State} (ht : execRestart s = .next t) :
    Changes s.ledger t.ledger := by
  unfold execRestart at ht
  rw [← Host.Outcome.next.inj ht, Event.close_ledger, allocateRunning_ledger, State.event_st,
    State.raiseIf_ledger]
  exact restartState_changes s

end Sys2Proof.Machine
end

section
/-! The entries that the requests' rules write into the ledger, and those of every command. -/

namespace Sys2Proof.Machine

variable {s : State}

/-! ### The Yard Map (chapter 1) and the probes (chapter 2) -/

theorem takeReadMap_ledger (kind number port : Nat) :
    (takeReadMap kind number port s).event.st.ledger = s.ledger := by
  unfold takeReadMap
  split <;> rfl

theorem removeBed_changes (b : BedId) : Changes s.ledger (removeBed b s).event.st.ledger := by
  unfold removeBed
  split
  · exact .refl
  · split
    · exact .setBed s b none (.removed _)
    · exact .refl

theorem defineBedAs_changes (b : BedId) (d : BedDef) :
    Changes s.ledger (defineBedAs b d s).event.st.ledger := by
  unfold defineBedAs
  split
  · exact .refl
  · split
    · exact .setBed s b _ (.emptied _)
    · next x hx =>
      split
      · refine .setBed s b _ ?_
        rw [hx]
        exact .stays _
      · exact .refl

theorem takeDefineBed_changes (b a f l r g q : Nat) :
    Changes s.ledger (takeDefineBed b a f l r g q s).event.st.ledger := by
  unfold takeDefineBed
  split
  · exact removeBed_changes _
  · split
    · exact .refl
    · exact defineBedAs_changes _ _
  · exact .refl

/-- A free stack is bound for by no move. -/
theorem State.stackFree_redefine {i : StackId}
    (h : ∀ x, s.stack i = some x → s.stackFree i x = true) (o : Option Stack)
    (ho : o = none ∨ ∃ d, 1 ≤ d.tierLimit ∧ o = some ⟨d, [], 0⟩) :
    Changes s.ledger (s.setStack i o).ledger := by
  rw [State.setStack_ledger]
  refine .one (.redefine i _ (ho.imp (fun h => by rw [h]; rfl) ?_) fun y hy => ?_)
  · rintro ⟨d, hd, rfl⟩
    exact ⟨_, hd, rfl⟩
  · obtain ⟨x, hx, rfl⟩ := Option.map_eq_some_iff.mp hy
    have hfree := h x hx
    simp only [State.stackFree, State.stackNamed, Bool.and_eq_true, Bool.not_eq_true',
      List.any_eq_false, beq_iff_eq, Bool.or_eq_true, not_or] at hfree
    obtain ⟨⟨-, hincoming⟩, hnamed⟩ := hfree
    exact ⟨hincoming, fun j m hm => (hnamed (j, m) (State.mem_moveList.mpr hm)).1⟩

theorem removeStack_changes (i : StackId) : Changes s.ledger (removeStack i s).event.st.ledger := by
  unfold removeStack
  split
  · exact .refl
  · next x hx =>
    split
    · next hfree =>
      refine State.stackFree_redefine (fun y hy => ?_) none (.inl rfl)
      cases hx.symm.trans hy
      exact hfree
    · exact .refl

theorem defineStackAs_changes (i : StackId) (d : StackDef) :
    Changes s.ledger (defineStackAs i d s).event.st.ledger := by
  unfold defineStackAs
  split
  · exact .refl
  · next hgood =>
    have htier : 1 ≤ d.tierLimit := by
      simp only [between, Bool.and_eq_true, decide_eq_true_eq] at hgood
      omega
    split
    · next hnone =>
      refine State.stackFree_redefine (fun y hy => ?_) _ (.inr ⟨d, htier, rfl⟩)
      cases hnone.symm.trans hy
    · next x hx =>
      split
      · next hfree =>
        refine State.stackFree_redefine (fun y hy => ?_) _ (.inr ⟨d, htier, rfl⟩)
        cases hx.symm.trans hy
        exact hfree
      · exact .refl

theorem takeDefineStack_changes (i a b k t o : Nat) :
    Changes s.ledger (takeDefineStack i a b k t o s).event.st.ledger := by
  unfold takeDefineStack
  split
  · exact removeStack_changes _
  · split
    · exact defineStackAs_changes _ _
    · exact .refl
  · exact .refl

theorem takeSetStackOpen_changes (i o : Nat) :
    Changes s.ledger (takeSetStackOpen i o s).event.st.ledger := by
  unfold takeSetStackOpen
  split
  · next j _ _ _ =>
    split
    · exact .refl
    · next x hx =>
      have hline : s.ledger.piles j = some x.line := by simp [State.ledger, hx]
      refine Changes.of_eq ((s.setStack_ledger j _).trans ?_)
      refine congrArg (fun piles => { s.ledger with piles := piles }) ?_
      exact (congrArg _ hline.symm).trans (Function.update_eq_self j s.ledger.piles)
  · exact .refl

/-- LOAD_CRANE changes only an IDLE crane, which stays IDLE (R8). -/
theorem enrol_ledger (k : CraneId) (e : Option Enrolment) :
    (enrol k e s).event.st.ledger = s.ledger := by
  unfold enrol
  split
  · rfl
  · split
    · rfl
    · next hidle =>
      refine s.modCrane_ledger_keep k ?_
      have hheld : (s.crane k).held = none := by simpa using hidle
      split
      · rfl
      · exact hheld.symm

theorem takeLoadCrane_ledger (c a q l hi r m : Nat) :
    (takeLoadCrane c a q l hi r m s).event.st.ledger = s.ledger := by
  unfold takeLoadCrane
  dsimp only
  split
  · exact enrol_ledger _ _
  · split
    · rfl
    · split_ifs
      · exact enrol_ledger _ _
      · rfl
  · rfl

theorem takeDefineClass_ledger (c a st sa ht ha : Nat) :
    (takeDefineClass c a st sa ht ha s).event.st.ledger = s.ledger := by
  unfold takeDefineClass
  dsimp only
  repeat' split
  all_goals rfl

theorem takeSetLimits_ledger (l ls b : Nat) :
    (takeSetLimits l ls b s).event.st.ledger = s.ledger := by
  unfold takeSetLimits
  dsimp only
  split
  · exact allocateRunning_ledger _
  · rfl

theorem takeSetConfig_changes (row port : Nat) (x : Int) :
    Changes s.ledger (takeSetConfig row port x s).event.st.ledger := by
  unfold takeSetConfig
  dsimp only
  split
  · exact .refl
  · next v hv =>
    split
    · exact .refl
    · next hrange =>
      split
      · exact .refl
      · next hfrost =>
        simp only [betweenI, Bool.and_eq_true, decide_eq_true_eq, not_not] at hrange
        exact .one (.setting row port x (Option.isSome_of_mem hv) hrange.1 hrange.2 fun hrow => by
          by_contra hpair
          exact hfrost ⟨hrow, hpair⟩)

theorem restorePiece_changes (id cls mass count age : Nat) (c : ClassId) (i : StackId)
    (hold : Option Nat) (hctl : s.ctl = .loading) :
    Changes s.ledger (restorePiece id cls mass count age c i hold s).event.st.ledger := by
  unfold restorePiece
  dsimp only
  split
  · exact .refl
  · split
    · exact .refl
    · next x hx =>
      split_ifs with hnew hroom htier
      · exact .refl
      · exact .refl
      · exact .refl
      · rw [Bool.not_eq_true, Option.isSome_eq_false_iff, Option.isNone_iff_eq_none] at hnew
        rw [recordsFree, decide_eq_true_eq] at hroom
        simp only [accept, State.event_st, State.raiseIf_ledger]
        refine .tail (.single (.register id ?_ ?_)) ?_
        · simp [State.ledger, hnew]
        · exact hroom
        · rw [State.setContents_ledger, State.addPiece_ledger hnew rfl]
          have hline : s.ledger.piles i = some x.line := by simp [State.ledger, hx]
          have hheight : (x.contents ++ [id]).length = x.line.height + 1 := by simp [Stack.line]
          rw [hheight]
          exact .restore (L := { s.ledger with link := _, records := _ }) i x.line hctl hline
            (Nat.not_le.mp htier)
      · exact .refl

theorem takeLoadPiece_changes (id c m n a i rg r : Nat) :
    Changes s.ledger (takeLoadPiece id c m n a i rg r s).event.st.ledger := by
  unfold takeLoadPiece
  split
  · exact .refl
  · next hctl =>
    split
    · split
      · exact restorePiece_changes _ _ _ _ _ _ _ _ hctl
      · exact .refl
    · exact .refl

/-- A bed put in place after its pieces are cast. -/
theorem castBed_changes {es : List PieceEntry} (hfree : idsFree s es = true)
    (hroom : recordsFree s es.length = true) (b : BedId) (m : Int) (x : Bed)
    (h : BedTurn s.ctl s.profiles[b] ((s.bed b).map Bed.line) (some x.line)) :
    Changes s.ledger ((castPieces b m es s).setBed b (some x)).ledger := by
  refine (castPieces_changes hfree hroom b m).trans (Changes.setBed _ b (some x) ?_)
  rw [castPieces_eq]
  exact h

theorem BedRestore.good_profile {r : BedRestore} (h : r.good = true) :
    r.profile.holdTemp < r.profile.ceiling := by
  simp only [BedRestore.good, Bool.and_eq_true] at h
  obtain ⟨⟨⟨⟨⟨-, hprofile⟩, -⟩, -⟩, -⟩, -⟩ := h
  exact ((profileInRange_iff _).mp hprofile).2.2.2.2.2.2.2.2.2.2.2.2.2.2.2

theorem BedRestore.good_count {r : BedRestore} (h : r.good = true) : r.count ≤ maxCount := by
  simp only [BedRestore.good, Bool.and_eq_true, decide_eq_true_eq] at h
  obtain ⟨⟨⟨⟨⟨⟨⟨⟨hcount, -⟩, -⟩, -⟩, -⟩, -⟩, -⟩, -⟩, -⟩ := h
  exact hcount

/-- Only CURING and RELEASABLE beds are restored (R14). -/
theorem phaseFits_accounted {c : CycleState} {ph : Phase} {q : Profile} {t : Int}
    (h : phaseFits c ph q t = true) : c.accounted = true := by
  cases c with
  | curing | releasable | detensioning | stripping => rfl
  | empty | set | casting => cases h

theorem BedRestore.good_accounted {r : BedRestore} (h : r.good = true) : r.state.accounted = true := by
  simp only [BedRestore.good, Bool.and_eq_true] at h
  exact phaseFits_accounted h.1.1.2

theorem restoreBed_changes {r : BedRestore} (hgood : r.good = true) (hctl : s.ctl = .loading) (b : BedId) :
    Changes s.ledger (restoreBed b r s).event.st.ledger := by
  unfold restoreBed
  split
  · exact .refl
  · next x hx =>
    split
    · exact .refl
    · split
      · exact .refl
      · split
        · exact .refl
        · next hfree =>
          split
          · exact .refl
          · next hroom =>
            exact castBed_changes (not_not.mp hfree) (not_not.mp hroom) b _ _ (.restored _ _ _ _ hctl
              (BedRestore.good_profile hgood) (BedRestore.good_accounted hgood)
              (BedRestore.good_count hgood))

theorem takeLoadBedState_changes (b cy n pa t ma : Nat) (q : Profile) (ph : Nat) (sp : Int)
    (es : List PieceEntry) :
    Changes s.ledger (takeLoadBedState b cy n pa t ma q ph sp es s).event.st.ledger := by
  unfold takeLoadBedState
  dsimp only
  split
  · exact .refl
  · next hctl =>
    split
    · split
      · next hgood => exact restoreBed_changes hgood hctl _
      · exact .refl
    · exact .refl

theorem Bed.commit_turn (ctl : Ctl) (stored : Profile) (now : Int) (x : Bed) :
    BedTurn ctl stored (some x.line) (some (x.commit now).line) := by
  unfold Bed.commit
  split
  · next h =>
    refine .accounted x.line { x.maturity with last := some now } ?_ fun hmax => ⟨le_rfl, hmax⟩
    rcases h with h | h <;> simp [Bed.line, h, CycleState.accounted]
  · exact .stays _

/-- The beds and pieces as an accepted COMMIT leaves them (R15). -/
def State.committedBeds (s : State) : Vector (Option Bed) 16 :=
  onEach (fun _ ob => ob.map (Bed.commit s.now)) s.beds

def State.committedPieces (s : State) : List Piece := s.pieces.map (Piece.commit s.now)

theorem State.committedBeds_get (b : BedId) :
    s.committedBeds[b] = (s.bed b).map (Bed.commit s.now) := onEach_get _ _ _

/-- The rule of COMMIT on a good map in LOADING. -/
theorem takeCommit_good (hctl : s.ctl = .loading) (h : s.mapGood = true) :
    takeCommit s = accept
      { s with ctl := .running, beds := s.committedBeds, pieces := s.committedPieces } .empty := by
  rw [takeCommit, hctl]
  exact if_pos h

/-- The rule of COMMIT refuses any other map. -/
theorem takeCommit_bad (hctl : s.ctl = .loading) (h : ¬ s.mapGood = true) :
    takeCommit s = refuse s .badValue := by
  rw [takeCommit, hctl]
  exact if_neg h

theorem takeCommit_running (hctl : s.ctl = .running) : takeCommit s = refuse s .wrongState := by
  rw [takeCommit, hctl]

/-- The beds take their turns and RUNNING begins. -/
theorem State.running_changes {v : Vector (Option Bed) 16} (hctl : s.ctl = .loading)
    (h : ∀ b : BedId, BedTurn s.ctl s.profiles[b] ((s.bed b).map Bed.line) (v[b].map Bed.line)) :
    Changes s.ledger ({ s with ctl := .running, beds := v } : State).ledger :=
  .tail (Changes.mapBeds s v h) (.commit hctl)

theorem takeCommit_changes : Changes s.ledger (takeCommit s).event.st.ledger := by
  cases hctl : s.ctl with
  | running =>
    rw [takeCommit_running hctl]
    exact .refl
  | loading =>
    by_cases hgood : s.mapGood = true
    · have hpieces := State.ledger_mapPieces { s with ctl := .running, beds := s.committedBeds }
        (f := Piece.commit s.now) (fun x => by unfold Piece.commit; split <;> rfl)
        (fun x => by unfold Piece.commit; split <;> rfl)
      rw [takeCommit_good hctl hgood]
      refine .trans (State.running_changes hctl fun b => ?_) (Changes.of_eq hpieces)
      rw [State.committedBeds_get]
      cases s.bed b with
      | none => exact .stays _
      | some x => exact x.commit_turn _ _ _
    · rw [takeCommit_bad hctl hgood]
      exact .refl

theorem takeDefineProbe_ledger (c a b e rl : Nat) (tl : Int) (rh : Nat) (th : Int) :
    (takeDefineProbe c a b e rl tl rh th s).event.st.ledger = s.ledger := by
  unfold takeDefineProbe
  repeat' split
  all_goals rfl

theorem takeReadProbe_ledger (c : Nat) : (takeReadProbe c s).event.st.ledger = s.ledger := by
  unfold takeReadProbe
  split <;> rfl

theorem takeClearProbeTally_ledger (m o : Nat) :
    (takeClearProbeTally m o s).event.st.ledger = s.ledger := by
  unfold takeClearProbeTally
  split
  · rfl
  · exact State.ledger_scan s _

theorem takeAbortScan_ledger : (takeAbortScan s).event.st.ledger = s.ledger := by
  unfold takeAbortScan
  split <;> rfl

theorem takeScanNow_changes : Changes s.ledger (takeScanNow s).event.st.ledger := by
  unfold takeScanNow
  split
  · exact .refl
  · exact startScan_changes s.event

theorem takeReadScan_changes : Changes s.ledger (takeReadScan s).event.st.ledger :=
  .one (.remaining _ State.minutesRemaining_bounds)

/-! ### The profiles (chapter 4) and the beds (chapter 6) -/

theorem takeSetProfile_changes (m : Nat) (q : Profile) :
    Changes s.ledger (takeSetProfile m q s).event.st.ledger := by
  by_cases hq : q.legal
  · rw [takeSetProfile_legal hq]
    refine .one (.profiles (storeProfile m q s.profiles) fun b => ?_)
    rw [storeProfile_get]
    split
    · exact .inr hq.2.2.2.2.2.2.2.2.2.2.2.2.2.2.2
    · exact .inl rfl
  · rw [takeSetProfile_illegal hq]
    exact .refl

theorem takeReadProfile_ledger (b : Nat) : (takeReadProfile b s).event.st.ledger = s.ledger := by
  unfold takeReadProfile
  split <;> rfl

/-- A bed request is refused by the checks of R98 or comes to its own rule. -/
theorem bedRequest_effect {p : PortId} {bed : Nat} {rule : BedId → Bed → State → Taken}
    (hrule : ∀ b x, s.bed b = some x → Effect s.ledger (rule b x s).event.st.ledger) :
    Effect s.ledger (bedRequest p bed rule s).event.st.ledger := by
  unfold bedRequest
  split
  · exact .of_eq rfl
  · split
    · exact .of_eq rfl
    · next x hx =>
      split
      · exact .of_eq rfl
      · exact hrule _ x hx

theorem ruleBedSet_effect {b : BedId} {x : Bed} (hx : s.bed b = some x) :
    Effect s.ledger (ruleBedSet b x s).event.st.ledger := by
  unfold ruleBedSet
  split
  · next hempty =>
    rw [accept, State.event_st, State.setBed_ledger]
    exact .bedSet b x.line (by simp [State.ledger, hx]) hempty
  · exact .of_eq rfl

theorem ruleCancelSet_effect {b : BedId} {x : Bed} (hx : s.bed b = some x) :
    Effect s.ledger (ruleCancelSet b x s).event.st.ledger := by
  unfold ruleCancelSet
  split
  · next hset =>
    refine .entries (.setBed s b _ ?_)
    rw [hx]
    exact .cancelled x.line hset
  · exact .of_eq rfl

theorem rulePourStart_effect {b : BedId} {x : Bed} (hx : s.bed b = some x) :
    Effect s.ledger (rulePourStart b x s).event.st.ledger := by
  unfold rulePourStart
  split
  · next hset =>
    refine .entries (.setBed s b _ ?_)
    rw [hx]
    exact .casting x.line hset
  · exact .of_eq rfl

theorem rulePourEnd_effect (es : List PieceEntry) {b : BedId} {x : Bed} (hx : s.bed b = some x) :
    Effect s.ledger (rulePourEnd es b x s).event.st.ledger := by
  unfold rulePourEnd
  split
  · next hcasting =>
    unfold pourCasting
    split_ifs with _ _ hfree hroom
    · unfold acceptPour
      refine .entries (castBed_changes hfree hroom b _ _ ?_)
      rw [hx]
      exact .poured x.line _ hcasting
    all_goals exact .of_eq rfl
  · unfold pourResend
    repeat' split
    all_goals exact .of_eq rfl
  · exact .of_eq rfl

theorem ruleDetensionRequest_effect {b : BedId} {x : Bed} (hx : s.bed b = some x) :
    Effect s.ledger (ruleDetensionRequest b x s).event.st.ledger := by
  unfold ruleDetensionRequest
  split_ifs with hstate
  · exact .of_eq rfl
  · exact .of_eq rfl
  · exact .of_eq rfl
  · exact .of_eq rfl
  · refine .entries (.setBed s b _ ?_)
    rw [hx]
    rw [not_not] at hstate
    exact .advanced x.line .detensioning (by simp [Bed.line, hstate, CycleState.accounted]) rfl

theorem emptied_changes (b : BedId) :
    Changes s.ledger (allocateRunning (returnToEmpty b s).event).st.ledger := by
  rw [allocateRunning_ledger]
  exact returnToEmpty_changes b s

theorem ruleDetensionDone_effect {b : BedId} {x : Bed} (hx : s.bed b = some x) :
    Effect s.ledger (ruleDetensionDone b x s).event.st.ledger := by
  unfold ruleDetensionDone
  split_ifs with hstate
  · exact .of_eq rfl
  · exact .entries (emptied_changes b)
  · rw [not_not] at hstate
    have hpieces := s.modPieces_ledger x.cycle.pieces (f := fun y => { y with state := .strippable })
      (fun _ => rfl) (fun _ => rfl)
    refine .entries (hpieces ▸ .setBed (s.modPieces x.cycle.pieces _) b _ ?_)
    change BedTurn _ _ ((s.bed b).map _) _
    rw [hx]
    exact .advanced x.line .stripping (by simp [Bed.line, hstate, CycleState.accounted]) rfl

theorem dropMoves_changes (ids : List Nat) (s : State) :
    Changes s.ledger (ids.foldl (fun s id => dropMoveOf id s) s).ledger :=
  foldl_changes (st := id) (fun s id => dropMoveOf_changes id s) ids s

/-- A drop changes the moves, the piece records and the ports alone. -/
theorem dropMoveOf_bed (id : Nat) (s : State) (b : BedId) : (dropMoveOf id s).bed b = s.bed b := by
  unfold dropMoveOf
  split
  · rfl
  · next i _ =>
    obtain h | ⟨m, -, -, h⟩ := dropMove_cases i s
    · rw [h]
    · rw [h]; rfl

theorem dropMoves_bed (ids : List Nat) (s : State) (b : BedId) :
    (ids.foldl (fun s id => dropMoveOf id s) s).bed b = s.bed b :=
  List.foldlRecOn (motive := fun t : State => t.bed b = s.bed b) _ _ rfl
    fun t ht id _ => (dropMoveOf_bed id t b).trans ht

theorem abandonLoaded_changes {b : BedId} {x : Bed} (hx : s.bed b = some x)
    (hcures : x.cycle.state.accounted = true) :
    Changes s.ledger (abandonLoaded b x s).st.ledger := by
  have hpieces := State.modPieces_ledger (x.cycle.pieces.foldl (fun s id => dropMoveOf id s) s)
    x.cycle.pieces (f := Piece.scrapped s.now x.maturity) (fun y => by unfold Piece.scrapped; split <;> rfl)
    (fun y => by unfold Piece.scrapped; split <;> rfl)
  rw [abandonLoaded, allocateRunning_ledger, State.event_st]
  refine (dropMoves_changes x.cycle.pieces s).trans ?_
  rw [← hpieces]
  refine Changes.setBed _ b _ ?_
  change BedTurn _ _ ((State.bed (List.foldl _ _ _) b).map _) _
  rw [dropMoves_bed, hx]
  exact .advanced x.line .stripping hcures rfl

theorem ruleAbandonBed_effect {b : BedId} {x : Bed} (hx : s.bed b = some x) :
    Effect s.ledger (ruleAbandonBed b x s).event.st.ledger := by
  unfold ruleAbandonBed
  split_ifs with hidle hempty
  · exact .of_eq rfl
  · exact .entries (emptied_changes b)
  · refine .entries (abandonLoaded_changes hx ?_)
    rw [not_or] at hidle hempty
    cases hc : x.cycle.state with
    | empty => exact absurd hc hidle.1
    | set => exact absurd hc hidle.2
    | casting => exact absurd hc hempty.1
    | curing | releasable | detensioning | stripping => rfl

theorem takeReadBed_ledger (p : PortId) (b : Nat) : (takeReadBed p b s).event.st.ledger = s.ledger := by
  unfold takeReadBed
  split
  · rfl
  · split
    · exact s.modPort_ledger p fun _ => rfl
    · split <;> rfl

/-! ### Pieces and stacks (chapter 7) -/

/-- A request about a piece is refused by its id or comes to its own rule. -/
theorem withPiece_effect {id : Nat} {rule : Piece → State → Taken}
    (hrule : ∀ x, s.piece id = some x → Effect s.ledger (rule x s).event.st.ledger) :
    Effect s.ledger (withPiece id rule s).event.st.ledger := by
  unfold withPiece
  split
  · exact .of_eq rfl
  · split
    · exact .of_eq rfl
    · next x hx => exact hrule x hx

/-- What a piece that leaves its place does before its record is freed. -/
theorem pullPiece_loses (i : StackId) (id : Nat) (s : State) :
    s.ledger.Loses (pullPiece i id s).ledger :=
  ⟨fun _ _ h => h, fun _ _ h => .inr h⟩

theorem unlistPiece_loses (b : BedId) (id : Nat) (s : State) :
    s.ledger.Loses (unlistPiece b id s).ledger := by
  rw [unlistPiece_ledger]
  exact .refl _

theorem erasePiece_changes {x : Piece} (hx : s.piece x.id = some x) (hrest : s.inMotion x = false) :
    Changes s.ledger (erasePiece x s).st.ledger := by
  have hdrop := dropMoveOf_changes x.id s
  have hunmoved := dropMoveOf_unmoved (State.atRest_of_not_inMotion hx hrest)
  unfold erasePiece
  dsimp only
  split
  · next b _ =>
    have hunlist : Changes s.ledger (unlistPiece b x.id (dropMoveOf x.id s)).ledger := by
      rwa [unlistPiece_ledger]
    exact (hunlist.trans (State.freePiece_changes (hunmoved.loses (unlistPiece_loses _ _ _)))).trans
      (settleBed_changes b (State.event _))
  · exact (hdrop.trans (pullPiece_changes _ _ _)).trans
      (State.freePiece_changes (hunmoved.loses (pullPiece_loses _ _ _)))
  · exact hdrop.trans (State.freePiece_changes hunmoved)

theorem takeDeletePiece_effect (id : Nat) :
    Effect s.ledger (takeDeletePiece id s).event.st.ledger := by
  refine withPiece_effect fun x hx => ?_
  split_ifs with hmotion
  · exact .of_eq rfl
  · exact .of_eq rfl
  · exact .entries (erasePiece_changes ((State.piece_id hx).symm ▸ hx) (by simpa using hmotion))

/-- The drops of a list leave the list's pieces at rest without a move. -/
theorem dropMoves_unmoved {ids : List Nat} {s : State} (h : ∀ id ∈ ids, s.ledger.AtRest id) :
    ∀ id ∈ ids, (ids.foldl (fun s id => dropMoveOf id s) s).ledger.Unmoved id := by
  have hfold (l : List Nat) (u : State) : u.ledger.Loses (l.foldl (fun s id => dropMoveOf id s) u).ledger :=
    List.foldlRecOn (motive := fun t : State => u.ledger.Loses t.ledger) _ _ (.refl _) fun t ht id _ => by
      have hid := dropMoveOf_loses id t
      exact ⟨fun j m hm => ht.1 j m (hid.1 j m hm),
        fun k o ho => (hid.2 k o ho).elim .inl fun hold => ht.2 k o hold⟩
  induction ids generalizing s with
  | nil => exact fun _ hid => absurd hid List.not_mem_nil
  | cons a ids ih =>
    rw [List.foldl_cons]
    have hloses := dropMoveOf_loses a s
    intro id hid
    rcases List.mem_cons.mp hid with rfl | hid
    · exact (dropMoveOf_unmoved (h id List.mem_cons_self)).loses (hfold ids _)
    · exact ih (fun j hj => (h j (List.mem_cons_of_mem _ hj)).loses hloses) id hid

theorem freePieces_changes {ids : List Nat} {s : State} (h : ∀ id ∈ ids, s.ledger.Unmoved id) :
    Changes s.ledger (ids.foldl State.freePiece s).ledger := by
  induction ids generalizing s with
  | nil => exact .refl
  | cons a ids ih =>
    rw [List.foldl_cons]
    exact (State.freePiece_changes (h a List.mem_cons_self)).trans
      (ih fun id hid => (h id (List.mem_cons_of_mem _ hid)).loses (s.freePiece_loses a))

/-- Drops and freed records leave the stacks. -/
theorem dropMoveOf_stack (id : Nat) (s : State) (i : StackId) : (dropMoveOf id s).stack i = s.stack i := by
  unfold dropMoveOf
  split
  · rfl
  · next j _ =>
    obtain h | ⟨m, -, -, h⟩ := dropMove_cases j s
    · rw [h]
    · rw [h]; rfl

theorem shipStack_changes {i : StackId} {x : Stack} (hx : s.stack i = some x)
    (hrest : s.stackInMotion x = false) : Changes s.ledger (shipStack i x s).ledger := by
  have hatRest : ∀ id ∈ x.contents, s.ledger.AtRest id := by
    intro id hid j m hlink hm
    obtain ⟨y, hy, -⟩ := Option.map_eq_some_iff.mp hlink
    have hmotion := List.any_eq_false.mp hrest id hid
    exact State.atRest_of_not_inMotion hy (by simpa [hy] using hmotion) j m hlink hm
  have hdropped : (x.contents.foldl (fun s id => dropMoveOf id s) s).stack i = some x :=
    List.foldlRecOn (motive := fun t : State => t.stack i = some x) _ _ hx
      fun t ht id _ => (dropMoveOf_stack id t i).trans ht
  have hfreed : (x.contents.foldl State.freePiece
      (x.contents.foldl (fun s id => dropMoveOf id s) s)).stack i = some x :=
    List.foldlRecOn (motive := fun t : State => t.stack i = some x) _ _ hdropped fun t ht id _ => ht
  unfold shipStack
  dsimp only
  refine ((dropMoves_changes x.contents s).trans (freePieces_changes (dropMoves_unmoved hatRest))).trans ?_
  rw [State.setContents_ledger]
  refine Changes.one (.shrink i x.line 0 ?_ (Nat.zero_le _))
  exact congrArg (Option.map Stack.line) hfreed

theorem takeShipDispatch_changes (i : Nat) :
    Changes s.ledger (takeShipDispatch i s).event.st.ledger := by
  unfold takeShipDispatch
  split
  · exact .refl
  · split
    · exact .refl
    · next x hx =>
      split_ifs with _ hbusy
      · exact .refl
      · exact .refl
      · rw [not_or, Bool.not_eq_true] at hbusy
        exact shipStack_changes hx hbusy.2

theorem takeReadStack_ledger (i : Nat) : (takeReadStack i s).event.st.ledger = s.ledger := by
  unfold takeReadStack
  repeat' split
  all_goals rfl

/-! ### The Move Table (chapter 8) -/

theorem newMove_changes {p : PortId} {k : MoveKind} {x : Piece} {src : Source} {d : StackId}
    (hctl : s.ctl = .running) (hx : s.piece x.id = some x)
    (hnone : x.move.bind s.move = none) :
    Changes s.ledger (newMove p k x.id src d s).event.st.ledger := by
  unfold newMove
  split
  · exact .refl
  · split
    · exact .refl
    · next i hi =>
      have hfree : s.move i = none := by simpa using List.find?_some hi
      simp only [acceptEvent, Event.see_st, State.event_st, enterMove_ledger]
      exact .one (.enter i _ x.move hctl hfree rfl (State.ledger_link hx) hnone)

theorem placeRequest_changes {p : PortId} {k : MoveKind} {x : Piece} {src : Source} {d : StackId}
    (hctl : s.ctl = .running) (hx : s.piece x.id = some x) (hrest : s.inMotion x = false) :
    Changes s.ledger (placeRequest p k x src d s).event.st.ledger := by
  unfold placeRequest
  split
  · exact .refl
  · split
    · exact .refl
    · split
      · exact .refl
      · split
        · next im him =>
          obtain ⟨i, hi, him⟩ := Option.bind_eq_some_iff.mp him
          obtain ⟨m, hm, rfl⟩ := Option.map_eq_some_iff.mp him
          have hq : m.progress = .queued :=
            State.atRest_of_not_inMotion hx hrest i m ((State.ledger_link hx).trans (congrArg some hi)) hm
          simp only [mergeMove, Event.see_st, State.event_st, State.setMove_ledger]
          exact .one (.merge i m k src d hm hq)
        · next hnone =>
          refine newMove_changes hctl hx ?_
          cases hmove : x.move with
          | none => rfl
          | some i => simpa [hmove] using hnone

theorem takeRequestMove_effect (hctl : s.ctl = .running) (p : PortId) (kind id d : Nat) :
    Effect s.ledger (takeRequestMove p kind id d s).event.st.ledger := by
  unfold takeRequestMove
  split
  · exact .of_eq rfl
  · split
    · refine withPiece_effect fun x hx => ?_
      split
      · exact .of_eq rfl
      · next hmotion =>
        split
        · exact .of_eq rfl
        · split
          · exact .of_eq rfl
          · exact .entries (placeRequest_changes hctl ((State.piece_id hx).symm ▸ hx)
              (by simpa using hmotion))
    · exact .of_eq rfl

theorem takeCancelMove_changes (p : PortId) (sl id : Nat) :
    Changes s.ledger (takeCancelMove p sl id s).event.st.ledger := by
  unfold takeCancelMove
  split
  · exact .refl
  · split
    · exact .refl
    · split
      · exact .refl
      · next m hm =>
        split_ifs with _ _ hq
        · exact .refl
        · exact .refl
        · rw [accept, State.event_st, leaveTable_ledger]
          exact .one (.leave _ m hm ((Move.isQueued_iff m).mp hq))
        · exact .refl

theorem takeReadMove_ledger (sl : Nat) : (takeReadMove sl s).event.st.ledger = s.ledger := by
  unfold takeReadMove
  split <;> rfl

/-- A crane's request is refused by the checks of R177 or comes to its own rule on the enrolled crane. -/
theorem withCrane_effect {p : PortId} {crane : Nat} {rule : CraneId → Enrolment → State → Taken}
    (hrule : ∀ k e, Effect s.ledger (rule k e s).event.st.ledger) :
    Effect s.ledger (withCrane p crane rule s).event.st.ledger := by
  unfold withCrane
  split
  · exact .of_eq rfl
  · split
    · exact .of_eq rfl
    · split
      · exact .of_eq rfl
      · exact hrule _ _

/-- A crane's report is refused by its checks or comes to its own rule on the slot. -/
theorem craneReport_effect {p : PortId} {crane slot : Nat} {rule : CraneId → SlotId → State → Taken}
    (hrule : ∀ k i, Changes s.ledger (rule k i s).event.st.ledger) :
    Effect s.ledger (craneReport p crane slot rule s).event.st.ledger := by
  refine withCrane_effect fun k e => ?_
  split
  · exact .of_eq rfl
  · exact .entries (hrule _ _)

theorem leaveSource_changes (m : Move) (s : State) : Changes s.ledger (leaveSource m s).ledger := by
  unfold leaveSource
  split
  · exact .of_eq (unlistPiece_ledger _ _ s)
  · exact pullPiece_changes _ _ s

theorem settleSource_changes (m : Move) (e : Event) :
    Changes e.st.ledger (settleSource m e).st.ledger := by
  unfold settleSource
  split
  · exact settleBed_changes _ e
  · exact .refl

@[simp] theorem Piece.lift_id (k : CraneId) (now : Int) (mat : Option Maturity) (x : Piece) :
    (Piece.lift k now mat x).id = x.id := by
  unfold Piece.lift
  split <;> rfl

@[simp] theorem Piece.lift_move (k : CraneId) (now : Int) (mat : Option Maturity) (x : Piece) :
    (Piece.lift k now mat x).move = x.move := by
  unfold Piece.lift
  split <;> rfl

theorem liftMove_changes {i : SlotId} {m : Move} {g : Grant} (hm : s.move i = some m)
    (hg : m.progress = .granted g) (k : CraneId) :
    Changes s.ledger (liftMove k i m g s).st.ledger := by
  have hlift : Changes s.ledger (s.setMove i (some { m with progress := .lifted g s.now false })).ledger := by
    rw [State.setMove_ledger]
    exact .one (.lift i m g s.now false hm (by rw [Move.grant?, hg]))
  refine .trans ?_ (settleSource_changes m _)
  rw [State.event_st, State.modPiece_ledger _ _ (Piece.lift_id _ _ _) (Piece.lift_move _ _ _)]
  exact hlift.trans (leaveSource_changes m _)

theorem ruleLifted_changes (id : Nat) (k : CraneId) (i : SlotId) :
    Changes s.ledger (ruleLifted id k i s).event.st.ledger := by
  unfold ruleLifted
  split
  · exact .refl
  · next m hm =>
    split
    · exact .refl
    · next g hg =>
      split_ifs
      · exact .refl
      · exact .refl
      · exact liftMove_changes hm hg k
    · split_ifs <;> exact .refl

theorem repeatLast_ledger (k : CraneId) (i : SlotId) (r : Result) :
    (repeatLast k i r s).event.st.ledger = s.ledger := by
  unfold repeatLast
  repeat' split
  all_goals rfl

theorem rulePlaced_changes (k : CraneId) (i : SlotId) :
    Changes s.ledger (rulePlaced k i s).event.st.ledger := by
  have hrepeat : Changes s.ledger (repeatLast k i .wrongState s).event.st.ledger :=
    .of_eq (repeatLast_ledger k i _)
  unfold rulePlaced
  split
  · exact hrepeat
  · next m hm =>
    split
    · exact hrepeat
    · exact hrepeat
    · next g t f hg =>
      split_ifs with hk
      · exact hrepeat
      · rw [not_not] at hk
        subst hk
        exact endMove_changes hm (by rw [Move.grant?, hg]) (.inl rfl) _ _

theorem divert_changes {i : SlotId} {m : Move} {g : Grant} (hm : s.move i = some m)
    (hg : m.grant? = some g) (setDown : Option Nat) :
    Changes s.ledger (divert g.crane i m g setDown s).event.st.ledger := by
  unfold divert
  split
  · exact .refl
  · next onto _ =>
    split
    · exact .refl
    · next x hx =>
      split_ifs with _ hroom
      · exact .refl
      · exact .refl
      · refine endMove_changes hm hg ?_ _ _
        by_cases hdest : onto = m.dest
        · exact .inl hdest
        · exact .inr ⟨x, hx, by simpa [hdest] using hroom⟩
      · exact .refl

theorem ruleAbortMove_changes (setDown : Option Nat) (k : CraneId) (i : SlotId) :
    Changes s.ledger (ruleAbortMove setDown k i s).event.st.ledger := by
  have hrepeat : Changes s.ledger (repeatLast k i .tooLate s).event.st.ledger :=
    .of_eq (repeatLast_ledger k i _)
  unfold ruleAbortMove
  split
  · exact hrepeat
  · next m hm =>
    split
    · exact hrepeat
    · next g hg =>
      split_ifs
      · exact hrepeat
      · simp only [handBack, acceptEvent, allocateRunning_ledger, State.event_st]
        exact requeue_changes hm hg
    · next g t f hg =>
      split_ifs with hk
      · exact hrepeat
      · rw [not_not] at hk
        subst hk
        exact divert_changes hm (by rw [Move.grant?, hg]) _

theorem takeAbortMove_effect (p : PortId) (c sl given st : Nat) :
    Effect s.ledger (takeAbortMove p c sl given st s).event.st.ledger := by
  refine craneReport_effect fun k i => ?_
  split
  · exact .refl
  · exact ruleAbortMove_changes _ k i

/-! ### The Crane Arbiter (chapter 9) -/

@[simp] theorem evaluateSwitch_ledger (e : Event) : (evaluateSwitch e).st.ledger = e.st.ledger := by
  unfold evaluateSwitch
  split <;> rfl

@[simp] theorem starveAfter_ledger (k : MoveKind) (s : State) : (starveAfter k s).ledger = s.ledger := by
  unfold starveAfter
  split <;> rfl

/-- The oldest of a list stands in the list. -/
theorem State.oldest_mem {l : List (SlotId × Move)} {x : SlotId × Move} (h : s.oldest l = some x) :
    x ∈ l := by
  cases l with
  | nil => cases h
  | cons y l =>
    obtain rfl := Option.some.inj h
    refine List.foldlRecOn (motive := fun z => z ∈ y :: l) _ _ List.mem_cons_self fun z hz w hw => ?_
    split
    · exact List.mem_cons_of_mem _ hw
    · exact hz

/-- The move selected is QUEUED and eligible. -/
theorem State.select_eligible {k : CraneId} {e : Enrolment} {bay : Nat} {x : SlotId × Move}
    (h : s.select k e bay = some x) :
    s.move x.1 = some x.2 ∧ x.2.isQueued = true ∧ s.eligible k e bay x.2 = true := by
  have hmem : x ∈ s.eligibleMoves k e bay := by
    unfold State.select at h
    dsimp only at h
    split at h
    · next y hy =>
      cases h
      exact List.mem_of_mem_filter (State.oldest_mem hy)
    · exact State.oldest_mem h
  obtain ⟨hqueued, heligible⟩ := List.mem_filter.mp hmem
  obtain ⟨hm, hq⟩ := State.mem_queued.mp hqueued
  exact ⟨hm, hq, heligible⟩

/-- A clear span meets no captured span that another crane holds. -/
theorem State.spanClear_iff (k : CraneId) (bay : Nat) (m : Move) :
    s.spanClear k bay m = true ↔ ∀ j n h, s.move j = some n → n.grant? = some h → h.crane ≠ k →
      widenedMeet (s.spanOf bay m).1 (s.spanOf bay m).2 s.settings.clearance h.spanLow h.spanHigh
        h.clearance = false := by
  simp only [State.spanClear, State.otherGrants, List.all_eq_true, List.mem_filter, List.mem_filterMap,
    Prod.exists, State.mem_moveList, bne_iff_ne, Bool.not_eq_true', ne_eq]
  constructor
  · intro h j n g hn hg hk
    exact h g ⟨⟨j, n, hn, hg⟩, hk⟩
  · rintro h g ⟨⟨j, n, hn, hg⟩, hk⟩
    exact h j n g hn hg hk

theorem grantMove_changes {k : CraneId} {e : Enrolment} {bay : Nat} {i : SlotId} {m : Move}
    (hctl : s.ctl = .running) (hidle : (s.crane k).held = none) (hm : s.move i = some m)
    (hq : m.isQueued = true) (heligible : s.eligible k e bay m = true) :
    Changes s.ledger (grantMove k e bay i m s).ledger := by
  simp only [State.eligible, State.workable, Bool.and_eq_true] at heligible
  obtain ⟨⟨⟨⟨-, hdest⟩, -⟩, -⟩, hclear⟩ := heligible
  obtain ⟨x, hx, hopen⟩ := (Option.any_eq_true _ _).mp hdest
  rw [Bool.and_eq_true] at hopen
  have hgrant : (grantMove k e bay i m s).ledger = s.ledger.grant i m (s.grantOf k e bay m) := by
    rw [grantMove, starveAfter_ledger, State.modCrane_ledger,
      State.modStack_ledger (g := .more) _ _ fun _ => rfl, State.setMove_ledger]
    rfl
  rw [hgrant]
  exact .one (.grant i m (s.grantOf k e bay m) x.line hctl hm ((Move.isQueued_iff m).mp hq)
    (congrArg (Option.map Held.slot) hidle) (congrArg (Option.map Stack.line) hx) (Stack.hasRoom_line hopen.2)
    ((s.spanClear_iff k bay m).mp hclear))

theorem findWork_changes (hctl : s.ctl = .running) {k : CraneId} (hidle : (s.crane k).held = none)
    (e : Enrolment) (bay : Nat) : Changes s.ledger (findWork k e bay s).event.st.ledger := by
  have hswitch : (evaluateSwitch s.event).st.ledger = s.ledger := evaluateSwitch_ledger s.event
  have hctl' : (evaluateSwitch s.event).st.ctl = .running := (congrArg Ledger.ctl hswitch).trans hctl
  have hidle' : ((evaluateSwitch s.event).st.crane k).held = none := by
    unfold evaluateSwitch
    split <;> exact hidle
  unfold findWork
  dsimp only
  split
  · unfold answerNone
    dsimp only
    split <;> exact .of_eq hswitch
  · next x hx =>
    obtain ⟨hm, hq, heligible⟩ := State.select_eligible hx
    have hgrant := grantMove_changes hctl' hidle' hm hq heligible
    rw [hswitch] at hgrant
    unfold makeGrant
    dsimp only [acceptEvent]
    rw [allocateRunning_ledger]
    split <;> exact hgrant

theorem repeatGrant_ledger (h : Held) : (repeatGrant h s).event.st.ledger = s.ledger := by
  unfold repeatGrant
  split <;> rfl

theorem takeNextMove_effect (hctl : s.ctl = .running) (p : PortId) (c bay : Nat) :
    Effect s.ledger (takeNextMove p c bay s).event.st.ledger := by
  refine withCrane_effect fun k e => ?_
  have hnoted : (s.modCrane k fun c => { c with lastBay := some bay }).ledger = s.ledger :=
    s.modCrane_ledger_keep k rfl
  split
  · exact .of_eq rfl
  · dsimp only
    split
    · exact .of_eq ((repeatGrant_ledger _).trans hnoted)
    · next hidle =>
      have hidle' : ((s.modCrane k fun c => { c with lastBay := some bay }).crane k).held = none := by
        rw [State.modCrane_crane, if_pos rfl]
        exact hidle
      have hfound := findWork_changes (s := s.modCrane k _) hctl hidle' e bay
      rw [hnoted] at hfound
      exact .entries hfound

theorem takeSetMode_ledger (m l : Nat) : (takeSetMode m l s).event.st.ledger = s.ledger := by
  unfold takeSetMode
  repeat' split
  all_goals rfl

theorem takeReadCrane_ledger (c : Nat) : (takeReadCrane c s).event.st.ledger = s.ledger := by
  unfold takeReadCrane
  split <;> rfl

/-! ### The ports (chapter 10) and the counters (chapter 11) -/

theorem takeFreezeBeds_ledger (p : PortId) (m : Nat) :
    (takeFreezeBeds p m s).event.st.ledger = s.ledger := by
  unfold takeFreezeBeds
  split
  · rfl
  · exact s.modPort_ledger p fun _ => rfl

theorem takeReadPort_ledger (p : PortId) (q : Nat) : (takeReadPort p q s).event.st.ledger = s.ledger := by
  unfold takeReadPort
  split <;> rfl

theorem takeSetCounter_ledger (c sel fk fn fe pg v : Nat) :
    (takeSetCounter c sel fk fn fe pg v s).event.st.ledger = s.ledger := by
  unfold takeSetCounter
  split <;> rfl

end Sys2Proof.Machine
end

section
/-! The entries of every command: a request by its rule, whether it comes as a row of the table or as a frame on
the line, and an event by what it does. -/

namespace Sys2Proof.Machine

/-! ### Requests -/

/-- The rule of every request writes the entries of its kind, where its kind may be taken. -/
theorem requestRule_effect {i : Instr} {k : RequestKind} {rule : State → Taken} {s : State}
    (hrule : requestRule i = some rule) (hkind : i.kind? = some k)
    (hrun : needsRunning k = true → s.ctl = .running) : Effect s.ledger (rule s).event.st.ledger := by
  cases i <;> cases hrule
  case readClock | setClock | readBudget | readCounters | unfreezeCounters | clearOverflow
      | resetCounters | resetCounterSelect => exact .of_eq rfl
  case readAlerts | setAlertMask | unfreeze => exact .of_eq (s.modPort_ledger _ fun _ => rfl)
  case readScan => exact .entries takeReadScan_changes
  case readMap => exact .of_eq (takeReadMap_ledger _ _ _)
  case defineBed => exact .entries (takeDefineBed_changes _ _ _ _ _ _ _)
  case defineStack => exact .entries (takeDefineStack_changes _ _ _ _ _ _)
  case setStackOpen => exact .entries (takeSetStackOpen_changes _ _)
  case loadCrane => exact .of_eq (takeLoadCrane_ledger _ _ _ _ _ _ _)
  case defineClass => exact .of_eq (takeDefineClass_ledger _ _ _ _ _ _)
  case setLimits => exact .of_eq (takeSetLimits_ledger _ _ _)
  case setConfig => exact .entries (takeSetConfig_changes _ _ _)
  case loadPiece => exact .entries (takeLoadPiece_changes _ _ _ _ _ _ _ _)
  case loadBedState => exact .entries (takeLoadBedState_changes _ _ _ _ _ _ _ _ _ _)
  case commit => exact .entries takeCommit_changes
  case defineProbe => exact .of_eq (takeDefineProbe_ledger _ _ _ _ _ _ _ _)
  case readProbe => exact .of_eq (takeReadProbe_ledger _)
  case clearProbeTally => exact .of_eq (takeClearProbeTally_ledger _ _)
  case scanNow => exact .entries takeScanNow_changes
  case abortScan => exact .of_eq takeAbortScan_ledger
  case setProfile => exact .entries (takeSetProfile_changes _ _)
  case readProfile => exact .of_eq (takeReadProfile_ledger _)
  case bedSet => exact bedRequest_effect fun _ _ hx => ruleBedSet_effect hx
  case cancelSet => exact bedRequest_effect fun _ _ hx => ruleCancelSet_effect hx
  case pourStart => exact bedRequest_effect fun _ _ hx => rulePourStart_effect hx
  case pourEnd => exact bedRequest_effect fun _ _ hx => rulePourEnd_effect _ hx
  case detensionRequest => exact bedRequest_effect fun _ _ hx => ruleDetensionRequest_effect hx
  case detensionDone => exact bedRequest_effect fun _ _ hx => ruleDetensionDone_effect hx
  case abandonBed => exact bedRequest_effect fun _ _ hx => ruleAbandonBed_effect hx
  case readBed => exact .of_eq (takeReadBed_ledger _ _)
  case setHold | clearHold =>
    exact withPiece_effect fun _ _ => .of_eq (s.modPiece_ledger _ (fun _ => rfl) fun _ => rfl)
  case readPiece => exact withPiece_effect fun _ _ => .of_eq rfl
  case deletePiece => exact takeDeletePiece_effect _
  case shipDispatch => exact .entries (takeShipDispatch_changes _)
  case readStack => exact .of_eq (takeReadStack_ledger _)
  case requestMove =>
    cases hkind
    exact takeRequestMove_effect (hrun rfl) _ _ _ _
  case cancelMove => exact .entries (takeCancelMove_changes _ _ _)
  case readMove => exact .of_eq (takeReadMove_ledger _)
  case nextMove =>
    cases hkind
    exact takeNextMove_effect (hrun rfl) _ _ _
  case lifted => exact craneReport_effect (ruleLifted_changes _)
  case placed => exact craneReport_effect rulePlaced_changes
  case abortMove => exact takeAbortMove_effect _ _ _ _ _
  case setMode => exact .of_eq (takeSetMode_ledger _ _)
  case readCrane => exact .of_eq (takeReadCrane_ledger _)
  case freezeBeds => exact .of_eq (takeFreezeBeds_ledger _ _)
  case readPort => exact .of_eq (takeReadPort_ledger _ _)
  case setCounter => exact .of_eq (takeSetCounter_ledger _ _ _ _ _ _ _)

/-- The state and role checks refuse a request, which changes nothing, or let it come to its rule (R177). -/
theorem screened_effect {s : State} {i : Instr} {k : RequestKind} {rule : State → Taken}
    (hrule : requestRule i = some rule) (hkind : i.kind? = some k) (p : PortId) :
    Effect s.ledger (screened p k rule s).event.st.ledger := by
  unfold screened
  split
  · exact .of_eq rfl
  · next hbarred => exact requestRule_effect hrule hkind (running_of_not_barred hbarred)

/-- The forming of a response writes no entry. -/
theorem respond_ledger (p : PortId) (tag kind : Byte) (t : Taken) :
    (respond p tag kind t).ledger = t.event.st.ledger := by
  unfold respond
  dsimp only
  split <;> exact (Event.close_ledger _).trans (State.modPort_ledger _ p fun _ => rfl)

theorem arrive_effect {s : State} {take : State → Taken}
    (htake : Effect s.ledger (take s).event.st.ledger) (p : PortId) (tag kind : Byte) :
    Effect s.ledger (arrive p tag kind take s).ledger := by
  unfold arrive
  split_ifs
  · exact .of_eq rfl
  · exact .of_eq (s.modPort_ledger p fun _ => rfl)
  · rwa [respond_ledger]

/-! ### Frames on the line -/

theorem takeFrame_effect (s : State) (p : PortId) (tag kind : Byte) (body : List Byte) :
    Effect s.ledger (takeFrame p tag kind body s).event.st.ledger := by
  unfold takeFrame
  split
  · exact .of_eq rfl
  · split
    · exact .of_eq rfl
    · next hdecoded =>
      obtain ⟨i, hbody, hrule⟩ := Option.bind_eq_some_iff.mp hdecoded
      exact screened_effect hrule (decodeBody_kind hbody) p

@[simp] theorem rejectFrame_ledger (p : PortId) (s : State) : (rejectFrame p s).ledger = s.ledger :=
  (Event.close_ledger _).trans (s.modPort_ledger p fun _ => rfl)

theorem completeFrame_effect (s : State) (p : PortId) (tag kind : Byte) (body : List Byte)
    (check : BitVec 16) : Effect s.ledger (completeFrame p tag kind body check s).ledger := by
  unfold completeFrame
  split
  · exact arrive_effect (takeFrame_effect s p tag kind body) p tag kind
  · exact .of_eq (rejectFrame_ledger p s)

theorem completeKept_effect (s : State) (p : PortId) (len : Nat) (kept : List Byte) :
    Effect s.ledger (completeKept p len kept s).ledger := by
  unfold completeKept
  split
  · split
    · exact completeFrame_effect _ _ _ _ _ _
    · exact .of_eq rfl
  · exact .of_eq rfl

/-- A byte moves the receiver, rejects a frame or completes one (R174). -/
theorem execByteReceived_effect {s t : State} {p : PortId} {b : Byte}
    (ht : execByteReceived p b s = .next t) : Effect s.ledger t.ledger := by
  unfold execByteReceived at ht
  split at ht
  · cases ht
    exact .of_eq rfl
  · split at ht <;> cases ht
    · split
      · exact .of_eq (s.setRx_ledger p _)
      · exact .of_eq rfl
    · unfold takeLength
      split
      · exact .of_eq (s.setRx_ledger p _)
      · exact .of_eq ((rejectFrame_ledger p _).trans (s.setRx_ledger p _))
    · unfold takeKept
      dsimp only
      split
      · exact .of_eq (s.setRx_ledger p _)
      · have hkept := completeKept_effect (s.setRx p .hunt) p
        rw [State.setRx_ledger] at hkept
        exact hkept _ _

theorem execCharacterSilenceTimeout_ledger {s t : State} {p : PortId}
    (ht : execCharacterSilenceTimeout p s = .next t) : t.ledger = s.ledger := by
  have hreject : (rejectFrame p (s.setRx p .hunt)).ledger = s.ledger :=
    (rejectFrame_ledger p _).trans (s.setRx_ledger p _)
  unfold execCharacterSilenceTimeout at ht
  split at ht
  · cases ht
    rfl
  · split at ht <;> cases ht
    · rfl
    · exact hreject
    · exact hreject

theorem execBreakEnd_ledger {s t : State} {p : PortId} (ht : execBreakEnd p s = .next t) :
    t.ledger = s.ledger := by
  unfold execBreakEnd at ht
  split at ht <;> cases ht
  · rfl
  · exact s.modPort_ledger p fun _ => rfl

theorem execFrameCompletion_effect {s t : State} {p : PortId} {tag kind : Byte} {body : List Byte}
    {check : BitVec 16} (ht : execFrameCompletion p tag kind body check s = .next t) :
    Effect s.ledger t.ledger := by
  unfold execFrameCompletion at ht
  split at ht <;> cases ht
  · exact .of_eq rfl
  · have hframe := completeFrame_effect (s.setRx p .hunt) p
    rw [State.setRx_ledger] at hframe
    exact hframe _ _ _ _

theorem execResponseSent_ledger {s t : State} {p : PortId} (ht : execResponseSent p s = .next t) :
    t.ledger = s.ledger := by
  cases ht
  exact s.modPort_ledger p fun _ => rfl

theorem execLineTurnaround_ledger {s t : State} {p : PortId} (ht : execLineTurnaround p s = .next t) :
    t.ledger = s.ledger := by
  cases ht
  exact s.modPort_ledger p fun _ => rfl

/-! ### Every command -/

theorem shedEdge_next_ledger {s t : State} (level : Bool)
    (ht : Host.Outcome.next (φ := Fault) (ρ := Refusal) (shedEdge level s) = .next t) :
    t.ledger = s.ledger := by
  cases ht
  exact shedEdge_ledger level s

/-- An event other than POWER_ON writes the entries of its kind. -/
theorem execEvent_effect {i : Instr} {s t : State} (hi : requestRule i = none)
    (hon : ∀ r0 r1 r2 r3 shed, i ≠ .powerOn r0 r1 r2 r3 shed) (ht : exec i s = .next t) :
    Effect s.ledger t.ledger := by
  cases i <;> cases hi
  case powerOn => exact absurd rfl (hon _ _ _ _ _)
  case restart => exact .entries (execRestart_changes ht)
  case shedAssertion => exact .of_eq (shedEdge_next_ledger true ht)
  case shedDeassertion => exact .of_eq (shedEdge_next_ledger false ht)
  case minuteExpiry => exact .entries (execMinuteExpiry_changes ht)
  case grantTimeout => exact .entries (execGrantTimeout_changes ht)
  case liftOverdue => exact .entries (execLiftOverdue_changes ht)
  case scanTimerExpiry => exact .entries (execScanTimerExpiry_changes ht)
  case conversionCompletion => exact .entries (execConversionCompletion_changes ht)
  case byteReceived => exact execByteReceived_effect ht
  case characterSilenceTimeout => exact .of_eq (execCharacterSilenceTimeout_ledger ht)
  case breakEnd => exact .of_eq (execBreakEnd_ledger ht)
  case frameCompletion => exact execFrameCompletion_effect ht
  case responseSent => exact .of_eq (execResponseSent_ledger ht)
  case lineTurnaround => exact .of_eq (execLineTurnaround_ledger ht)
  case linkUpdateDone =>
    cases ht
    exact .of_eq rfl

/-- Every command but POWER_ON writes the entries of its kind. -/
theorem exec_effect {i : Instr} {s t : State} (hon : ∀ r0 r1 r2 r3 shed, i ≠ .powerOn r0 r1 r2 r3 shed)
    (ht : exec i s = .next t) : Effect s.ledger t.ledger := by
  cases hi : requestRule i with
  | none => exact execEvent_effect hi hon ht
  | some rule =>
    obtain ⟨p, tag, k, hkind, hexec⟩ := exec_request hi
    cases (hexec s).symm.trans ht
    exact arrive_effect (screened_effect hi hkind p) p tag k.code

/-! ### The ledger after POWER_ON -/

/-- The ledger of the power-on values with these roles and these waiting commands. -/
def Ledger.powerOn (roles : PortId → Role) (pending : List Instr) : Ledger where
  ctl := .loading
  pending := pending
  roles := roles
  settings := defaultSettings
  profiles := Vector.replicate 16 defaultProfile
  beds := fun _ => none
  piles := fun _ => none
  held := fun _ => none
  slots := fun _ => none
  charged := fun _ => 0
  link := fun _ => none
  records := 0
  countdown := 5
  remaining := 5

theorem State.reset_ledger : State.reset.ledger = .powerOn (fun p => (State.reset.port p).role) [] := by
  simp [State.ledger, State.reset, Ledger.powerOn, State.bed, State.stack, State.crane, State.piece,
    Crane.powerOn, State.port]
  exact funext fun i => by simp [State.move]

theorem powerOnState_ledger (roles : Vector Role 4) (shed : Bool) (s : State) :
    (powerOnState roles shed s).ledger = .powerOn (fun p => roles[p]) s.pending := by
  have hroles : (fun p => ((powerOnState roles shed s).port p).role) = fun p => roles[p] := by
    funext p
    simp [powerOnState, State.port, Port.powerOn]
  have hreset := State.reset_ledger
  calc (powerOnState roles shed s).ledger
      = { State.reset.ledger with
          roles := fun p => ((powerOnState roles shed s).port p).role
          pending := s.pending } := rfl
    _ = _ := by rw [hroles, hreset]; rfl

end Sys2Proof.Machine
end

section
/-! The step and its queue: a step as entries in the ledger, what it keeps, and that every command completes (O1,
O2). -/

namespace Sys2Proof.Machine

/-- Settles O1: both equations are the definition of the step. -/
theorem stepRunsTheFrontCommand : Obligations.StepRunsTheFrontCommand :=
  ⟨fun _ _ _ => rfl, fun _ => rfl⟩

/-! ### What a step keeps of the ledger -/

/-- A predicate of the ledger that every entry keeps, and a BED_SET, a POWER_ON and a change of the queue. -/
structure Ledger.Kept (P : Ledger → Prop) : Prop where
  change : ∀ {L L' : Ledger}, Change L L' → P L → P L'
  bedSet : ∀ {L : Ledger} {b : BedId} {x : BedLine}, L.beds b = some x → x.state = .empty → P L →
    P { L with beds := Function.update L.beds b (some { x with state := .set }) }
  powerOn : ∀ roles pending, P (.powerOn roles pending)
  queue : ∀ {L : Ledger} (pending : List Instr), P L → P { L with pending := pending }

theorem Ledger.Kept.changes {P : Ledger → Prop} (hP : Ledger.Kept P) {L L' : Ledger} (h : Changes L L')
    (hL : P L) : P L' := by
  induction h with
  | refl => exact hL
  | tail _ hchange ih => exact hP.change hchange ih

theorem Ledger.Kept.effect {P : Ledger → Prop} (hP : Ledger.Kept P) {L L' : Ledger} (h : Effect L L')
    (hL : P L) : P L' := by
  cases h with
  | entries h => exact hP.changes h hL
  | bedSet b x hx hempty => exact hP.bedSet hx hempty hL

/-- A command is POWER_ON or another one. -/
theorem powerOn_or_not (i : Instr) :
    (∃ r0 r1 r2 r3 shed, i = .powerOn r0 r1 r2 r3 shed) ∨
      ∀ r0 r1 r2 r3 shed, i ≠ .powerOn r0 r1 r2 r3 shed := by
  cases i
  case powerOn => exact .inl ⟨_, _, _, _, _, rfl⟩
  all_goals exact .inr fun _ _ _ _ _ h => by cases h

/-- The ledger of the state on which a step runs the front command. -/
theorem State.rest_ledger (s : State) (rest : List Instr) :
    ({ s with pending := rest } : State).ledger = { s.ledger with pending := rest } := rfl

theorem exec_keeps {P : Ledger → Prop} (hP : Ledger.Kept P) {i : Instr} {s t : State}
    (ht : exec i s = .next t) (hs : P s.ledger) : P t.ledger := by
  obtain ⟨r0, r1, r2, r3, shed, rfl⟩ | hon := powerOn_or_not i
  · cases ht
    rw [powerOnState_ledger]
    exact hP.powerOn _ _
  · exact hP.effect (exec_effect hon ht) hs

/-- Every step keeps a kept predicate of the ledger. -/
theorem step_keeps {P : Ledger → Prop} (hP : Ledger.Kept P) {s t : State} (ht : step s = .next t)
    (hs : P s.ledger) : P t.ledger := by
  unfold step at ht
  split at ht
  · cases ht
    exact hs
  · next rest _ =>
    exact exec_keeps hP ht (s.rest_ledger rest ▸ hP.queue rest hs)

/-! ### Every command completes and leaves the queue and the roles -/

/-- No entry touches the queue or a role. -/
theorem Change.keeps {L L' : Ledger} (h : Change L L') : L'.pending = L.pending ∧ ∀ p, L'.roles p = L.roles p := by
  cases h <;> simp

theorem Effect.keeps {L L' : Ledger} (h : Effect L L') : L'.pending = L.pending ∧ ∀ p, L'.roles p = L.roles p := by
  cases h with
  | bedSet => exact ⟨rfl, fun _ => rfl⟩
  | entries h =>
    induction h with
    | refl => exact ⟨rfl, fun _ => rfl⟩
    | tail _ hchange ih => exact ⟨hchange.keeps.1.trans ih.1, fun p => (hchange.keeps.2 p).trans (ih.2 p)⟩

/-- No command stops: each is answered with a next state. -/
theorem exec_next (i : Instr) (s : State) : ∃ t, exec i s = .next t := by
  cases i
  case scanTimerExpiry =>
    change ∃ t, execScanTimerExpiry s = .next t
    unfold execScanTimerExpiry
    split <;> exact ⟨_, rfl⟩
  case conversionCompletion raw =>
    change ∃ t, execConversionCompletion raw s = .next t
    unfold execConversionCompletion
    split <;> exact ⟨_, rfl⟩
  case byteReceived p b =>
    change ∃ t, execByteReceived p b s = .next t
    unfold execByteReceived
    split
    · exact ⟨_, rfl⟩
    · split <;> exact ⟨_, rfl⟩
  case characterSilenceTimeout p =>
    change ∃ t, execCharacterSilenceTimeout p s = .next t
    unfold execCharacterSilenceTimeout
    split
    · exact ⟨_, rfl⟩
    · split <;> exact ⟨_, rfl⟩
  case breakEnd p =>
    change ∃ t, execBreakEnd p s = .next t
    unfold execBreakEnd
    split <;> exact ⟨_, rfl⟩
  case frameCompletion p tag kind body check =>
    change ∃ t, execFrameCompletion p tag kind body check s = .next t
    unfold execFrameCompletion
    split <;> exact ⟨_, rfl⟩
  all_goals exact ⟨_, rfl⟩

/-- Settles O2: the queue and the roles stand in the ledger, and no entry touches them. -/
theorem everyCommandCompletesAndKeepsTheRoles : Obligations.EveryCommandCompletesAndKeepsTheRoles := by
  unfold Obligations.EveryCommandCompletesAndKeepsTheRoles
  intro c s
  obtain ⟨t, ht⟩ := exec_next c s
  refine ⟨t, ht, ?_, fun hon p => ?_⟩
  · obtain ⟨r0, r1, r2, r3, shed, rfl⟩ | hon := powerOn_or_not c
    · cases ht
      rfl
    · exact (exec_effect hon ht).keeps.1
  · exact (exec_effect hon ht).keeps.2 p

end Sys2Proof.Machine
end

section
/-! The books of the Move Table, kept by every entry: the credits, the piece links and the holding cranes (O57). -/

namespace Sys2Proof.Machine

/-! ### Counting moves -/

/-- 1 for a slot whose move the test picks. -/
def picked (pick : Move → Bool) (o : Option Move) : Nat := if o.any pick then 1 else 0

@[simp] theorem picked_none (pick : Move → Bool) : picked pick none = 0 := rfl

@[simp] theorem picked_some (pick : Move → Bool) (m : Move) :
    picked pick (some m) = if pick m then 1 else 0 := rfl

/-- The number of slots whose move the test picks. -/
@[irreducible] def slotCount (slots : SlotId → Option Move) (pick : Move → Bool) : Nat := ∑ i, picked pick (slots i)

theorem State.countMoves_eq (s : State) (pick : Move → Bool) :
    s.countMoves pick = slotCount s.ledger.slots pick := by
  have hlist : ∀ l : List SlotId,
      ((l.filterMap fun i => (s.move i).map fun m => (i, m)).filter fun x => pick x.2).length =
        (l.map fun i => picked pick (s.move i)).sum := by
    intro l
    induction l with
    | nil => rfl
    | cons i l ih =>
      cases hm : s.move i with
      | none => simp [hm, ih]
      | some m =>
        by_cases hpick : pick m = true
        · simp [hm, hpick, ← ih, Nat.add_comm]
        · simp [hm, hpick, ← ih]
  rw [slotCount]
  exact (hlist _).trans (Fin.sum_univ_def fun i => picked pick (s.move i)).symm

/-- A write of one slot changes the count by that slot's move. -/
theorem slotCount_update (slots : SlotId → Option Move) (pick : Move → Bool) (i : SlotId)
    (o : Option Move) :
    slotCount (Function.update slots i o) pick + picked pick (slots i) =
      slotCount slots pick + picked pick o := by
  have hmem := Finset.mem_univ i
  have hupdate : (fun j => picked pick (Function.update slots i o j)) =
      Function.update (fun j => picked pick (slots j)) i (picked pick o) := by
    funext j
    exact Function.apply_update (fun _ => picked pick) slots i o j
  rw [slotCount, slotCount, hupdate, Finset.sum_update_of_mem hmem,
    ← Finset.sum_sdiff (Finset.singleton_subset_iff.mpr hmem), Finset.sum_singleton]
  omega

/-- A write that the test does not see keeps the count. -/
theorem slotCount_update_same {slots : SlotId → Option Move} {pick : Move → Bool} {i : SlotId}
    {o : Option Move} (h : picked pick o = picked pick (slots i)) :
    slotCount (Function.update slots i o) pick = slotCount slots pick := by
  have := slotCount_update slots pick i o
  omega

/-! ### Credits -/

/-- The test for the moves that a port requested. -/
def Move.requestedBy (p : PortId) (m : Move) : Bool := m.requester == p

/-- Every port is charged with the moves it requested (R141). -/
def Ledger.creditSafe (L : Ledger) : Prop :=
  ∀ p, L.charged p = slotCount L.slots (Move.requestedBy p)

theorem State.creditSafe_iff (s : State) : s.creditSafe ↔ s.ledger.creditSafe :=
  forall_congr' fun p => by rw [← State.countMoves_eq]; rfl

namespace Ledger

variable {L : Ledger}

/-- A write of a slot whose requester stays, or of an empty one left empty. -/
theorem creditSafe.putMove (h : L.creditSafe) {i : SlotId} {m n : Move} (hm : L.slots i = some m)
    (hn : n.requester = m.requester) : (L.putMove i (some n)).creditSafe := fun p =>
  (h p).trans (slotCount_update_same (by simp [hm, Move.requestedBy, hn])).symm

/-- Entries that keep the table and the charges keep the credits. -/
theorem creditSafe.congr (h : L.creditSafe) {L' : Ledger} (hslots : L'.slots = L.slots)
    (hcharged : L'.charged = L.charged) : L'.creditSafe := fun p => by
  rw [hslots, hcharged]
  exact h p

theorem creditSafe.leave (h : L.creditSafe) {i : SlotId} {m : Move} (hm : L.slots i = some m) :
    (L.leave i m).creditSafe := by
  intro p
  have hcount := slotCount_update L.slots (Move.requestedBy p) i none
  have hcredit := h p
  change Function.update L.charged m.requester _ p = slotCount (Function.update L.slots i none) _
  by_cases hp : m.requester = p
  · subst hp
    simp [hm, Move.requestedBy] at hcount ⊢
    omega
  · simp [hm, Move.requestedBy, hp, Ne.symm hp] at hcount ⊢
    omega

theorem creditSafe.enter (h : L.creditSafe) {i : SlotId} {m : Move} (hi : L.slots i = none) :
    (L.enter i m).creditSafe := by
  intro p
  have hcount := slotCount_update L.slots (Move.requestedBy p) i (some m)
  have hcredit := h p
  change Function.update L.charged m.requester _ p = slotCount (Function.update L.slots i (some m)) _
  by_cases hp : m.requester = p
  · subst hp
    simp [hi, Move.requestedBy] at hcount ⊢
    omega
  · simp [hi, Move.requestedBy, hp, Ne.symm hp] at hcount ⊢
    omega

theorem creditSafe.change {L' : Ledger} (hchange : Change L L') (h : L.creditSafe) : L'.creditSafe := by
  cases hchange with
  | leave i m hm => exact h.leave hm
  | merge i m k src d hm => exact h.putMove hm rfl
  | enter i m o _ hi => exact h.enter hi
  | requeue i m g hm => exact (h.putMove (n := { m with progress := .queued }) hm rfl).congr rfl rfl
  | grant i m g x _ hm => exact (h.putMove (n := { m with progress := .granted g }) hm rfl).congr rfl rfl
  | lift i m g t flag hm => exact h.putMove hm rfl
  | finish i m g onto hm => exact (h.leave hm).congr rfl rfl
  | _ => exact h.congr rfl rfl

theorem creditSafe_powerOn (roles : PortId → Role) (pending : List Instr) :
    (Ledger.powerOn roles pending).creditSafe := fun p => by
  simp [Ledger.powerOn, slotCount]

theorem creditSafe_kept : Ledger.Kept creditSafe where
  change hchange h := h.change hchange
  bedSet _ _ h := h.congr rfl rfl
  powerOn := creditSafe_powerOn
  queue _ h := h.congr rfl rfl

/-! ### Links between pieces and moves -/

/-- A registered piece's pending move and the move's piece name each other, and a move's piece is registered. -/
def linksSafe (L : Ledger) : Prop :=
  ∀ id i, L.link id = some (some i) ↔ (L.slots i).map Move.piece = some id

theorem linksSafe.congr (h : L.linksSafe) {L' : Ledger} (hlink : L'.link = L.link)
    (hslots : L'.slots = L.slots) : L'.linksSafe := fun id i => by
  rw [hlink, hslots]
  exact h id i

/-- A registered piece's pending move stands in the table. -/
theorem linksSafe.pending_none (h : L.linksSafe) {id : Nat} {o : Option SlotId} (ho : L.link id = some o)
    (hnone : o.bind L.slots = none) : o = none := by
  cases o with
  | none => rfl
  | some i =>
    have hmove := (h id i).mp ho
    rw [show L.slots i = none from hnone] at hmove
    cases hmove

theorem linksSafe.putMove (h : L.linksSafe) {i : SlotId} {m n : Move} (hm : L.slots i = some m)
    (hn : n.piece = m.piece) : (L.putMove i (some n)).linksSafe := by
  intro id j
  change _ ↔ (Function.update L.slots i (some n) j).map Move.piece = some id
  by_cases hj : j = i
  · subst hj
    simpa [hm, hn] using h id j
  · simpa [hj] using h id j

theorem linksSafe.leave (h : L.linksSafe) {i : SlotId} {m : Move} (hm : L.slots i = some m) :
    (L.leave i m).linksSafe := by
  intro id j
  have hij := h id j
  have hi := h m.piece i
  simp only [Ledger.leave, relink_link, charge_link, putMove_link, relink_slots, charge_slots,
    putMove_slots, Function.update_apply]
  grind

theorem linksSafe.enter (h : L.linksSafe) {i : SlotId} {m : Move} {o : Option SlotId}
    (hi : L.slots i = none) (ho : L.link m.piece = some o) (hnone : o.bind L.slots = none) :
    (L.enter i m).linksSafe := by
  obtain rfl := h.pending_none ho hnone
  intro id j
  have hid := h id j
  have hpiece := h m.piece j
  simp only [Ledger.enter, relink_link, charge_link, putMove_link, relink_slots, charge_slots,
    putMove_slots, Function.update_apply]
  grind

theorem linksSafe.register (h : L.linksSafe) {id n : Nat} (hnew : L.link id = none) :
    ({ L with link := Function.update L.link id (some none), records := n } : Ledger).linksSafe := by
  intro j i
  have hj := h j i
  change Function.update L.link id _ j = _ ↔ (L.slots i).map Move.piece = some j
  grind [Function.update_apply]

theorem linksSafe.free (h : L.linksSafe) {id n : Nat}
    (hmove : ∀ o, L.link id = some o → o.bind L.slots = none) :
    ({ L with link := Function.update L.link id none, records := n } : Ledger).linksSafe := by
  intro j i
  have hj := h j i
  have hnone : ∀ o, L.link id = some o → o = none := fun o ho => h.pending_none ho (hmove o ho)
  change Function.update L.link id _ j = _ ↔ (L.slots i).map Move.piece = some j
  grind [Function.update_apply]

theorem linksSafe.change {L' : Ledger} (hchange : Change L L') (h : L.linksSafe) : L'.linksSafe := by
  cases hchange with
  | register id hnew => exact h.register hnew
  | free id n _ hmove => exact h.free hmove
  | leave i m hm => exact h.leave hm
  | merge i m k src d hm => exact h.putMove hm rfl
  | enter i m o _ hi _ ho hnone => exact h.enter hi ho hnone
  | requeue i m g hm => exact (h.putMove (n := { m with progress := .queued }) hm rfl).congr rfl rfl
  | grant i m g x _ hm => exact (h.putMove (n := { m with progress := .granted g }) hm rfl).congr rfl rfl
  | lift i m g t flag hm => exact h.putMove hm rfl
  | finish i m g onto hm => exact (h.leave hm).congr rfl rfl
  | _ => exact h.congr rfl rfl

theorem linksSafe_kept : Ledger.Kept linksSafe where
  change hchange h := h.change hchange
  bedSet _ _ h := h.congr rfl rfl
  powerOn roles pending := fun id i => by simp [Ledger.powerOn]
  queue _ h := h.congr rfl rfl

/-! ### Holding cranes -/

/-- The crane that a slot's move is granted to. -/
def holder (o : Option Move) : Option CraneId := (o.bind Move.grant?).map Grant.crane

/-- A crane holds a slot exactly when the slot's move is granted to it (R158). -/
def holdingSafe (L : Ledger) : Prop := ∀ k i, L.held k = some i ↔ holder (L.slots i) = some k

theorem holdingSafe.congr (h : L.holdingSafe) {L' : Ledger} (hheld : L'.held = L.held)
    (hslots : L'.slots = L.slots) : L'.holdingSafe := fun k i => by
  rw [hheld, hslots]
  exact h k i

/-- A write of a slot whose holder stays. -/
theorem holdingSafe.putMove (h : L.holdingSafe) {i : SlotId} {o : Option Move}
    (ho : holder o = holder (L.slots i)) : (L.putMove i o).holdingSafe := by
  intro k j
  change _ ↔ holder (Function.update L.slots i o j) = some k
  by_cases hj : j = i
  · subst hj
    simpa [ho] using h k j
  · simpa [hj] using h k j

/-- A granted move's slot and its crane are freed together. -/
theorem holdingSafe.unhold (h : L.holdingSafe) {i : SlotId} {k : CraneId} {o : Option Move}
    (hk : holder (L.slots i) = some k) (ho : holder o = none) :
    ((L.putMove i o).hold k none).holdingSafe := by
  intro c j
  have hc := h c j
  have hi := h k i
  change Function.update L.held k none c = _ ↔ holder (Function.update L.slots i o j) = _
  grind [Function.update_apply]

/-- A move without a holder and an IDLE crane are bound together. -/
theorem holdingSafe.bind (h : L.holdingSafe) {i : SlotId} {k : CraneId} {o : Option Move}
    (hi : holder (L.slots i) = none) (hk : L.held k = none) (ho : holder o = some k) :
    ((L.putMove i o).hold k (some i)).holdingSafe := by
  intro c j
  have hc := h c j
  have hj := h k j
  change Function.update L.held k (some i) c = _ ↔ holder (Function.update L.slots i o j) = _
  grind [Function.update_apply]

theorem holder_of_grant {o : Option Move} {m : Move} {g : Grant} (ho : o = some m) (hg : m.grant? = some g) :
    holder o = some g.crane := by
  subst ho
  exact congrArg (Option.map Grant.crane) hg

theorem holder_queued {m : Move} (hq : m.progress = .queued) : holder (some m) = none := by
  simp [holder, Move.grant?, hq]

theorem holdingSafe.change {L' : Ledger} (hchange : Change L L') (h : L.holdingSafe) : L'.holdingSafe := by
  cases hchange with
  | leave i m hm hq =>
    exact (h.putMove (o := none) (by rw [hm, holder_queued hq]; rfl)).congr rfl rfl
  | merge i m k src d hm hq =>
    exact h.putMove (by rw [hm, holder_queued hq]; exact holder_queued hq)
  | enter i m o _ hi hq =>
    exact (h.putMove (o := some m) (by rw [hi, holder_queued hq]; rfl)).congr rfl rfl
  | requeue i m g hm hg =>
    have hgrant : m.grant? = some g := by simp [Move.grant?, hg]
    exact (h.unhold (o := some { m with progress := .queued }) (holder_of_grant hm hgrant)
      (holder_queued rfl)).congr rfl rfl
  | grant i m g x _ hm hq hidle =>
    exact (h.bind (o := some { m with progress := .granted g }) (by rw [hm, holder_queued hq]) hidle
      rfl).congr rfl rfl
  | lift i m g t flag hm hg => exact h.putMove (by rw [holder_of_grant hm hg]; rfl)
  | finish i m g onto hm hg => exact (h.unhold (o := none) (holder_of_grant hm hg) rfl).congr rfl rfl
  | _ => exact h.congr rfl rfl

theorem holdingSafe_kept : Ledger.Kept holdingSafe where
  change hchange h := h.change hchange
  bedSet _ _ h := h.congr rfl rfl
  powerOn roles pending := fun k i => by simp [Ledger.powerOn, holder]
  queue _ h := h.congr rfl rfl

end Ledger

/-! ### The books of a state -/

theorem State.linksSafe_iff (s : State) : s.linksSafe ↔ s.ledger.linksSafe := by
  constructor
  · rintro ⟨hregistered, hnames⟩ id i
    change (s.piece id).map Piece.move = some (some i) ↔ (s.move i).map Move.piece = some id
    constructor
    · intro h
      obtain ⟨x, hx, hmove⟩ := Option.map_eq_some_iff.mp h
      obtain ⟨m, hm, hid⟩ := (hnames id x i hx).mp hmove
      simp [hm, hid]
    · intro h
      obtain ⟨m, hm, rfl⟩ := Option.map_eq_some_iff.mp h
      obtain ⟨x, hx⟩ := Option.isSome_iff_exists.mp (hregistered i m hm)
      simp [hx, (hnames m.piece x i hx).mpr ⟨m, hm, rfl⟩]
  · intro h
    refine ⟨fun i m hm => ?_, fun id x i hx => ?_⟩
    · have hlink := (h m.piece i).mpr (congrArg (Option.map Move.piece) hm)
      obtain ⟨x, hx, -⟩ := Option.map_eq_some_iff.mp hlink
      exact Option.isSome_of_eq_some hx
    · have hlink : s.ledger.link id = some x.move := congrArg (Option.map Piece.move) hx
      have hid := h id i
      rw [hlink, Option.some_inj] at hid
      exact hid.trans Option.map_eq_some_iff

theorem State.holdingSafe_iff (s : State) : s.holdingSafe ↔ s.ledger.holdingSafe := by
  have hholder : ∀ i k, Ledger.holder (s.move i) = some k ↔
      ∃ m g, s.move i = some m ∧ m.grant? = some g ∧ g.crane = k := fun i k => by
    simp [Ledger.holder, Option.bind_eq_some_iff]
  have hheld : ∀ k i, s.ledger.held k = some i ↔ ∃ h, (s.crane k).held = some h ∧ h.slot = i :=
    fun k i => Option.map_eq_some_iff
  constructor
  · rintro ⟨hslot, hcrane⟩ k i
    rw [hheld]
    refine Iff.trans ?_ (hholder i k).symm
    constructor
    · rintro ⟨h, hh, rfl⟩
      exact hslot k h hh
    · rintro ⟨m, g, hm, hg, rfl⟩
      exact hcrane i m g hm hg
  · intro hsafe
    refine ⟨fun k h hh => ?_, fun i m g hm hg => ?_⟩
    · exact (hholder h.slot k).mp ((hsafe k h.slot).mp ((hheld k h.slot).mpr ⟨h, hh, rfl⟩))
    · exact (hheld g.crane i).mp ((hsafe g.crane i).mpr (Ledger.holder_of_grant hm hg))

/-- Settles O57: the credits, the links and the holding cranes are kept predicates of the ledger. -/
theorem everyStepKeepsTheMoveBooks : Obligations.EveryStepKeepsTheMoveBooks := by
  unfold Obligations.EveryStepKeepsTheMoveBooks
  intro s t ht
  simp only [State.creditSafe_iff, State.linksSafe_iff, State.holdingSafe_iff]
  exact ⟨step_keeps Ledger.creditSafe_kept ht, step_keeps Ledger.linksSafe_kept ht,
    step_keeps Ledger.holdingSafe_kept ht⟩

end Sys2Proof.Machine
end

section
/-! The stacks within their tiers and the captured spans apart, kept by every entry (O58). -/

namespace Sys2Proof.Machine

namespace Ledger

variable {L : Ledger}

/-! ### Stacks within their tiers -/

theorem slotCount_eq_zero {slots : SlotId → Option Move} {pick : Move → Bool}
    (h : ∀ i, picked pick (slots i) = 0) : slotCount slots pick = 0 := by
  rw [slotCount]
  exact Finset.sum_eq_zero fun i _ => h i

/-- The granted moves bound for a stack. -/
def boundCount (L : Ledger) (i : StackId) : Nat := slotCount L.slots (Move.boundFor i)

theorem picked_boundFor_queued {i : StackId} {m : Move} (hq : m.progress = .queued) :
    picked (Move.boundFor i) (some m) = 0 := by
  simp [Move.boundFor, Move.grant?, hq]

theorem picked_boundFor_grant {i : StackId} {m : Move} {g : Grant} (hg : m.grant? = some g) :
    picked (Move.boundFor i) (some m) = if m.dest = i then 1 else 0 := by
  simp [Move.boundFor, hg]

/-- In LOADING the table is empty; a granted move's destination is defined; a stack counts the granted moves
bound for it, and has room for them (R12, R124). -/
structure stacksSafe (L : Ledger) : Prop where
  loading : L.ctl = .loading → ∀ i, L.slots i = none
  defined : ∀ i m g, L.slots i = some m → m.grant? = some g → (L.piles m.dest).isSome
  counts : ∀ i x, L.piles i = some x → x.incoming = L.boundCount i
  fits : ∀ i x, L.piles i = some x → x.height + x.incoming ≤ x.tierLimit

/-- The state of the table and the stacks stands, and RUNNING is not left. -/
theorem stacksSafe.congr (h : L.stacksSafe) {L' : Ledger} (hctl : L'.ctl = .loading → L.ctl = .loading)
    (hslots : L'.slots = L.slots) (hpiles : L'.piles = L.piles) : L'.stacksSafe where
  loading hloading := hslots ▸ h.loading (hctl hloading)
  defined := by rw [hslots, hpiles]; exact h.defined
  counts := by rw [hpiles]; intro i x hx; rw [boundCount, hslots]; exact h.counts i x hx
  fits := hpiles ▸ h.fits

/-- In RUNNING, a write of a slot that was not bound for a stack and is not after it. -/
theorem stacksSafe.putQueued (h : L.stacksSafe) {i : SlotId} {o : Option Move}
    (hrun : L.ctl = .running ∨ o = none ∨ (L.slots i).isSome)
    (hold : ∀ d, picked (Move.boundFor d) (L.slots i) = 0) (hnew : ∀ m, o = some m → m.grant? = none) :
    (L.putMove i o).stacksSafe := by
  have hpicked : ∀ d, picked (Move.boundFor d) o = 0 := fun d => by
    cases o with
    | none => rfl
    | some m => simp [Move.boundFor, hnew m rfl]
  refine ⟨fun hloading j => ?_, fun j m g hj hg => ?_, fun d x hx => ?_, h.fits⟩
  · change Function.update L.slots i o j = none
    have hslot := h.loading hloading
    have hi := hslot i
    by_cases hj : j = i
    · subst hj
      obtain hrun | rfl | hsome := hrun
      · exact absurd (hrun.symm.trans hloading) (by decide)
      · simp
      · simp [hi] at hsome
    · simpa [hj] using hslot j
  · change Function.update L.slots i o j = some m at hj
    by_cases hji : j = i
    · subst hji
      rw [Function.update_self] at hj
      simp [hnew m hj] at hg
    · rw [Function.update_of_ne hji] at hj
      exact h.defined j m g hj hg
  · exact (h.counts d x hx).trans (slotCount_update_same ((hpicked d).trans (hold d).symm)).symm

/-- A stack's pieces change within its tier limit. -/
theorem stacksSafe.putHeight (h : L.stacksSafe) {i : StackId} {x : StackLine} (hx : L.piles i = some x)
    {n : Nat} (hn : n + x.incoming ≤ x.tierLimit) :
    (L.putStack i (some { x with height := n })).stacksSafe := by
  refine ⟨h.loading, fun j m g hj hg => ?_, fun d y hy => ?_, fun d y hy => ?_⟩
  · have hdefined := h.defined j m g hj hg
    rw [putStack_piles, Function.update_apply]
    split <;> simp_all
  · rw [putStack_piles, Function.update_apply] at hy
    split at hy
    · next hd => cases hy; subst hd; exact h.counts d x hx
    · exact h.counts d y hy
  · rw [putStack_piles, Function.update_apply] at hy
    split at hy
    · cases hy; exact hn
    · exact h.fits d y hy

theorem stacksSafe.redefine (h : L.stacksSafe) {i : StackId} {o : Option StackLine}
    (ho : o = none ∨ ∃ n, 1 ≤ n ∧ o = some ⟨n, 0, 0⟩)
    (hfree : ∀ x, L.piles i = some x → x.incoming = 0 ∧ ∀ j m, L.slots j = some m → m.dest ≠ i) :
    (L.putStack i o).stacksSafe := by
  have hunbound : ∀ j m g, L.slots j = some m → m.grant? = some g → m.dest ≠ i := by
    intro j m g hj hg hdest
    obtain ⟨x, hx⟩ := Option.isSome_iff_exists.mp (h.defined j m g hj hg)
    exact (hfree x (hdest ▸ hx)).2 j m hj hdest
  have hcount : L.boundCount i = 0 := slotCount_eq_zero fun j => by
    cases hj : L.slots j with
    | none => rfl
    | some m =>
      cases hg : m.grant? with
      | none => simp [Move.boundFor, hg]
      | some g => simp [picked_boundFor_grant hg, hunbound j m g hj hg]
  refine ⟨h.loading, fun j m g hj hg => ?_, fun d y hy => ?_, fun d y hy => ?_⟩
  · simpa [hunbound j m g hj hg] using h.defined j m g hj hg
  all_goals rw [putStack_piles, Function.update_apply] at hy; split at hy
  · next hd =>
    subst hd
    obtain rfl | ⟨n, -, rfl⟩ := ho <;> cases hy
    exact hcount.symm
  · exact h.counts d y hy
  · obtain rfl | ⟨n, -, rfl⟩ := ho <;> cases hy
    exact Nat.zero_le n
  · exact h.fits d y hy

/-- A granted move gives its place on its destination up. -/
theorem stacksSafe.release (h : L.stacksSafe) {i : SlotId} {m : Move} {g : Grant} {o : Option Move}
    (hm : L.slots i = some m) (hg : m.grant? = some g) (hnew : ∀ n, o = some n → n.grant? = none) :
    ((L.putMove i o).modStack m.dest .fewer).stacksSafe := by
  have hpicked : ∀ d, picked (Move.boundFor d) o = 0 := fun d => by
    cases o with
    | none => rfl
    | some n => simp [Move.boundFor, hnew n rfl]
  have hcount : ∀ d, slotCount (Function.update L.slots i o) (Move.boundFor d) +
      (if m.dest = d then 1 else 0) = L.boundCount d := fun d => by
    have hupdate := slotCount_update L.slots (Move.boundFor d) i o
    rw [hpicked, hm, picked_boundFor_grant hg] at hupdate
    rw [boundCount]
    omega
  have hpile : ∀ d y, (((L.putMove i o).modStack m.dest .fewer).piles d) = some y →
      ∃ x, L.piles d = some x ∧ y = if m.dest = d then x.fewer else x := fun d y hy => by
    rw [modStack_piles, putMove_piles, Function.update_apply] at hy
    split at hy
    · next hd =>
      obtain ⟨x, hx, rfl⟩ := Option.map_eq_some_iff.mp hy
      exact ⟨x, hd ▸ hx, (if_pos hd.symm).symm⟩
    · next hd => exact ⟨y, hy, (if_neg (Ne.symm hd)).symm⟩
  refine ⟨fun hloading j => ?_, fun j n f hj hf => ?_, fun d y hy => ?_, fun d y hy => ?_⟩
  · rw [h.loading hloading i] at hm
    cases hm
  · change Function.update L.slots i o j = some n at hj
    by_cases hji : j = i
    · subst hji
      rw [Function.update_self] at hj
      simp [hnew n hj] at hf
    · rw [Function.update_of_ne hji] at hj
      have hdefined := h.defined j n f hj hf
      rw [modStack_piles, putMove_piles, Function.update_apply]
      split <;> simp_all
  · obtain ⟨x, hx, rfl⟩ := hpile d y hy
    have hx' := h.counts d x hx
    have hd := hcount d
    change _ = slotCount (Function.update L.slots i o) (Move.boundFor d)
    split_ifs at hd ⊢
    · simp only [StackLine.fewer]
      omega
    · omega
  · obtain ⟨x, hx, rfl⟩ := hpile d y hy
    have hx' := h.fits d x hx
    split_ifs
    · simp only [StackLine.fewer]
      omega
    · exact hx'

/-- A move takes a place on its destination, which has room (R124, R164). -/
theorem stacksSafe.bind (h : L.stacksSafe) {i : SlotId} {m n : Move} {g : Grant} {x : StackLine}
    (hrun : L.ctl = .running) (hold : ∀ d, picked (Move.boundFor d) (L.slots i) = 0)
    (hn : n.grant? = some g) (hdest : n.dest = m.dest) (hx : L.piles m.dest = some x) (hroom : x.hasRoom) :
    ((L.putMove i (some n)).modStack m.dest .more).stacksSafe := by
  have hcount : ∀ d, slotCount (Function.update L.slots i (some n)) (Move.boundFor d) =
      L.boundCount d + if m.dest = d then 1 else 0 := fun d => by
    have hupdate := slotCount_update L.slots (Move.boundFor d) i (some n)
    rw [hold, picked_boundFor_grant hn, hdest] at hupdate
    rw [boundCount]
    omega
  have hpile : ∀ d y, ((L.putMove i (some n)).modStack m.dest .more).piles d = some y →
      m.dest = d ∧ y = x.more ∨ m.dest ≠ d ∧ L.piles d = some y := fun d y hy => by
    rw [modStack_piles, putMove_piles, Function.update_apply] at hy
    split at hy
    · next hd =>
      rw [hx] at hy
      exact .inl ⟨hd.symm, (Option.some_inj.mp hy).symm⟩
    · next hd => exact .inr ⟨Ne.symm hd, hy⟩
  refine ⟨fun hloading => absurd (hrun.symm.trans hloading) (by decide), fun j q f hj hf => ?_,
    fun d y hy => ?_, fun d y hy => ?_⟩
  · change Function.update L.slots i (some n) j = some q at hj
    rw [modStack_piles, putMove_piles, Function.update_apply]
    by_cases hji : j = i
    · subst hji
      rw [Function.update_self] at hj
      cases hj
      simp [hdest, hx]
    · rw [Function.update_of_ne hji] at hj
      have hdefined := h.defined j q f hj hf
      split <;> simp_all
  · change _ = slotCount (Function.update L.slots i (some n)) (Move.boundFor d)
    rw [hcount d]
    obtain ⟨rfl, rfl⟩ | ⟨hd, hy⟩ := hpile d y hy
    · simp [StackLine.more, h.counts _ x hx]
    · simp [hd, h.counts d y hy]
  · obtain ⟨rfl, rfl⟩ | ⟨-, hy⟩ := hpile d y hy
    · simp only [StackLine.hasRoom] at hroom
      simp only [StackLine.more]
      omega
    · exact h.fits d y hy

/-- A lifted move ends on its destination or on a stack with room. -/
theorem stacksSafe.finish (h : L.stacksSafe) {i : SlotId} {m : Move} {g : Grant} {onto : StackId}
    (hm : L.slots i = some m) (hg : m.grant? = some g)
    (honto : onto = m.dest ∨ ∃ x, L.piles onto = some x ∧ x.hasRoom) :
    (L.finish i m g.crane onto).stacksSafe := by
  have hfreed := h.release (o := none) hm hg (by simp)
  have hcount := h.counts m.dest
  have hbound : 1 ≤ L.boundCount m.dest := by
    have hupdate := slotCount_update L.slots (Move.boundFor m.dest) i none
    rw [hm, picked_boundFor_grant hg, if_pos rfl] at hupdate
    exact (show 1 ≤ slotCount L.slots (Move.boundFor m.dest) from by simp at hupdate; omega)
  cases hy : ((L.putMove i none).modStack m.dest .fewer).piles onto with
  | none =>
    refine hfreed.congr id rfl (funext fun d => ?_)
    change (((L.modStack m.dest .fewer).modStack onto .taller).piles d) = _
    rw [modStack_piles, Function.update_apply]
    change (L.modStack m.dest .fewer).piles onto = none at hy
    split
    · next hd => subst hd; rw [hy]; exact hy.symm
    · rfl
  | some y =>
    have hroom : y.height + 1 + y.incoming ≤ y.tierLimit := by
      rw [modStack_piles, putMove_piles, Function.update_apply] at hy
      split at hy
      · next hd =>
        obtain ⟨x, hx, rfl⟩ := Option.map_eq_some_iff.mp hy
        have hfits := h.fits _ x hx
        have := hcount x hx
        simp only [StackLine.fewer]
        omega
      · next hd =>
        obtain rfl | ⟨x, hx, hroom⟩ := honto
        · exact absurd rfl hd
        · cases hy.symm.trans hx
          simp only [StackLine.hasRoom] at hroom
          omega
    refine (hfreed.putHeight hy hroom).congr id rfl (funext fun d => ?_)
    change (((L.modStack m.dest .fewer).modStack onto .taller).piles d) = _
    change (L.modStack m.dest .fewer).piles onto = some y at hy
    rw [modStack_piles, hy]
    rfl

theorem stacksSafe.change {L' : Ledger} (hchange : Change L L') (h : L.stacksSafe) : L'.stacksSafe := by
  cases hchange with
  | commit => exact h.congr (fun hloading => by cases hloading) rfl rfl
  | redefine i o ho hfree => exact h.redefine ho hfree
  | shrink i x n hx hn => exact h.putHeight hx (by have := h.fits i x hx; omega)
  | restore i x hctl hx hroom =>
    have hcount : x.incoming = 0 := by
      rw [h.counts i x hx]
      exact slotCount_eq_zero fun j => by rw [h.loading hctl j]; rfl
    exact h.putHeight hx (n := x.height + 1) (by omega)
  | leave i m hm hq =>
    exact (h.putQueued (i := i) (.inr (.inl rfl)) (fun d => by rw [hm, picked_boundFor_queued hq])
      (by simp)).congr id rfl rfl
  | merge i m k src d hm hq =>
    refine h.putQueued (.inr (.inr (by simp [hm]))) (fun d => by rw [hm, picked_boundFor_queued hq])
      fun n hn => ?_
    cases hn
    simp [Move.grant?, hq]
  | enter i m o hctl hi hq =>
    refine (h.putQueued (i := i) (o := some m) (.inl hctl) (fun d => by rw [hi]; rfl) fun n hn => ?_).congr
      id rfl rfl
    cases hn
    simp [Move.grant?, hq]
  | requeue i m g hm hg =>
    refine (h.release (g := g) (o := some { m with progress := .queued }) hm (by simp [Move.grant?, hg])
      fun n hn => ?_).congr id rfl rfl
    cases hn
    rfl
  | grant i m g x hctl hm hq _ hx hroom =>
    exact (h.bind (n := { m with progress := .granted g }) hctl
      (fun d => by rw [hm, picked_boundFor_queued hq]) rfl rfl hx hroom).congr id rfl rfl
  | lift i m g t flag hm hg =>
    refine ⟨fun hloading => ?_, fun j n f hj hf => ?_, fun d x hx => ?_, h.fits⟩
    · cases (h.loading hloading i).symm.trans hm
    · rw [putMove_slots, Function.update_apply] at hj
      split at hj
      · cases hj
        exact h.defined i m g hm hg
      · exact h.defined j n f hj hf
    · refine (h.counts d x hx).trans (slotCount_update_same ?_).symm
      rw [hm, picked_boundFor_grant hg]
      exact picked_boundFor_grant rfl
  | finish i m g onto hm hg honto => exact h.finish hm hg honto
  | _ => exact h.congr id rfl rfl

theorem stacksSafe_kept : Ledger.Kept stacksSafe where
  change hchange h := h.change hchange
  bedSet _ _ h := h.congr id rfl rfl
  powerOn roles pending := by
    constructor <;> simp [Ledger.powerOn]
  queue _ h := h.congr id rfl rfl

/-! ### Captured spans apart -/

/-- The grants of moves that different cranes hold have widened spans without a common bay (R162). -/
def spansSafe (L : Ledger) : Prop :=
  ∀ i j g h, (L.slots i).bind Move.grant? = some g → (L.slots j).bind Move.grant? = some h →
    g.crane ≠ h.crane →
    widenedMeet g.spanLow g.spanHigh g.clearance h.spanLow h.spanHigh h.clearance = false

/-- Every grant of the table afterwards stood in the slot before. -/
theorem spansSafe.mono (h : L.spansSafe) {L' : Ledger}
    (hgrants : ∀ i g, (L'.slots i).bind Move.grant? = some g → (L.slots i).bind Move.grant? = some g) :
    L'.spansSafe := fun i j g f hg hf => h i j g f (hgrants i g hg) (hgrants j f hf)

theorem spansSafe.putMove (h : L.spansSafe) {L' : Ledger} {i : SlotId} {o : Option Move}
    (hslots : L'.slots = Function.update L.slots i o)
    (ho : ∀ g, o.bind Move.grant? = some g → (L.slots i).bind Move.grant? = some g) : L'.spansSafe := by
  refine h.mono fun j g hg => ?_
  rw [hslots, Function.update_apply] at hg
  split at hg
  · next hj => subst hj; exact ho g hg
  · exact hg

/-- Two widened spans meet whichever is named first. -/
theorem widenedMeet_comm (lo1 hi1 c1 lo2 hi2 c2 : Nat) :
    widenedMeet lo1 hi1 c1 lo2 hi2 c2 = widenedMeet lo2 hi2 c2 lo1 hi1 c1 := by
  rw [widenedMeet, widenedMeet, spansMeet, spansMeet, max_comm, min_comm]

theorem spansSafe.bind (h : L.spansSafe) {L' : Ledger} {i : SlotId} {n : Move} {g : Grant}
    (hslots : L'.slots = Function.update L.slots i (some n)) (hn : n.grant? = some g)
    (hclear : ∀ j f, (L.slots j).bind Move.grant? = some f → f.crane ≠ g.crane →
      widenedMeet g.spanLow g.spanHigh g.clearance f.spanLow f.spanHigh f.clearance = false) :
    L'.spansSafe := by
  have hgrant : ∀ j f, (L'.slots j).bind Move.grant? = some f →
      f = g ∨ (L.slots j).bind Move.grant? = some f := fun j f hf => by
    rw [hslots, Function.update_apply] at hf
    split at hf
    · exact .inl (Option.some_inj.mp (hf.symm.trans hn))
    · exact .inr hf
  intro j k e f he hf hne
  obtain rfl | hj := hgrant j e he <;> obtain rfl | hk := hgrant k f hf
  · exact absurd rfl hne
  · exact hclear k f hk hne.symm
  · rw [widenedMeet_comm]
    exact hclear j e hj hne
  · exact h j k e f hj hk hne

theorem spansSafe.change {L' : Ledger} (hchange : Change L L') (h : L.spansSafe) : L'.spansSafe := by
  cases hchange with
  | leave i m => exact h.putMove (i := i) (o := none) rfl (by simp)
  | merge i m k src d hm hq => exact h.putMove rfl (by simp [Move.grant?, hq])
  | enter i m o _ _ hq => exact h.putMove (i := i) (o := some m) rfl (by simp [Move.grant?, hq])
  | requeue i m g =>
    exact h.putMove (i := i) (o := some { m with progress := .queued }) rfl (by simp [Move.grant?])
  | grant i m g x _ _ _ _ _ _ hclear =>
    refine h.bind (i := i) (n := { m with progress := .granted g }) rfl rfl fun j f hf hne => ?_
    obtain ⟨n, hn, hf⟩ := Option.bind_eq_some_iff.mp hf
    exact hclear j n f hn hf hne
  | lift i m g t flag hm hg =>
    exact h.putMove (i := i) (o := some { m with progress := .lifted g t flag }) rfl fun f hf => by
      rw [hm]
      exact hg.trans hf
  | finish i m => exact h.putMove (i := i) (o := none) rfl (by simp)
  | _ => exact h.mono fun _ _ hg => hg

theorem spansSafe_kept : Ledger.Kept spansSafe where
  change hchange h := h.change hchange
  bedSet _ _ h := h.mono fun _ _ hg => hg
  powerOn roles pending := fun i j g f hg => by simp [Ledger.powerOn] at hg
  queue _ h := h.mono fun _ _ hg => hg

end Ledger

/-! ### The stacks and spans of a state -/

theorem State.stacksSafe_iff (s : State) : s.stacksSafe ↔ s.ledger.stacksSafe := by
  have hcount : ∀ i, s.ledger.boundCount i = s.countMoves (Move.boundFor i) := fun i =>
    (s.countMoves_eq _).symm
  have hpile : ∀ i, s.ledger.piles i = (s.stack i).map Stack.line := fun _ => rfl
  constructor
  · rintro ⟨hloading, hdefined, hstack⟩
    refine ⟨hloading, fun i m g hm hg => ?_, fun i y hy => ?_, fun i y hy => ?_⟩
    · rw [hpile, Option.isSome_map]
      exact hdefined i m g hm hg
    all_goals obtain ⟨x, hx, rfl⟩ := Option.map_eq_some_iff.mp hy
    · exact (hstack i x hx).1.trans (hcount i).symm
    · exact (hstack i x hx).2
  · intro h
    refine ⟨h.loading, fun i m g hm hg => ?_, fun i x hx => ?_⟩
    · have hdefined := h.defined i m g hm hg
      rwa [hpile, Option.isSome_map] at hdefined
    · have hline : s.ledger.piles i = some x.line := congrArg (Option.map Stack.line) hx
      exact ⟨(h.counts i _ hline).trans (hcount i), h.fits i _ hline⟩

theorem State.spansSafe_iff (s : State) : s.spansSafe ↔ s.ledger.spansSafe := by
  constructor
  · intro h i j g f hg hf
    obtain ⟨m, hm, hg⟩ := Option.bind_eq_some_iff.mp hg
    obtain ⟨n, hn, hf⟩ := Option.bind_eq_some_iff.mp hf
    exact h i j m n g f hm hn hg hf
  · intro h i j m n g f hm hn hg hf
    exact h i j g f (Option.bind_eq_some_iff.mpr ⟨m, hm, hg⟩) (Option.bind_eq_some_iff.mpr ⟨n, hn, hf⟩)

/-- Settles O58: both are kept predicates of the ledger. -/
theorem everyStepKeepsStacksAndSpansApart : Obligations.EveryStepKeepsStacksAndSpansApart := by
  unfold Obligations.EveryStepKeepsStacksAndSpansApart
  intro s t ht
  simp only [State.stacksSafe_iff, State.spansSafe_iff]
  exact ⟨step_keeps Ledger.stacksSafe_kept ht, step_keeps Ledger.spansSafe_kept ht⟩

end Sys2Proof.Machine
end

section
/-! The stored figures, the maturity of the beds and the reset state (O59, O22, O60). -/

namespace Sys2Proof.Machine

/-! ### One configuration value stored -/

/-- A credit limit stored is read back. -/
theorem Settings.value?_store_credit {c : Settings} {port : Nat} {x : Int}
    (hknown : (c.value? 15 port).isSome) (hx : 0 ≤ x) : (c.store 15 port x).value? 15 port = some x := by
  obtain ⟨p, hp⟩ : ∃ p, slot? 4 port = some p := by
    rw [Settings.value?, Option.isSome_map] at hknown
    exact Option.isSome_iff_exists.mp hknown
  simp [Settings.value?, Settings.store, hp, hx]

/-- The value that SET_CONFIG stores in a known row, at least the row's least value, is read back. -/
theorem Settings.value?_store_same {c : Settings} {row port : Nat} {x : Int}
    (hknown : (c.value? row port).isSome) (hlow : (settingRange row).1 ≤ x) :
    (c.store row port x).value? row port = some x := by
  by_cases hrow : row = 15
  · subst hrow
    exact Settings.value?_store_credit hknown (by simp only [settingRange] at hlow; omega)
  · unfold Settings.value? at hknown ⊢
    unfold settingRange at hlow
    split at hknown
    case h_16 => exact absurd rfl hrow
    case h_17 => cases hknown
    all_goals simp_all [Settings.store]
    all_goals omega

/-- Every other value stays. -/
theorem Settings.value?_store_other {c : Settings} {row port r q : Nat} {x : Int}
    (h : r ≠ row ∨ row = 15 ∧ q ≠ port) : (c.store row port x).value? r q = c.value? r q := by
  unfold Settings.store
  split
  case h_16 =>
    split
    · rfl
    · next p hp =>
      unfold Settings.value?
      split
      case h_16 =>
        have hq : q ≠ port := (h.resolve_left fun hr => hr rfl).2
        refine Option.map_congr fun d hd => ?_
        have hne : p ≠ d := fun hpd => hq ((slot?_some.mp hd).symm.trans (hpd ▸ slot?_some.mp hp))
        exact congrArg Int.ofNat ((vector_set_get c.creditLimit p d x.toNat).trans (if_neg hne))
      all_goals rfl
  case h_17 => rfl
  all_goals
    have hr := h.resolve_right fun hcredit => absurd hcredit.1 (by decide)
    unfold Settings.value?
    split <;> first | rfl | exact absurd rfl hr

/-- A value other than a frost threshold leaves the pair. -/
theorem Settings.store_frost {c : Settings} {row port : Nat} {x : Int} (h : ¬ (row = 6 ∨ row = 7)) :
    (c.store row port x).frostOn = c.frostOn ∧ (c.store row port x).frostOff = c.frostOff := by
  unfold Settings.store
  split
  case h_7 | h_8 => simp at h
  case h_16 => split <;> exact ⟨rfl, rfl⟩
  all_goals exact ⟨rfl, rfl⟩

/-- Only a credit limit is judged by its port (R11). -/
theorem Settings.value?_port {row : Nat} (h : row ≠ 15) (c : Settings) (port q : Nat) :
    c.value? row q = c.value? row port := by
  unfold Settings.value?
  split
  case h_16 => exact absurd rfl h
  all_goals rfl

/-- The ceiling is above the hold temperature (R59). -/
def CeilingAboveHold (q : Profile) : Prop := q.holdTemp < q.ceiling

/-- No turn of a bed brings a profile that is not legal. -/
theorem BedTurn.ceilingAboveHold {ctl : Ctl} {stored : Profile} {o o' : Option BedLine}
    (h : BedTurn ctl stored o o') (hstored : CeilingAboveHold stored)
    (hold : ∀ x q, o = some x → x.working = some q → CeilingAboveHold q) :
    ∀ x q, o' = some x → x.working = some q → CeilingAboveHold q := by
  intro y q hy hq
  cases h with
  | stays => exact hold y q hy hq
  | removed => cases hy
  | emptied => cases hy; cases hq
  | poured x m => cases hy; cases hq; exact hstored
  | restored _ p m c _ hprofile => cases hy; cases hq; exact hprofile
  | _ => cases hy; exact hold _ q rfl hq

/-! ### Settings in their ranges -/

namespace Ledger

variable {L : Ledger}

/-- Every configuration value is in its range, and frost_off is above frost_on (R11). -/
def settingsSafe (L : Ledger) : Prop :=
  (∀ row port v, L.settings.value? row port = some v →
    (settingRange row).1 ≤ v ∧ v ≤ (settingRange row).2) ∧
  L.settings.frostOn < L.settings.frostOff

theorem settingsSafe.setting (h : L.settingsSafe) {row port : Nat} {x : Int}
    (hknown : (L.settings.value? row port).isSome) (hlow : (settingRange row).1 ≤ x)
    (hhigh : x ≤ (settingRange row).2)
    (hfrost : row = 6 ∨ row = 7 → (L.settings.store row port x).frostPair = true) :
    ({ L with settings := L.settings.store row port x } : Ledger).settingsSafe := by
  refine ⟨fun r q v hv => ?_, ?_⟩
  · by_cases hother : r ≠ row ∨ row = 15 ∧ q ≠ port
    · rw [Settings.value?_store_other hother] at hv
      exact h.1 r q v hv
    · obtain rfl : r = row := by grind
      have hport : r ≠ 15 ∨ q = port := by grind
      have hsame := Settings.value?_store_same hknown hlow
      obtain hr | rfl := hport
      · rw [Settings.value?_port hr _ port q, hsame] at hv
        exact Option.some_inj.mp hv ▸ ⟨hlow, hhigh⟩
      · exact Option.some_inj.mp (hsame.symm.trans hv) ▸ ⟨hlow, hhigh⟩
  · by_cases hrow : row = 6 ∨ row = 7
    · exact of_decide_eq_true (hfrost hrow)
    · obtain ⟨hon, hoff⟩ := Settings.store_frost (c := L.settings) (port := port) (x := x) hrow
      rw [hon, hoff]
      exact h.2

theorem settingsSafe.congr (h : L.settingsSafe) {L' : Ledger} (hsettings : L'.settings = L.settings) :
    L'.settingsSafe := by
  rw [settingsSafe, hsettings]
  exact h

theorem settingsSafe.change {L' : Ledger} (hchange : Change L L') (h : L.settingsSafe) : L'.settingsSafe := by
  cases hchange with
  | setting row port x hknown hlow hhigh hfrost => exact h.setting hknown hlow hhigh hfrost
  | _ => exact h.congr (by simp)

/-- The default of every configuration value is in its range. -/
theorem defaultSettings_ranges (row port : Nat) (v : Int) (hv : defaultSettings.value? row port = some v) :
    (settingRange row).1 ≤ v ∧ v ≤ (settingRange row).2 := by
  unfold Settings.value? at hv
  split at hv
  case h_16 =>
    obtain ⟨p, -, rfl⟩ := Option.map_eq_some_iff.mp hv
    simp [defaultSettings, settingRange]
  case h_17 => cases hv
  all_goals
    cases hv
    decide

theorem settingsSafe_kept : Ledger.Kept settingsSafe where
  change hchange h := h.change hchange
  bedSet _ _ h := h
  powerOn _ _ := ⟨defaultSettings_ranges, show defaultSettings.frostOn < defaultSettings.frostOff by decide⟩
  queue _ h := h

/-! ### Profiles with the ceiling above the hold temperature -/

/-- Every profile held, stored or working, is legal (R59). -/
def profilesSafe (L : Ledger) : Prop :=
  (∀ b : BedId, CeilingAboveHold L.profiles[b]) ∧ ∀ b x q, L.beds b = some x → x.working = some q → CeilingAboveHold q

theorem profilesSafe.congr (h : L.profilesSafe) {L' : Ledger} (hprofiles : L'.profiles = L.profiles)
    (hbeds : L'.beds = L.beds) : L'.profilesSafe := by
  rw [profilesSafe, hprofiles, hbeds]
  exact h

theorem profilesSafe.change {L' : Ledger} (hchange : Change L L') (h : L.profilesSafe) : L'.profilesSafe := by
  cases hchange with
  | profiles v hv =>
    refine ⟨fun b => ?_, h.2⟩
    change CeilingAboveHold v[b]
    obtain hb | hb := hv b
    · rw [hb]
      exact h.1 b
    · exact hb
  | beds lines hturn => exact ⟨h.1, fun b => (hturn b).ceilingAboveHold (h.1 b) (h.2 b)⟩
  | _ => exact h.congr (by simp) (funext fun _ => by simp)

theorem profilesSafe_kept : Ledger.Kept profilesSafe where
  change hchange h := h.change hchange
  bedSet {L b x} hx _ h := by
    refine ⟨h.1, fun c y q hy hq => ?_⟩
    change Function.update L.beds b _ c = some y at hy
    rw [Function.update_apply] at hy
    split at hy
    · cases hy
      exact h.2 b x q hx hq
    · exact h.2 c y q hy hq
  powerOn _ _ := ⟨fun b => by simp [Ledger.powerOn, CeilingAboveHold, defaultProfile], by simp [Ledger.powerOn]⟩
  queue _ h := h

/-! ### The registry within its capacity -/

/-- At most 1024 pieces are registered (R121). -/
def recordsSafe (L : Ledger) : Prop := L.records ≤ maxPieces

theorem recordsSafe.congr (h : L.recordsSafe) {L' : Ledger} (hrecords : L'.records = L.records) :
    L'.recordsSafe := by
  rw [recordsSafe, hrecords]
  exact h

theorem recordsSafe.change {L' : Ledger} (hchange : Change L L') (h : L.recordsSafe) : L'.recordsSafe := by
  cases hchange with
  | register id _ hroom => exact hroom
  | free id n hn => exact hn.trans h
  | _ => exact h.congr (by simp)

theorem recordsSafe_kept : Ledger.Kept recordsSafe where
  change hchange h := h.change hchange
  bedSet _ _ h := h
  powerOn _ _ := Nat.zero_le _
  queue _ h := h

/-! ### The scan timer in its range -/

/-- The minutes known to remain lie between 1 and the interval, at most 15 (R24, R38). -/
def timerSafe (L : Ledger) : Prop :=
  1 ≤ L.remaining ∧ L.remaining ≤ L.countdown ∧ L.countdown ≤ 15

theorem timerSafe.congr (h : L.timerSafe) {L' : Ledger} (hremaining : L'.remaining = L.remaining)
    (hcountdown : L'.countdown = L.countdown) : L'.timerSafe := by
  rw [timerSafe, hremaining, hcountdown]
  exact h

theorem timerSafe.change {L' : Ledger} (hchange : Change L L') (hsettings : L.settingsSafe)
    (h : L.timerSafe) : L'.timerSafe := by
  cases hchange with
  | timer =>
    obtain ⟨hlow, hhigh⟩ := hsettings.1 0 0 L.settings.scanInterval rfl
    simp only [settingRange] at hlow hhigh
    refine ⟨?_, le_rfl, ?_⟩
    · change 1 ≤ L.settings.scanInterval
      omega
    · change L.settings.scanInterval ≤ 15
      omega
  | remaining n hn =>
    obtain ⟨hpos, hle⟩ := hn h.1
    exact ⟨hpos, hle.trans h.2.1, h.2.2⟩
  | _ => exact h.congr (by simp) (by simp)

theorem timerSafe_kept : Ledger.Kept fun L => L.settingsSafe ∧ L.timerSafe where
  change hchange h := ⟨h.1.change hchange, h.2.change hchange h.1⟩
  bedSet _ _ h := h
  powerOn roles pending := ⟨settingsSafe_kept.powerOn roles pending, by simp [timerSafe, Ledger.powerOn]⟩
  queue _ h := h

end Ledger

theorem State.profilesSafe_iff (s : State) : s.profilesSafe ↔ s.ledger.profilesSafe := by
  refine and_congr (forall_congr' fun _ => Iff.rfl) (forall_congr' fun b => ?_)
  constructor
  · intro h y q hy hq
    obtain ⟨x, hx, rfl⟩ := Option.map_eq_some_iff.mp hy
    exact h x q hx hq
  · intro h x q hx hq
    exact h x.line q (congrArg (Option.map Bed.line) hx) hq

/-- Settles O59: each is a kept predicate of the ledger, the timer's together with the settings'. -/
theorem everyStepKeepsTheStoredFigures : Obligations.EveryStepKeepsTheStoredFigures := by
  unfold Obligations.EveryStepKeepsTheStoredFigures
  intro s t ht
  simp only [State.profilesSafe_iff]
  exact ⟨step_keeps Ledger.settingsSafe_kept ht, step_keeps Ledger.profilesSafe_kept ht,
    step_keeps Ledger.recordsSafe_kept ht, fun h => (step_keeps Ledger.timerSafe_kept ht h).2⟩

/-! ### The maturity of a bed -/

/-- The count is within its range, and a bed before its cure holds no maturity (R41, R42). -/
def BedLine.maturitySafe (x : BedLine) : Prop :=
  x.maturity.count ≤ maxCount ∧ (x.state.accounted = false → x.maturity = .none)

/-- What a bed slot holds afterwards is in EMPTY, or a bed that was not in EMPTY before and whose count has not
fallen (R53). -/
def Grows (o o' : Option BedLine) : Prop :=
  ∀ y, o' = some y → y.state = .empty ∨
    ∃ x, o = some x ∧ x.state ≠ .empty ∧ x.maturity.count ≤ y.maturity.count

theorem Grows.refl (o : Option BedLine) : Grows o o := fun y hy =>
  or_iff_not_imp_left.mpr fun hempty => ⟨y, hy, hempty, le_rfl⟩

theorem Grows.trans {o o' o'' : Option BedLine} (h : Grows o o') (h' : Grows o' o'') : Grows o o'' := by
  intro z hz
  refine (h' z hz).imp_right fun ⟨y, hy, hne, hle⟩ => ?_
  obtain ⟨x, hx, hne', hle'⟩ := (h y hy).resolve_left hne
  exact ⟨x, hx, hne', hle'.trans hle⟩

theorem CycleState.ne_empty_of_accounted {c : CycleState} (h : c.accounted = true) : c ≠ .empty := by
  rintro rfl
  cases h

/-- A turn of a bed keeps its maturity record legal. -/
theorem BedTurn.maturitySafe {ctl : Ctl} {stored : Profile} {o o' : Option BedLine}
    (h : BedTurn ctl stored o o') (hold : ∀ x, o = some x → x.maturitySafe) :
    ∀ y, o' = some y → y.maturitySafe := by
  intro y hy
  cases h with
  | stays => exact hold y hy
  | removed => cases hy
  | emptied => cases hy; exact ⟨Nat.zero_le _, fun _ => rfl⟩
  | cancelled x hset =>
    cases hy
    exact ⟨(hold x rfl).1, fun _ => (hold x rfl).2 (by rw [hset]; rfl)⟩
  | casting x hset =>
    cases hy
    exact ⟨(hold x rfl).1, fun _ => (hold x rfl).2 (by rw [hset]; rfl)⟩
  | poured x m => cases hy; exact ⟨Nat.zero_le _, fun h => by cases h⟩
  | accounted x m hcures hgrows =>
    cases hy
    exact ⟨(hgrows (hold x rfl).1).2, fun h => by rw [hcures] at h; cases h⟩
  | advanced x c hcures hcures' =>
    cases hy
    exact ⟨(hold x rfl).1, fun h => by rw [hcures'] at h; cases h⟩
  | restored _ q m c _ _ hcures hmax =>
    cases hy
    exact ⟨hmax, fun h => by rw [hcures] at h; cases h⟩

/-- In RUNNING no turn of a bed lowers its count, but to leave it EMPTY. -/
theorem BedTurn.grows {ctl : Ctl} {stored : Profile} {o o' : Option BedLine}
    (h : BedTurn ctl stored o o') (hrun : ctl = .running) (hold : ∀ x, o = some x → x.maturitySafe) :
    Grows o o' := by
  cases h with
  | stays => exact .refl o
  | removed => exact fun y hy => by cases hy
  | emptied => exact fun y hy => .inl (by cases hy; rfl)
  | cancelled x hset => exact fun y hy => .inl (by cases hy; rfl)
  | casting x hset =>
    rintro y ⟨⟩
    exact .inr ⟨x, rfl, by rw [hset]; decide, le_rfl⟩
  | poured x m hcasting =>
    rintro y ⟨⟩
    have hnone := (hold x rfl).2 (by rw [hcasting]; rfl)
    exact .inr ⟨x, rfl, by rw [hcasting]; decide, by rw [hnone]; exact le_rfl⟩
  | accounted x m hcures hgrows =>
    rintro y ⟨⟩
    exact .inr ⟨x, rfl, CycleState.ne_empty_of_accounted hcures, (hgrows (hold x rfl).1).1⟩
  | advanced x c hcures =>
    rintro y ⟨⟩
    exact .inr ⟨x, rfl, CycleState.ne_empty_of_accounted hcures, le_rfl⟩
  | restored _ q m c hctl => exact absurd (hrun.symm.trans hctl) (by decide)

namespace Ledger

variable {L : Ledger}

def maturitySafe (L : Ledger) : Prop := ∀ b x, L.beds b = some x → x.maturitySafe

theorem maturitySafe.congr (h : L.maturitySafe) {L' : Ledger} (hbeds : L'.beds = L.beds) :
    L'.maturitySafe := by
  rw [maturitySafe, hbeds]
  exact h

theorem maturitySafe.change {L' : Ledger} (hchange : Change L L') (h : L.maturitySafe) : L'.maturitySafe := by
  cases hchange with
  | beds lines hturn => exact fun b => (hturn b).maturitySafe (h b)
  | _ => exact h.congr (funext fun _ => by simp)

theorem maturitySafe_kept : Ledger.Kept maturitySafe where
  change hchange h := h.change hchange
  bedSet {L b x} hx hempty h := by
    intro c y hy
    change Function.update L.beds b _ c = some y at hy
    rw [Function.update_apply] at hy
    split at hy
    · cases hy
      exact ⟨(h b x hx).1, fun _ => (h b x hx).2 (by rw [hempty]; rfl)⟩
    · exact h c y hy
  powerOn _ _ := by simp [maturitySafe, Ledger.powerOn]
  queue _ h := h

/-- An entry in RUNNING leaves RUNNING and lowers no count, but to leave a bed EMPTY. -/
theorem grows_change {L' : Ledger} (hchange : Change L L') (hrun : L.ctl = .running) (h : L.maturitySafe) :
    L'.ctl = .running ∧ ∀ b, Grows (L.beds b) (L'.beds b) := by
  cases hchange with
  | commit => exact ⟨rfl, fun b => .refl _⟩
  | beds lines hturn => exact ⟨hrun, fun b => (hturn b).grows hrun (h b)⟩
  | _ => exact ⟨by simpa using hrun, fun b => by simpa using Grows.refl (L.beds b)⟩

theorem grows_changes {L' : Ledger} (hchanges : Changes L L') (hrun : L.ctl = .running)
    (h : L.maturitySafe) : ∀ b, Grows (L.beds b) (L'.beds b) := by
  have hall : (L'.ctl = .running ∧ L'.maturitySafe) ∧ ∀ b, Grows (L.beds b) (L'.beds b) := by
    induction hchanges with
    | refl => exact ⟨⟨hrun, h⟩, fun b => .refl _⟩
    | tail _ hchange ih =>
      obtain ⟨⟨hrun', h'⟩, hgrows⟩ := ih
      obtain ⟨hctl, hnext⟩ := grows_change hchange hrun' h'
      exact ⟨⟨hctl, h'.change hchange⟩, fun b => (hgrows b).trans (hnext b)⟩
  exact hall.2

end Ledger

theorem Bed.cures_iff (x : Bed) : x.cures ↔ x.cycle.state.accounted = true := by
  unfold Bed.cures CycleState.accounted
  cases x.cycle.state <;> simp

theorem State.maturitySafe_iff (s : State) : s.maturitySafe ↔ s.ledger.maturitySafe := by
  refine forall_congr' fun b => ?_
  have hline : ∀ x : Bed, x.line.maturitySafe ↔
      (x.maturity.count ≤ 4294967295 ∧ (¬ x.cures → x.maturity = ⟨0, none, false, 0⟩)) := fun x => by
    rw [Bed.cures_iff, Bool.not_eq_true]
    exact Iff.rfl
  constructor
  · intro h y hy
    obtain ⟨x, hx, rfl⟩ := Option.map_eq_some_iff.mp hy
    exact (hline x).mpr (h x hx)
  · intro h x hx
    exact (hline x).mp (h x.line (congrArg (Option.map Bed.line) hx))

/-- A command other than POWER_ON lowers no count in RUNNING, but to leave a bed EMPTY. -/
theorem Effect.count_le {L L' : Ledger} (h : Effect L L') (hrun : L.ctl = .running) (hsafe : L.maturitySafe)
    {b : BedId} {x y : BedLine} (hx : L.beds b = some x) (hy : L'.beds b = some y) :
    x.maturity.count ≤ y.maturity.count ∨ y.state = .empty := by
  cases h with
  | entries h =>
    obtain hempty | ⟨z, hz, -, hle⟩ := Ledger.grows_changes h hrun hsafe b y hy
    · exact .inr hempty
    · cases hx.symm.trans hz
      exact .inl hle
  | bedSet c z hz =>
    change Function.update L.beds c _ b = some y at hy
    rw [Function.update_apply] at hy
    split at hy
    · next hb =>
      subst hb
      cases hx.symm.trans hz
      cases hy
      exact .inl le_rfl
    · cases hx.symm.trans hy
      exact .inl le_rfl

/-- Settles O22: the records are a kept predicate of the ledger, and no entry in RUNNING lowers a count. -/
theorem bedMaturityNeverDecreasesInRunning : Obligations.BedMaturityNeverDecreasesInRunning := by
  unfold Obligations.BedMaturityNeverDecreasesInRunning
  intro s t hs ht
  rw [State.maturitySafe_iff] at hs ⊢
  refine ⟨step_keeps Ledger.maturitySafe_kept ht hs, fun hrun hon b x y hx hy => ?_⟩
  have hx' : s.ledger.beds b = some x.line := congrArg (Option.map Bed.line) hx
  have hy' : t.ledger.beds b = some y.line := congrArg (Option.map Bed.line) hy
  unfold step at ht
  split at ht
  · cases ht
    cases hx.symm.trans hy
    exact .inl le_rfl
  · next i rest hpending =>
    have hi : ∀ r0 r1 r2 r3 shed, i ≠ .powerOn r0 r1 r2 r3 shed := fun r0 r1 r2 r3 shed h =>
      hon r0 r1 r2 r3 shed (by rw [hpending, h]; rfl)
    exact (exec_effect hi ht).count_le hrun hs hx' hy'

/-! ### The reset state -/

theorem State.reset_powerOn :
    State.reset = powerOnState #v[.office, .bedside, .crane, .bedside] false State.reset := rfl

/-- What every kept predicate of the ledger says of the reset state. -/
theorem Ledger.Kept.reset {P : Ledger → Prop} (hP : Ledger.Kept P) : P State.reset.ledger :=
  State.reset_ledger ▸ hP.powerOn _ _

/-- Settles O60: the reset state is the one POWER_ON leaves, which has the feeder's invariant and every kept
predicate of the ledger. -/
theorem resetHasEveryInvariant : Obligations.ResetHasEveryInvariant := by
  unfold Obligations.ResetHasEveryInvariant
  rw [State.creditSafe_iff, State.linksSafe_iff, State.holdingSafe_iff, State.stacksSafe_iff,
    State.spansSafe_iff, State.profilesSafe_iff, State.maturitySafe_iff]
  exact ⟨fun _ => rfl, State.reset_powerOn ▸ powerOnState_powerSafe _ _ _, Ledger.creditSafe_kept.reset,
    Ledger.linksSafe_kept.reset, Ledger.holdingSafe_kept.reset, Ledger.stacksSafe_kept.reset,
    Ledger.spansSafe_kept.reset, Ledger.settingsSafe_kept.reset, Ledger.profilesSafe_kept.reset,
    Ledger.recordsSafe_kept.reset, (Ledger.timerSafe_kept.reset).2, Ledger.maturitySafe_kept.reset⟩

end Sys2Proof.Machine
end

section
/-! Requests by their rules: a request that is taken is answered as its rule says. POWER_ON, the clock and the map
as they are read (O3, O5, O6). -/

namespace Sys2Proof.Machine

/-! ### A request that is taken -/

section Taken

variable {s t : State} {p : PortId} {tag : Byte} {k : RequestKind} {rule : State → Taken} {i : Instr}

/-- A taken request is answered as its rule says. -/
theorem State.takes.run (h : s.takes p k) (hi : exec i s = .next (serve p tag k rule s)) :
    exec i s = .next (respond p tag k.code (rule s)) :=
  hi.trans (congrArg _ (serve_takes h tag rule))

/-- A taken request whose rule accepts. -/
theorem State.takes.accepts (h : s.takes p k) {a : Answer} (hrule : rule s = accept t a)
    (hi : exec i s = .next (serve p tag k rule s)) : exec i s = .next (t.answered p tag k .ok a) := by
  rw [h.run hi, hrule, respond_ok]

/-- A taken request whose rule refuses. -/
theorem State.takes.refuses (h : s.takes p k) {r : Result} (hrule : rule s = refuse s r)
    (hi : exec i s = .next (serve p tag k rule s)) (hr : r.isRefusal = true := by rfl) :
    exec i s = .next (s.refused p tag k r .empty) := by
  rw [h.run hi, hrule, respond_refused p tag k s r hr]

/-- A taken request whose rule refuses with a figure. -/
theorem State.takes.refusesWith (h : s.takes p k) {r : Result} {a : Answer} (hrule : rule s = refuseWith s r a)
    (hi : exec i s = .next (serve p tag k rule s)) (hr : r.isRefusal = true := by rfl) :
    exec i s = .next (s.refused p tag k r a) := by
  rw [h.run hi, hrule, respond_refusedWith p tag k s r a hr]

/-- One check of a chain: the rule refuses at it, or goes on with the checks after it. -/
theorem State.takes.refusesIf (h : s.takes p k) {c Q : Prop} {d d' : Decidable c} {r : Result} {a : Answer}
    {rest : Taken} (hrule : rule s = @ite _ c d (refuseWith s r a) rest)
    (hi : exec i s = .next (serve p tag k rule s)) (hrest : ¬ c → rule s = rest → Q)
    (hr : r.isRefusal = true := by rfl) :
    @ite _ c d' (exec i s = .next (s.refused p tag k r a)) Q := by
  split
  · next hc => exact h.refusesWith (hrule.trans (if_pos hc)) hi hr
  · next hc => exact hrest hc (hrule.trans (if_neg hc))

/-- A kind that OFFICE may ask in either state is taken from an OFFICE port. -/
theorem State.asks.office (h : s.asks p .office) (hk : (requestRoles k).permits .office = true)
    (hn : needsRunning k = false) : s.takes p k :=
  State.asks_takes h (barred_office hk hn)

end Taken

/-! ### POWER_ON -/

theorem vector_replicate_get {α : Type} {n : Nat} (x : α) (i : Fin n) : (Vector.replicate n x)[i] = x := by
  simp

/-- The port that POWER_ON leaves. -/
theorem powerOnState_port (roles : Vector Role 4) (shed : Bool) (s : State) (p : PortId) :
    (powerOnState roles shed s).port p = Port.powerOn roles[p] := by
  simp [powerOnState, State.port]

/-- The alerts of a port at power-on: CLOCK_UNSET where its mask enables it, which OFFICE's alone does. -/
theorem defaultMask_clockUnset (r : Role) :
    defaultMask r &&& 0x8000 = match r with
      | .office => 0x8000#16
      | _ => 0#16 := by
  cases r <;> rfl

/-- Settles O3: the reset record, slot by slot. -/
theorem powerOnGivesEveryBlockItsValues : Obligations.PowerOnGivesEveryBlockItsValues := by
  unfold Obligations.PowerOnGivesEveryBlockItsValues
  intro r0 r1 r2 r3 shed s
  refine ⟨powerOnState #v[r0, r1, r2, r3] shed s, rfl, rfl, rfl, rfl, rfl, fun c => vector_replicate_get _ c,
    fun b => vector_replicate_get _ b, fun i => vector_replicate_get _ i, fun b => vector_replicate_get _ b,
    fun k => vector_replicate_get _ k, fun c => vector_replicate_get _ c, rfl, rfl, rfl, rfl, rfl, rfl, rfl, rfl,
    rfl, rfl, fun b => ⟨vector_replicate_get _ b, vector_replicate_get _ b, vector_replicate_get _ b⟩, rfl,
    fun i => vector_replicate_get _ i, rfl, fun p => vector_replicate_get _ p, rfl, fun p => ?_,
    fun i => vector_replicate_get _ i, rfl⟩
  rw [powerOnState_port]
  refine ⟨rfl, rfl, rfl, rfl, rfl, ?_, ?_, fun b => vector_replicate_get _ b⟩
  · generalize #v[r0, r1, r2, r3][p] = r
    cases r <;> rfl
  · exact defaultMask_clockUnset _

/-! ### SET_CLOCK -/

/-- The offset makes the present minute the yard minute given, and every stored minute keeps its distance from
it. -/
theorem stamp_shift (m now y : Int) :
    BitVec.ofInt 32 m + BitVec.ofInt 32 (y - now) = BitVec.ofInt 32 (m - now + y) := by
  rw [← BitVec.ofInt_add]
  congr 1
  omega

/-- Settles O5: the stamps after the rule's one write. -/
theorem setClockMovesEveryStamp : Obligations.SetClockMovesEveryStamp := by
  unfold Obligations.SetClockMovesEveryStamp
  intro p tag y s hp
  have hoffset : BitVec.ofInt 32 y - BitVec.ofInt 32 s.clock.runMinute =
      BitVec.ofInt 32 (y - s.now) := by
    rw [sub_eq_iff_eq_add, add_comm, stamp_shift]
    congr 1
    change y = s.clock.runMinute - s.clock.runMinute + y
    omega
  refine ⟨_, (hp.office rfl rfl).accepts (rule := takeSetClock y) rfl rfl, by rw [hoffset], ?_, fun m => ?_⟩
  · refine (stamp_shift s.now s.now y).trans ?_
    rw [sub_self, zero_add]
  · exact stamp_shift m s.now y

/-! ### READ_CLOCK and READ_MAP -/

theorem takeReadMap_some {kind number port : Nat} {s : State} {a : Answer}
    (h : s.mapEntry kind number port = some a) : takeReadMap kind number port s = accept s a := by
  rw [takeReadMap, h]

theorem takeReadMap_none {kind number port : Nat} {s : State} (h : s.mapEntry kind number port = none) :
    takeReadMap kind number port s = refuse s .badValue := by
  rw [takeReadMap, h]

/-- A row from 16 names no configuration value. -/
theorem Settings.value?_unknown (c : Settings) {row : Nat} (h : 16 ≤ row) (port : Nat) :
    c.value? row port = none := by
  unfold Settings.value?
  split
  case h_17 => rfl
  all_goals omega

/-- Settles O6: the entry of each kind and number, or none. -/
theorem readClockAndReadMapAnswerStoredFields : Obligations.ReadClockAndReadMapAnswerStoredFields := by
  unfold Obligations.ReadClockAndReadMapAnswerStoredFields
  intro p tag s hp map bad
  have htakes : s.takes p .readMap := State.hears_takes hp rfl rfl
  have hmap : ∀ {kind number port a}, s.mapEntry kind number port = some a → map kind number port a :=
    fun h => htakes.accepts (takeReadMap_some h) rfl
  have hbad : ∀ {kind number port}, s.mapEntry kind number port = none → bad kind number port :=
    fun h => htakes.refuses (takeReadMap_none h) rfl
  refine ⟨(State.hears_takes hp rfl rfl).accepts (rule := takeReadClock) rfl rfl, fun b q => hmap ?_,
    fun i q => hmap ?_, fun k q => hmap ?_, fun c q => hmap ?_, fun n q => hmap rfl, fun q => ?_,
    fun q => hmap ?_, fun n q hn => hbad ?_, fun n q hn => hbad ?_, fun n q hn => hbad ?_,
    fun n q hn => hbad ?_, fun n q hn => hbad ?_, fun q hq => hbad ?_, fun k n q hk => hbad ?_⟩
  · simp [State.mapEntry]
  · simp [State.mapEntry]
  · simp [State.mapEntry]
  · simp [State.mapEntry]
  · exact ⟨hmap rfl, hmap rfl, hmap rfl, hmap rfl, hmap rfl, hmap rfl, hmap rfl, hmap rfl, hmap rfl, hmap rfl,
      hmap rfl, hmap rfl, hmap rfl, hmap rfl, hmap rfl⟩
  · simp [State.mapEntry, Settings.value?]
  · simp [State.mapEntry, slot?_none hn]
  · simp [State.mapEntry, slot?_none hn]
  · simp [State.mapEntry, slot?_none hn]
  · simp [State.mapEntry, slot?_none hn]
  · exact congrArg (Option.map Answer.mapValue) (s.settings.value?_unknown hn q)
  · simp [State.mapEntry, Settings.value?, slot?_none hq]
  · unfold State.mapEntry
    split
    case h_7 => rfl
    all_goals omega

end Sys2Proof.Machine
end

section
/-! The definitions of the Yard Map: classes, configuration values, beds, stacks and cranes (O7, O8, O9, O10, O12). -/

namespace Sys2Proof.Machine

variable {s : State}

theorem action?_none {n : Nat} (h : 2 ≤ n) : action? n = none := by
  unfold action?
  split
  case h_3 => rfl
  all_goals omega

/-! ### DEFINE_CLASS -/

theorem classInRange_iff (x : ProductClass) : classInRange x = true ↔
    x.stripTarget ≤ 5000 ∧ x.stripAge ≤ 4320 ∧ x.shipTarget ≤ 30000 ∧ x.shipAge ≤ 2000 := by
  simp [classInRange, and_assoc]

theorem takeDefineClass_bad {n a : Nat} (h : 32 ≤ n ∨ 2 ≤ a) (a1 a2 a3 a4 : Nat) :
    takeDefineClass n a a1 a2 a3 a4 s = refuse s .badValue := by
  unfold takeDefineClass
  obtain hn | ha := h
  · rw [slot?_none hn]
  · rw [action?_none ha]
    split <;> simp_all

/-- Settles O10: the rule's branches. -/
theorem defineClassReachesNoPiece : Obligations.DefineClassReachesNoPiece := by
  unfold Obligations.DefineClassReachesNoPiece
  intro p tag c s hp
  have htakes : s.takes p .defineClass := hp.office rfl rfl
  refine ⟨fun x => ?_, fun a1 a2 a3 a4 => ?_, fun n a a1 a2 a3 a4 h => ?_⟩
  · split
    · next hfit =>
      refine htakes.accepts (rule := takeDefineClass _ _ _ _ _ _) ?_ rfl
      simp [takeDefineClass, action?, (classInRange_iff x).mpr hfit]
    · next hfit =>
      refine htakes.refuses (rule := takeDefineClass _ _ _ _ _ _) ?_ rfl
      simp [takeDefineClass, action?, mt (classInRange_iff x).mp hfit]
  · refine htakes.accepts (rule := takeDefineClass _ _ _ _ _ _) ?_ rfl
    simp [takeDefineClass, action?]
  · exact htakes.refuses (takeDefineClass_bad h a1 a2 a3 a4) rfl

/-! ### SET_CONFIG -/

/-- A configuration value is named by a row before the credit limits' or by that row and a port. -/
theorem Settings.value?_known_iff (c : Settings) (row port : Nat) :
    (c.value? row port).isSome ↔ row < 15 ∨ row = 15 ∧ port < 4 := by
  by_cases h : 16 ≤ row
  · simp only [c.value?_unknown h, Option.isSome_none, Bool.false_eq_true, false_iff]
    omega
  · obtain ⟨row, rfl⟩ : ∃ r : Fin 16, r.val = row := ⟨⟨row, by omega⟩, rfl⟩
    fin_cases row <;> simp [Settings.value?, slot?]

/-- The ranges of section 1.7, row by row. -/
theorem configRanges_get {row : Nat} (h : row < 16) : configRanges[row]? = some (settingRange row) := by
  interval_cases row <;> rfl

theorem Settings.store_frostPair_iff (c : Settings) (port : Nat) (x : Int) :
    ((c.store 6 port x).frostPair = true ↔ x < c.frostOff) ∧
      ((c.store 7 port x).frostPair = true ↔ c.frostOn < x) :=
  ⟨decide_eq_true_iff, decide_eq_true_iff⟩

/-- The value may be stored: it is named, in its row's range, and leaves frost_off above frost_on (R11). -/
def State.configFits (s : State) (row port : Nat) (x : Int) : Prop :=
  (s.settings.value? row port).isSome ∧ (settingRange row).1 ≤ x ∧ x ≤ (settingRange row).2 ∧
    (row = 6 ∨ row = 7 → (s.settings.store row port x).frostPair = true)

theorem takeSetConfig_fits {row port : Nat} {x : Int} (h : s.configFits row port x) :
    takeSetConfig row port x s = accept { s with settings := s.settings.store row port x } .empty := by
  obtain ⟨hknown, hlow, hhigh, hfrost⟩ := h
  obtain ⟨v, hv⟩ := Option.isSome_iff_exists.mp hknown
  rw [takeSetConfig, hv]
  simp only [betweenI, hlow, hhigh, decide_true, Bool.and_self, not_true_eq_false, if_false]
  rw [if_neg fun h => h.2 (hfrost h.1)]

theorem takeSetConfig_misfit {row port : Nat} {x : Int} (h : ¬ s.configFits row port x) :
    takeSetConfig row port x s = refuse s .badValue := by
  unfold takeSetConfig
  split
  · rfl
  · next v hv =>
    dsimp only
    split
    · rfl
    · next hrange =>
      split
      · rfl
      · next hfrost =>
        simp only [betweenI, Bool.and_eq_true, decide_eq_true_eq, not_not] at hrange
        exact absurd ⟨by simp [hv], hrange.1, hrange.2,
          fun hrow => by_contra fun hpair => hfrost ⟨hrow, hpair⟩⟩ h

/-- Settles O12: what fits is stored and read back, and every other value is read as before. -/
theorem setConfigStoresOneValueInRange : Obligations.SetConfigStoresOneValueInRange := by
  unfold Obligations.SetConfigStoresOneValueInRange
  intro p tag row port x s hp run known fit
  have htakes : s.takes p .setConfig := hp.office rfl rfl
  have hfits : s.configFits row port x ↔ known ∧ fit := by
    refine (Iff.and (s.settings.value?_known_iff row port) Iff.rfl).trans (and_congr_right fun hknown => ?_)
    have hrow : row < 16 := by omega
    rw [← and_assoc]
    refine Iff.and ?_ ?_
    · rw [configRanges_get hrow]
      refine ⟨fun h => ⟨_, _, rfl, h⟩, fun ⟨lo, hi, hrange, h⟩ => ?_⟩
      rw [Option.some_inj.mp hrange]
      exact h
    · constructor
      · intro h
        refine ⟨?_, ?_⟩ <;> rintro rfl
        · exact (s.settings.store_frostPair_iff port x).1.mp (h (.inl rfl))
        · exact (s.settings.store_frostPair_iff port x).2.mp (h (.inr rfl))
      · rintro ⟨hon, hoff⟩ (rfl | rfl)
        · exact (s.settings.store_frostPair_iff port x).1.mpr (hon rfl)
        · exact (s.settings.store_frostPair_iff port x).2.mpr (hoff rfl)
  rw [← hfits]
  refine ⟨fun h => htakes.refuses (takeSetConfig_misfit h) rfl, fun h => ⟨_,
    htakes.accepts (takeSetConfig_fits h) rfl, Settings.value?_store_same h.1 h.2.1, fun r q hother =>
      Settings.value?_store_other hother⟩⟩

/-! ### DEFINE_BED -/

theorem State.bedDefGood_iff (s : State) (b : BedId) (d : BedDef) :
    s.bedDefGood b d = true ↔ s.bedDefinable b d := by
  have hbound : s.bedsideBound d.bound = true ↔ ∀ q, d.bound = some q → (s.port q).role = .bedside := by
    cases hq : d.bound <;> simp [State.bedsideBound]
  have hspan : (match s.ctl with
      | .loading => true
      | .running => decide (d.firstBay ≤ d.lastBay) && !s.overlapsOther b d) = true ↔
      (s.ctl = .running → d.firstBay ≤ d.lastBay ∧ ∀ c y, c ≠ b → s.bed c = some y →
        ¬ ∃ bay, d.firstBay ≤ bay ∧ bay ≤ d.lastBay ∧ y.defn.firstBay ≤ bay ∧ bay ≤ y.defn.lastBay) := by
    cases s.ctl with
    | loading => simp
    | running =>
      rw [Bool.and_eq_true, Bool.not_eq_true', ← Bool.not_eq_true, State.overlapsOther_iff]
      simp only [decide_eq_true_eq, forall_const]
      refine and_congr_right fun _ => ?_
      push Not
      rfl
  rw [State.bedDefGood, State.bedDefinable, Bool.and_eq_true, Bool.and_eq_true, hbound]
  refine (Iff.and Iff.rfl hspan).trans ?_
  simp only [Bool.and_eq_true, decide_eq_true_eq, and_assoc]

theorem Bed.mayBecome_iff (x : Bed) (d : BedDef) : x.mayBecome d = true ↔ x.changeable d := by
  simp only [Bed.mayBecome, Bed.changeable, Bool.and_eq_true, Bool.or_eq_true, beq_iff_eq]
  tauto

theorem State.bedProbed_iff (s : State) (b : BedId) :
    s.bedProbed b = true ↔ ∃ c : Channel, s.scan.probes[c].assignment = .bed b := by
  simp only [State.bedProbed, List.any_eq_true, beq_iff_eq, Vector.mem_toList_iff, Vector.mem_iff_getElem]
  constructor
  · rintro ⟨q, ⟨i, hi, rfl⟩, hq⟩
    exact ⟨⟨i, hi⟩, hq⟩
  · rintro ⟨c, hc⟩
    exact ⟨_, ⟨c.val, c.isLt, rfl⟩, hc⟩

@[simp] theorem boundPort?_boundByte (q : Option PortId) : boundPort? (boundByte q) = some q := by
  cases q with
  | none => rfl
  | some p =>
    have hne : (p : Nat) ≠ 255 := by omega
    simp [boundPort?, boundByte, hne]

theorem takeDefineBed_define (b : BedId) (d : BedDef) :
    takeDefineBed b 0 d.firstBay d.lastBay d.rated d.guard (boundByte d.bound) s = defineBedAs b d s := by
  simp [takeDefineBed, action?]

theorem takeDefineBed_remove (b : BedId) (f l r g q : Nat) :
    takeDefineBed b 1 f l r g q s = removeBed b s := by
  simp [takeDefineBed, action?]

theorem takeDefineBed_bad {n a q : Nat} (h : 16 ≤ n ∨ 2 ≤ a ∨ (a = 0 ∧ 4 ≤ q ∧ q ≠ 255)) (f l r g : Nat) :
    takeDefineBed n a f l r g q s = refuse s .badValue := by
  unfold takeDefineBed
  obtain hn | ha | ⟨rfl, hq, hne⟩ := h
  · rw [slot?_none hn]
  · rw [action?_none ha]
    split <;> simp_all
  · have hbound : boundPort? q = none := by rw [boundPort?, if_neg hne, slot?_none hq]; rfl
    rw [hbound]
    split <;> simp_all [action?]

/-- Settles O7: the branches of the definition and of the removal. -/
theorem defineBedByItsChecksAndCycleState : Obligations.DefineBedByItsChecksAndCycleState := by
  unfold Obligations.DefineBedByItsChecksAndCycleState
  intro p tag b s hp
  have htakes : s.takes p .defineBed := hp.office rfl rfl
  refine ⟨fun d => ?_, fun f l r g q => ?_⟩
  · intro run done
    have hrule := takeDefineBed_define (s := s) b d
    refine ⟨fun hbad => htakes.refuses (hrule.trans ?_) rfl, fun hgood hnone => htakes.accepts (hrule.trans ?_) rfl,
      fun x hgood hx => ⟨fun hmay => htakes.accepts (hrule.trans ?_) rfl,
        fun hmay => htakes.refuses (hrule.trans ?_) rfl⟩⟩
    · rw [defineBedAs, if_pos (mt (s.bedDefGood_iff b d).mp hbad)]
    all_goals rw [defineBedAs, if_neg (not_not.mpr ((s.bedDefGood_iff b d).mpr hgood))]
    · rw [hnone]
      rfl
    · rw [hx]
      exact if_pos ((x.mayBecome_iff d).mpr hmay)
    · rw [hx]
      exact if_neg (mt (x.mayBecome_iff d).mp hmay)
  · intro run
    have hrule := takeDefineBed_remove (s := s) b f l r g q
    refine ⟨fun hnone => htakes.accepts (hrule.trans ?_) rfl, fun x hx => ?_,
      fun n a h => htakes.refuses (takeDefineBed_bad h f l r g) rfl⟩
    · rw [removeBed, hnone]
    · have hfree : (x.cycle.state = .empty ∧ ¬ s.bedProbed b = true) ↔
          (x.cycle.state = .empty ∧ ∀ c : Channel, s.scan.probes[c].assignment ≠ .bed b) := by
        rw [State.bedProbed_iff, not_exists]
      split
      · next h =>
        refine htakes.accepts (hrule.trans ?_) rfl
        rw [removeBed, hx]
        exact if_pos (hfree.mpr h)
      · next h =>
        refine htakes.refuses (hrule.trans ?_) rfl
        rw [removeBed, hx]
        exact if_neg (mt hfree.mp h)

/-! ### DEFINE_STACK and SET_STACK_OPEN -/

theorem State.stackFree_iff (s : State) (i : StackId) (x : Stack) :
    s.stackFree i x = true ↔ s.stackIdle i x := by
  have hnamed : s.stackNamed i = true ↔ ∃ j m, s.move j = some m ∧ (m.dest = i ∨ m.source = .stack i) := by
    simp [State.stackNamed, List.any_eq_true, State.mem_moveList]
  rw [State.stackFree, State.stackIdle, Bool.and_eq_true, Bool.and_eq_true, Bool.not_eq_true',
    ← Bool.not_eq_true, hnamed, List.isEmpty_iff, beq_iff_eq, and_assoc]
  refine and_congr_right fun _ => and_congr_right fun _ => ?_
  push Not
  exact forall_congr' fun j => forall_congr' fun m => imp_congr_right fun _ => and_comm

@[simp] theorem stackKind?_ofKind (k : StackKind) : stackKind? (if k = .stock then 0 else 1) = some k := by
  cases k <;> rfl

theorem stackKind?_none {n : Nat} (h : 2 ≤ n) : stackKind? n = none := by
  unfold stackKind?
  split
  case h_3 => rfl
  all_goals omega

theorem takeDefineStack_define (i : StackId) (bay tier : Nat) (o : Bool) (k : StackKind) :
    takeDefineStack i 0 bay (if k = .stock then 0 else 1) tier (if o then 1 else 0) s =
      defineStackAs i ⟨bay, k, tier, o⟩ s := by
  simp [takeDefineStack, action?]

theorem takeDefineStack_remove (i : StackId) (bay k tier o : Nat) :
    takeDefineStack i 1 bay k tier o s = removeStack i s := by
  simp [takeDefineStack, action?]

theorem takeDefineStack_bad {n a k o : Nat} (h : 96 ≤ n ∨ 2 ≤ a ∨ (a = 0 ∧ (2 ≤ k ∨ 2 ≤ o))) (bay tier : Nat) :
    takeDefineStack n a bay k tier o s = refuse s .badValue := by
  unfold takeDefineStack
  obtain hn | ha | ⟨rfl, hk | ho⟩ := h
  · rw [slot?_none hn]
  · rw [action?_none ha]
    split <;> simp_all
  · rw [stackKind?_none hk]
    split <;> simp_all [action?]
  · rw [flag?_none ho]
    split <;> simp_all [action?]

/-- The ranges of a stack's definition that the rule judges (R6). -/
theorem stackRanges_iff (bay tier : Nat) :
    (bay ≤ 255 ∧ between 1 6 tier = true) ↔ bay ≤ 255 ∧ 1 ≤ tier ∧ tier ≤ 6 := by
  simp [between]

theorem defineStackAs_bad {i : StackId} {d : StackDef} (h : ¬ (d.bay ≤ 255 ∧ 1 ≤ d.tierLimit ∧ d.tierLimit ≤ 6)) :
    defineStackAs i d s = refuse s .badValue := by
  rw [defineStackAs, if_pos (mt (stackRanges_iff _ _).mp h)]

theorem defineStackAs_idle {i : StackId} {d : StackDef} (h : d.bay ≤ 255 ∧ 1 ≤ d.tierLimit ∧ d.tierLimit ≤ 6)
    (hidle : ∀ x, s.stack i = some x → s.stackIdle i x) :
    defineStackAs i d s = accept (s.setStack i (some ⟨d, [], 0⟩)) .empty := by
  rw [defineStackAs, if_neg (not_not.mpr ((stackRanges_iff _ _).mpr h))]
  cases hx : s.stack i with
  | none => rfl
  | some x => exact if_pos ((s.stackFree_iff i x).mpr (hidle x hx))

theorem defineStackAs_used {i : StackId} {d : StackDef} {x : Stack}
    (h : d.bay ≤ 255 ∧ 1 ≤ d.tierLimit ∧ d.tierLimit ≤ 6) (hx : s.stack i = some x)
    (hused : ¬ s.stackIdle i x) : defineStackAs i d s = refuse s .wrongState := by
  rw [defineStackAs, if_neg (not_not.mpr ((stackRanges_iff _ _).mpr h)), hx]
  exact if_neg (mt (s.stackFree_iff i x).mp hused)

theorem removeStack_some {i : StackId} {x : Stack} (hx : s.stack i = some x) :
    (s.stackIdle i x → removeStack i s = accept (s.setStack i none) .empty) ∧
      (¬ s.stackIdle i x → removeStack i s = refuse s .wrongState) := by
  rw [removeStack, hx]
  exact ⟨fun h => if_pos ((s.stackFree_iff i x).mpr h), fun h => if_neg (mt (s.stackFree_iff i x).mp h)⟩

theorem takeSetStackOpen_bad {n o : Nat} (h : 96 ≤ n ∨ 2 ≤ o) :
    takeSetStackOpen n o s = refuse s .badValue := by
  unfold takeSetStackOpen
  obtain hn | ho := h
  · rw [slot?_none hn]
  · rw [flag?_none ho]
    split <;> simp_all

/-- Settles O8: the branches of the definition, the removal and the open flag. -/
theorem stacksAreDefinedRemovedAndOpened : Obligations.StacksAreDefinedRemovedAndOpened := by
  unfold Obligations.StacksAreDefinedRemovedAndOpened
  intro p tag i s hp
  have htakes : s.takes p .defineStack := hp.office rfl rfl
  have hopen : s.takes p .setStackOpen := hp.office rfl rfl
  refine ⟨fun bay tier o k => ?_, fun bay k tier o => ?_,
    fun n a bay k tier o h => htakes.refuses (takeDefineStack_bad h bay tier) rfl, fun o => ?_,
    fun n o h => hopen.refuses (takeSetStackOpen_bad h) rfl⟩
  · have hrule := takeDefineStack_define (s := s) i bay tier o k
    intro run
    exact ⟨fun hbad => htakes.refuses (hrule.trans (defineStackAs_bad hbad)) rfl,
      fun hgood hidle => htakes.accepts (hrule.trans (defineStackAs_idle hgood hidle)) rfl,
      fun hgood x hx hused => htakes.refuses (hrule.trans (defineStackAs_used hgood hx hused)) rfl⟩
  · have hrule := takeDefineStack_remove (s := s) i bay k tier o
    intro run
    refine ⟨fun hnone => htakes.accepts (hrule.trans ?_) rfl, fun x hx => ⟨fun hidle =>
      htakes.accepts (hrule.trans ((removeStack_some hx).1 hidle)) rfl, fun hused =>
      htakes.refuses (hrule.trans ((removeStack_some hx).2 hused)) rfl⟩⟩
    rw [removeStack, hnone]
  · refine ⟨fun hnone => hopen.refuses (rule := takeSetStackOpen _ _) ?_ rfl,
      fun x hx => hopen.accepts (rule := takeSetStackOpen _ _) ?_ rfl⟩
    · simp [takeSetStackOpen, hnone]
    · simp [takeSetStackOpen, hx]

/-! ### LOAD_CRANE -/

theorem State.enrolmentGood_iff (s : State) (e : Enrolment) : s.enrolmentGood e = true ↔
    (s.port e.bound).role = .crane ∧ e.low ≤ e.high ∧ e.high ≤ 255 ∧
      1 ≤ e.rating ∧ e.rating ≤ 5000 ∧ 1 ≤ e.capacity ∧ e.capacity ≤ 1000 := by
  simp [State.enrolmentGood, between, and_assoc]

/-- The sum of the ratings with one crane's enrolment replaced (R8). -/
theorem State.ratingsWith_eq (s : State) (k : CraneId) (e : Option Enrolment) :
    s.ratingsWith k e =
      ∑ j : CraneId, if j = k then (e.map Enrolment.rating).getD 0 else (s.crane j).rating := by
  rw [State.ratingsWith, State.enrolledRatings_eq_sum]
  refine Finset.sum_congr rfl fun j _ => ?_
  rw [State.modCrane_crane, Crane.rating]
  by_cases h : j = k
  · subst h
    rw [if_pos rfl, if_pos rfl]
  · rw [if_neg h, if_neg (Ne.symm h), Crane.rating]

/-- The crane that an enrolment or a withdrawal leaves (R8, R171). -/
def Crane.enrolled (e : Option Enrolment) (c : Crane) : Crane :=
  if c.enrolment.isSome ∧ e.isSome then { c with enrolment := e }
  else { Crane.powerOn with enrolment := e, reservation := c.reservation }

theorem Crane.enrolled_some (e : Enrolment) : Crane.enrolled (some e) = fun c =>
    if c.enrolment.isSome then { c with enrolment := some e }
    else ⟨some e, none, none, none, c.reservation⟩ := by
  funext c
  simp [Crane.enrolled, Crane.powerOn]

theorem Crane.enrolled_none : Crane.enrolled none = fun c => ⟨none, none, none, none, c.reservation⟩ := by
  funext c
  simp [Crane.enrolled, Crane.powerOn]

/-- A crane request past its field checks: the ratings, then the crane's state (R8). -/
theorem State.takes.enrols {p : PortId} {tag : Byte} {i : Instr} {rule : State → Taken}
    (htakes : s.takes p .loadCrane) {k : CraneId} {e : Option Enrolment} (hrule : rule s = enrol k e s)
    (hi : exec i s = .next (serve p tag .loadCrane rule s)) :
    exec i s = .next (if s.limits.shedLimit < s.limits.baseLoad +
          ∑ j : CraneId, (if j = k then (e.map Enrolment.rating).getD 0 else (s.crane j).rating) then
        s.refused p tag .loadCrane .badValue .empty
      else if (s.crane k).held.isSome then s.refused p tag .loadCrane .busy .empty
      else (s.modCrane k (Crane.enrolled e)).answered p tag .loadCrane .ok .empty) := by
  rw [← State.ratingsWith_eq]
  split_ifs with hratings hheld
  · exact htakes.refuses (hrule.trans (if_pos hratings)) hi
  · exact htakes.refuses (hrule.trans ((if_neg hratings).trans (if_pos hheld))) hi
  · exact htakes.accepts (hrule.trans ((if_neg hratings).trans (if_neg hheld))) hi

theorem takeLoadCrane_define (k : CraneId) (e : Enrolment) :
    takeLoadCrane k 0 e.bound e.low e.high e.rating e.capacity s =
      if s.enrolmentGood e then enrol k (some e) s else refuse s .badValue := by
  simp [takeLoadCrane, action?]

theorem takeLoadCrane_remove (k : CraneId) (q l h r m : Nat) :
    takeLoadCrane k 1 q l h r m s = enrol k none s := by
  simp [takeLoadCrane, action?]

theorem takeLoadCrane_bad {n a q : Nat} (hbad : 4 ≤ n ∨ 2 ≤ a ∨ (a = 0 ∧ 4 ≤ q)) (l h r m : Nat) :
    takeLoadCrane n a q l h r m s = refuse s .badValue := by
  unfold takeLoadCrane
  obtain hn | ha | ⟨rfl, hq⟩ := hbad
  · rw [slot?_none hn]
  · rw [action?_none ha]
    split <;> simp_all
  · rw [slot?_none hq]
    split <;> simp_all [action?]

/-- Settles O9: the fields, then the checks that an enrolment and a withdrawal share. -/
theorem loadCraneChecksInOrder : Obligations.LoadCraneChecksInOrder := by
  unfold Obligations.LoadCraneChecksInOrder
  intro p tag k s hp
  have htakes : s.takes p .loadCrane := hp.office rfl rfl
  refine ⟨fun e => ?_, fun q l h r m => ?_, fun n a q l h r m hbad =>
    htakes.refuses (takeLoadCrane_bad hbad l h r m) rfl⟩
  · have hrule := takeLoadCrane_define (s := s) k e
    split
    · next hbad =>
      exact htakes.refuses (hrule.trans (if_neg (mt (s.enrolmentGood_iff e).mp hbad))) rfl
    · next hgood =>
      refine (htakes.enrols (hrule.trans (if_pos ((s.enrolmentGood_iff e).mpr (not_not.mp hgood)))) rfl).trans ?_
      rw [Crane.enrolled_some]
      rfl
  · refine (htakes.enrols (takeLoadCrane_remove k q l h r m) rfl).trans ?_
    rw [Crane.enrolled_none]
    rfl

end Sys2Proof.Machine
end

section
/-! Restoring the yard in LOADING, and COMMIT (O13, O14, O15). -/

namespace Sys2Proof.Machine

variable {s : State}

/-! ### Registering pieces -/

/-- The registry is ordered by id, an order no statement observes: it holds the piece and the others. -/
theorem insertPiece_perm (x : Piece) (l : List Piece) : (insertPiece x l).Perm (x :: l) := by
  induction l with
  | nil => exact .refl _
  | cons y l ih =>
    unfold insertPiece
    split
    · exact .refl _
    · exact (ih.cons y).trans (.swap x y l)

theorem foldl_insertPiece_perm (xs l : List Piece) :
    (xs.foldl (fun l x => insertPiece x l) l).Perm (xs ++ l) := by
  induction xs generalizing l with
  | nil => exact .refl _
  | cons x xs ih => exact (ih _).trans (((insertPiece_perm x l).append_left xs).trans List.perm_middle)

theorem castPieces_perm (b : BedId) (m : Int) (es : List PieceEntry) (s : State) :
    (castPieces b m es s).pieces.Perm (es.map (s.castAs b m) ++ s.pieces) := by
  rw [castPieces, foldl_addPiece]
  exact foldl_insertPiece_perm _ _

/-! ### LOAD_PIECE -/

theorem readyToShip_eq (count age shipTarget shipAge : Nat) :
    readyToShip count age shipTarget shipAge =
      (decide (600 * shipTarget ≤ count) && decide (60 * shipAge ≤ age)) := by
  rw [readyToShip, meetsTarget, Bool.eq_iff_iff]
  simp only [Bool.and_eq_true, decide_eq_true_eq]
  omega

theorem optional?_flag {given : Nat} (h : given < 2) (x : Nat) :
    optional? given x = some (if given = 1 then some x else none) := by
  obtain rfl | rfl : given = 0 ∨ given = 1 := by omega
  · rfl
  · rfl

theorem optional?_none {given : Nat} (h : 2 ≤ given) (x : Nat) : optional? given x = none := by
  rw [optional?, flag?_none h]
  rfl

/-- The range checks of LOAD_PIECE beside its two numbers and its flag (R13). -/
def pieceRanges (id mass count age : Nat) : Prop :=
  1 ≤ id ∧ id ≤ 65535 ∧ 1 ≤ mass ∧ mass ≤ 1000 ∧ count ≤ 4294967295 ∧ age ≤ 2000000

theorem pieceRanges_iff (id mass count age : Nat) :
    (idInRange id ∧ between 1 1000 mass ∧ count ≤ maxCount ∧ age ≤ 2000000) ↔
      pieceRanges id mass count age := by
  simp [idInRange, between, maxCount, pieceRanges, and_assoc]

theorem takeLoadPiece_running (hctl : s.ctl = .running) (id cls mass count age i given reason : Nat) :
    takeLoadPiece id cls mass count age i given reason s = refuse s .wrongState := by
  rw [takeLoadPiece, hctl]

theorem takeLoadPiece_ranges (hctl : s.ctl = .loading) {id mass count age given : Nat} (c : ClassId) (i : StackId)
    (reason : Nat) (h : pieceRanges id mass count age) (hgiven : given < 2) :
    takeLoadPiece id c mass count age i given reason s =
      restorePiece id c mass count age c i (if given = 1 then some reason else none) s := by
  rw [takeLoadPiece, hctl]
  simp only [slot?_val, optional?_flag hgiven]
  exact if_pos ((pieceRanges_iff id mass count age).mpr h)

theorem takeLoadPiece_bad (hctl : s.ctl = .loading) {id cls mass count age i given : Nat} (reason : Nat)
    (h : ¬ (pieceRanges id mass count age ∧ cls < 32 ∧ i < 96 ∧ given < 2)) :
    takeLoadPiece id cls mass count age i given reason s = refuse s .badValue := by
  rw [takeLoadPiece, hctl]
  dsimp only
  split
  · next c j hold hcls hstack hgiven =>
    have hc : cls < 32 := slot?_some.mp hcls ▸ c.isLt
    have hi : i < 96 := slot?_some.mp hstack ▸ j.isLt
    have hg : given < 2 := by
      by_contra hge
      rw [optional?_none (by omega)] at hgiven
      cases hgiven
    exact if_neg fun hfit => h ⟨(pieceRanges_iff _ _ _ _).mp hfit, hc, hi, hg⟩
  · rfl

theorem restorePiece_undefined {id cls mass count age : Nat} {c : ClassId} {i : StackId} {hold : Option Nat}
    (h : s.classes[c] = none ∨ s.stack i = none) :
    restorePiece id cls mass count age c i hold s = refuse s .noSuch := by
  unfold restorePiece
  split
  · rfl
  · next hk =>
    obtain hnone | hnone := h
    · rw [hk] at hnone
      cases hnone
    · rw [hnone]

/-- The checks of R13 past the definitions, in their order. -/
theorem restorePiece_defined {id cls mass count age : Nat} {c : ClassId} {i : StackId} {hold : Option Nat}
    {k : ProductClass} {x : Stack} (hk : s.classes[c] = some k) (hx : s.stack i = some x) :
    restorePiece id cls mass count age c i hold s =
      let kept := restoredPiece s id cls mass count age k i x.defn.kind hold
      if (s.piece id).isSome then refuse s .duplicate
      else if 1024 ≤ s.pieces.length then refuse s .full
      else if x.defn.tierLimit ≤ x.contents.length then refuse s .noRoom
      else if x.defn.kind = .dispatch ∧ kept.shipReady = false then refuse s .badValue
      else accept (((s.addPiece kept).setStack i (some { x with contents := x.contents ++ [id] })).raiseIf
        kept.shipReady .shipReady) .empty := by
  have hfull : ¬ recordsFree s 1 = true ↔ 1024 ≤ s.pieces.length := by
    rw [recordsFree, maxPieces, decide_eq_true_iff]
    omega
  simp only [restorePiece, hk, hx, hfull, Bool.not_eq_true]

/-- The record that LOAD_PIECE fills (R13). -/
theorem restoredPiece_eq (s : State) (id cls mass count age : Nat) (k : ProductClass) (i : StackId)
    (kind : StackKind) (hold : Option Nat) :
    restoredPiece s id cls mass count age k i kind hold =
      { id := id, cls := cls, mass := mass, castMinute := s.now - age, shipTarget := k.shipTarget,
        shipAge := k.shipAge, state := if kind = .stock then .stocked else .dispatchStaged,
        location := .stack i, hold := hold,
        shipReady := decide (600 * k.shipTarget ≤ count) && decide (60 * k.shipAge ≤ age),
        move := none, count := count, last := some s.now, gap := false } := by
  rw [restoredPiece.eq_def, readyToShip_eq]
  cases kind <;> rfl

/-- Settles O13: the ranges, the definitions, then the checks past them. -/
theorem loadPieceRestoresAStackedPiece : Obligations.LoadPieceRestoresAStackedPiece := by
  unfold Obligations.LoadPieceRestoresAStackedPiece
  intro p tag id cls mass count age i given reason s hp run stop
  have htakes : s.takes p .loadPiece := hp.office rfl rfl
  refine ⟨fun hctl => htakes.refuses (takeLoadPiece_running hctl ..) rfl, fun hctl => ⟨fun hbad =>
    htakes.refuses (takeLoadPiece_bad hctl reason fun h => hbad ?_) rfl, ?_⟩⟩
  · obtain ⟨⟨h1, h2, h3, h4, h5, h6⟩, h7, h8, h9⟩ := h
    exact ⟨h1, h2, h7, h8, h3, h4, h5, h6, h9⟩
  · rintro c j rfl rfl ⟨h1, h2, h3, h4, h5, h6, hgiven⟩
    have hrule := takeLoadPiece_ranges hctl c j reason (id := id) (mass := mass) (count := count) (age := age)
      ⟨h1, h2, h3, h4, h5, h6⟩ hgiven
    refine ⟨fun hnone => htakes.refuses (hrule.trans (restorePiece_undefined hnone)) rfl,
      fun k x hk hx => ?_⟩
    intro ready kept
    have hkept : restoredPiece s id c mass count age k j x.defn.kind (if given = 1 then some reason else none) =
        kept := restoredPiece_eq ..
    replace hrule := hrule.trans (restorePiece_defined hk hx)
    simp only [hkept] at hrule
    exact htakes.refusesIf hrule rfl fun _ hrule => htakes.refusesIf hrule rfl fun _ hrule =>
      htakes.refusesIf hrule rfl fun _ hrule => htakes.refusesIf hrule rfl fun _ hrule =>
        ⟨insertPiece kept s.pieces, insertPiece_perm _ _, htakes.accepts hrule rfl⟩

/-! ### LOAD_BED_STATE -/

@[simp] theorem cycleState?_code (c : CycleState) : cycleState? c.code = some c := by cases c <;> rfl

@[simp] theorem phase?_code (ph : Phase) : phase? ph.code = some ph := by cases ph <;> rfl

theorem cycleState?_none {n : Nat} (h : 7 ≤ n) : cycleState? n = none := by
  unfold cycleState?
  split
  case h_8 => rfl
  all_goals omega

theorem phase?_none {n : Nat} (h : 5 ≤ n) : phase? n = none := by
  unfold phase?
  split
  case h_6 => rfl
  all_goals omega

theorem entryInRange_iff (y : PieceEntry) : entryInRange y = true ↔
    1 ≤ y.id ∧ y.id ≤ 65535 ∧ y.cls < 32 ∧ 1 ≤ y.mass ∧ y.mass ≤ 1000 := by
  simp [entryInRange, idInRange, between, and_assoc]

/-- The phases in which a bed may be restored (R14). -/
theorem phaseFits_iff (c : CycleState) (ph : Phase) (q : Profile) (sp : Int) : phaseFits c ph q sp = true ↔
    (c = .curing ∧ (ph = .preset ∨ (ph = .ramp ∧ sp < q.holdTemp) ∨ (ph = .hold ∧ sp = q.holdTemp))) ∨
      (c = .releasable ∧ (ph = .cool ∨ ph = .off)) := by
  cases c <;> cases ph <;> simp [phaseFits]

theorem castable_iff (es : List PieceEntry) :
    (between 1 12 es.length = true ∧ es.all entryInRange = true) ↔ castable es := by
  simp [between, castable, entryInRange_iff, and_assoc]

theorem BedRestore.good_iff (r : BedRestore) : r.good = true ↔
    r.count ≤ 4294967295 ∧ r.pourAge ≤ 2000000 ∧ r.target ≤ 5000 ∧ r.minAge ≤ 4320 ∧ r.profile.legal ∧
      -400 ≤ r.setpoint ∧ r.setpoint ≤ 950 ∧ castable r.entries ∧
      phaseFits r.state r.phase r.profile r.setpoint = true := by
  rw [← profileInRange_iff, ← castable_iff]
  simp only [BedRestore.good, Bool.and_eq_true, decide_eq_true_eq, betweenI]
  rw [maxCount]
  tauto

theorem takeLoadBedState_running (hctl : s.ctl = .running) (b cy n pa t ma : Nat) (q : Profile) (ph : Nat)
    (sp : Int) (es : List PieceEntry) :
    takeLoadBedState b cy n pa t ma q ph sp es s = refuse s .wrongState := by
  rw [takeLoadBedState, hctl]

theorem takeLoadBedState_noCode (hctl : s.ctl = .loading) (b : Nat) {cy ph : Nat} (h : 7 ≤ cy ∨ 5 ≤ ph)
    (n pa t ma : Nat) (q : Profile) (sp : Int) (es : List PieceEntry) :
    takeLoadBedState b cy n pa t ma q ph sp es s = refuse s .badValue := by
  rw [takeLoadBedState, hctl]
  obtain h | h := h
  · rw [cycleState?_none h]
    cases slot? 16 b <;> rfl
  · rw [phase?_none h]
    cases slot? 16 b <;> cases cycleState? cy <;> rfl

theorem takeLoadBedState_good (hctl : s.ctl = .loading) (b : BedId) {r : BedRestore} (h : r.good = true) :
    takeLoadBedState b r.state.code r.count r.pourAge r.target r.minAge r.profile r.phase.code r.setpoint
      r.entries s = restoreBed b r s := by
  rw [takeLoadBedState, hctl]
  simp only [slot?_val, cycleState?_code, phase?_code]
  exact if_pos h

theorem takeLoadBedState_bad (hctl : s.ctl = .loading) {b : Nat} {r : BedRestore}
    (h : ¬ (b < 16 ∧ r.good = true)) :
    takeLoadBedState b r.state.code r.count r.pourAge r.target r.minAge r.profile r.phase.code r.setpoint
      r.entries s = refuse s .badValue := by
  rw [takeLoadBedState, hctl]
  simp only [cycleState?_code, phase?_code]
  by_cases hb : b < 16
  · have hslot : slot? 16 b = some ⟨b, hb⟩ := slot?_some.mpr rfl
    simp only [hslot]
    exact if_neg fun hgood => h ⟨hb, hgood⟩
  · rw [slot?_none (by omega)]

/-- A class is defined for an entry when the entry finds it. -/
theorem classesDefined_iff (s : State) (es : List PieceEntry) :
    classesDefined s es = true ↔ ∀ y ∈ es, (s.classOf y).isSome := by
  rw [classesDefined, List.all_eq_true]
  refine forall₂_congr fun y _ => ?_
  rw [State.classOf]
  cases slot? 32 y.cls <;> simp

/-- The checks of R14 past the definition of the bed, in their order. -/
theorem restoreBed_defined {b : BedId} {r : BedRestore} {x : Bed} (hx : s.bed b = some x) :
    restoreBed b r s =
      if x.cycle.state ≠ .empty then refuse s .wrongState
      else if ¬ ∀ y ∈ r.entries, (s.classOf y).isSome then refuse s .noSuch
      else if ¬ ((r.entries.map PieceEntry.id).Nodup ∧ ∀ y ∈ r.entries, s.piece y.id = none) then
        refuse s .duplicate
      else if 1024 < s.pieces.length + r.entries.length then refuse s .full
      else accept ((castPieces b (s.now - r.pourAge) r.entries s).setBed b (some (x.restore s.now r)))
        .empty := by
  have hfull : ¬ recordsFree s r.entries.length = true ↔ 1024 < s.pieces.length + r.entries.length := by
    rw [recordsFree, maxPieces, decide_eq_true_iff]
    omega
  simp only [restoreBed, hx, hfull, classesDefined_iff, idsFree_iff]

/-- Settles O14: the ranges, the definition, then the checks past it. -/
theorem loadBedStateRestoresBedAndPieces : Obligations.LoadBedStateRestoresBedAndPieces := by
  unfold Obligations.LoadBedStateRestoresBedAndPieces
  intro p tag bed count pourAge target minAge c ph q sp es s hp run stop fit
  have htakes : s.takes p .loadBedState := hp.office rfl rfl
  let r : BedRestore := ⟨c, count, pourAge, target, minAge, q, ph, sp, es⟩
  have hgood : r.good = true ↔ fit := by
    rw [BedRestore.good_iff, phaseFits_iff]
  refine ⟨fun hctl => htakes.refuses (takeLoadBedState_running hctl ..) rfl, fun hctl cy n h =>
    htakes.refuses (takeLoadBedState_noCode hctl bed h ..) rfl, fun hctl => ⟨fun hbad =>
    htakes.refuses (takeLoadBedState_bad (r := r) hctl (by rwa [hgood])) rfl, ?_⟩⟩
  rintro b rfl hfit
  have hrule := takeLoadBedState_good hctl b (hgood.mpr hfit)
  refine ⟨fun hnone => htakes.refuses (hrule.trans ?_) rfl, fun x hx => ?_⟩
  · rw [restoreBed, hnone]
  · replace hrule := hrule.trans (restoreBed_defined hx)
    refine htakes.refusesIf hrule rfl fun _ hrule => htakes.refusesIf hrule rfl fun _ hrule =>
      htakes.refusesIf hrule rfl fun _ hrule => htakes.refusesIf hrule rfl fun _ hrule =>
        ⟨(castPieces b (s.now - pourAge) es s).pieces, castPieces_perm b _ es s, htakes.accepts ?_ rfl⟩
    rw [hrule, castPieces_eq]
    rfl

/-! ### COMMIT -/

theorem State.mapGood_iff (s : State) : s.mapGood = true ↔
    (∀ b x, s.bed b = some x → x.defn.firstBay ≤ x.defn.lastBay) ∧
      (∀ b x c y, s.bed b = some x → s.bed c = some y → b ≠ c → ¬ ∃ bay,
        x.defn.firstBay ≤ bay ∧ bay ≤ x.defn.lastBay ∧ y.defn.firstBay ≤ bay ∧ bay ≤ y.defn.lastBay) ∧
      1 ≤ s.limits.limit ∧ s.limits.shedLimit ≤ s.limits.limit ∧ s.limits.limit ≤ 20000 ∧
      s.limits.baseLoad + ∑ j : CraneId, (s.crane j).rating ≤ s.limits.shedLimit := by
  have hspans : (s.definedBeds.all fun x =>
        decide (x.2.defn.firstBay ≤ x.2.defn.lastBay) && !s.overlapsOther x.1 x.2.defn) = true ↔
      (∀ b x, s.bed b = some x → x.defn.firstBay ≤ x.defn.lastBay) ∧
        ∀ b x c y, s.bed b = some x → s.bed c = some y → b ≠ c → ¬ ∃ bay,
          x.defn.firstBay ≤ bay ∧ bay ≤ x.defn.lastBay ∧ y.defn.firstBay ≤ bay ∧ bay ≤ y.defn.lastBay := by
    simp only [List.all_eq_true, State.mem_definedBeds, Prod.forall, Bool.and_eq_true, decide_eq_true_eq,
      Bool.not_eq_true', ← Bool.not_eq_true, State.overlapsOther_iff]
    constructor
    · intro h
      exact ⟨fun b x hx => (h b x hx).1, fun b x c y hx hy hne hbay =>
        (h b x hx).2 ⟨c, y, hne.symm, hy, hbay⟩⟩
    · rintro ⟨hspan, hapart⟩ b x hx
      exact ⟨hspan b x hx, fun ⟨c, y, hne, hy, hbay⟩ => hapart b x c y hx hy hne.symm hbay⟩
  rw [State.mapGood, Bool.and_eq_true, Bool.and_eq_true, hspans, limitsHold_iff, decide_eq_true_iff,
    State.enrolledRatings_eq_sum, and_assoc, and_assoc]

/-- Settles O15: a good map, any other, and RUNNING. -/
theorem commitStartsRunningFromAGoodMap : Obligations.CommitStartsRunningFromAGoodMap := by
  unfold Obligations.CommitStartsRunningFromAGoodMap
  intro p tag s hp run good
  have htakes : s.takes p .commit := hp.office rfl rfl
  have hgood : s.mapGood = true ↔ good := s.mapGood_iff
  exact ⟨fun hctl => htakes.refuses (takeCommit_running hctl) rfl,
    fun hctl hbad => htakes.refuses (takeCommit_bad hctl (mt hgood.mp hbad)) rfl,
    fun hctl h => ⟨_, htakes.accepts (takeCommit_good hctl (hgood.mpr h)) rfl, rfl,
      fun b => s.committedBeds_get b, rfl⟩⟩

end Sys2Proof.Machine
end

section
/-! Alerts: what raising them writes into one bit of the pending sets of the ports (R178). -/

namespace Sys2Proof.Machine

variable {s t u : State} {n : Nat} {R R' : PortId → Prop}

/-- From `s` to `t` bit `n` of the pending sets has joined at exactly the ports of `R` whose mask enables it;
roles and masks stand. -/
def Rings (n : Nat) (R : PortId → Prop) (s t : State) : Prop :=
  ∀ p, (t.port p).role = (s.port p).role ∧ (t.port p).mask = (s.port p).mask ∧
    ((t.port p).alerts.getLsbD n = true ↔
      (s.port p).alerts.getLsbD n = true ∨ (s.port p).mask.getLsbD n = true ∧ R p)

/-- Bit `n` of every pending set stands. -/
abbrev Quiet (n : Nat) (s t : State) : Prop := Rings n (fun _ => False) s t

theorem Rings.role (h : Rings n R s t) (p : PortId) : (t.port p).role = (s.port p).role := (h p).1

theorem Rings.mask (h : Rings n R s t) (p : PortId) : (t.port p).mask = (s.port p).mask := (h p).2.1

theorem Rings.bit_iff (h : Rings n R s t) (p : PortId) : (t.port p).alerts.getLsbD n = true ↔
    (s.port p).alerts.getLsbD n = true ∨ (s.port p).mask.getLsbD n = true ∧ R p := (h p).2.2

theorem Quiet.of_ports (h : ∀ p, (t.port p).role = (s.port p).role ∧ (t.port p).mask = (s.port p).mask ∧
    (t.port p).alerts = (s.port p).alerts) : Quiet n s t := fun p =>
  ⟨(h p).1, (h p).2.1, by simp [(h p).2.2]⟩

theorem Quiet.of_eq (h : t.ports = s.ports) : Quiet n s t :=
  .of_ports fun p => by simp [State.port, h]

theorem Rings.trans (h : Rings n R s t) (h' : Rings n R' t u) :
    Rings n (fun p => R p ∨ R' p) s u := fun p => by
  obtain ⟨hrole, hmask, hbit⟩ := h p
  obtain ⟨hrole', hmask', hbit'⟩ := h' p
  refine ⟨hrole'.trans hrole, hmask'.trans hmask, ?_⟩
  rw [hbit', hbit, hmask]
  tauto

theorem Rings.congr (h : Rings n R s t) (hR : ∀ p, R p ↔ R' p) : Rings n R' s t := fun p =>
  ⟨h.role p, h.mask p, by rw [h.bit_iff, hR]⟩

theorem Rings.quiet (h : Rings n R s t) (h' : Quiet n t u) : Rings n R s u :=
  (h.trans h').congr fun _ => Iff.of_eq (or_false _)

theorem Rings.rings (h : Quiet n s t) (h' : Rings n R t u) : Rings n R s u :=
  (h.trans h').congr fun _ => Iff.of_eq (false_or _)

theorem Quiet.refl (s : State) : Quiet n s s := .of_eq rfl

theorem Rings.alertedAt (h : Rings n R s t) {p : PortId} (hp : R p) : alertedAt s t p n := fun hmask =>
  (h.bit_iff p).mpr (.inr ⟨hmask, hp⟩)

/-- A port that the alert does not reach keeps the bit. -/
theorem Rings.bit_eq (h : Rings n R s t) {p : PortId} (hp : ¬ R p) :
    (t.port p).alerts.getLsbD n = (s.port p).alerts.getLsbD n := by
  rw [Bool.eq_iff_iff, h.bit_iff]
  tauto

/-! ### Raising one kind -/

variable {k : AlertKind}

theorem raise_rings (s : State) (k : AlertKind) (w : Toward) :
    Rings k.num (fun p => w.sees p (s.port p).role = true) s (s.raise k w) := fun p => by
  rw [State.raise_port]
  refine ⟨Port.join_role .., Port.join_mask .., ?_⟩
  unfold Port.join
  split
  · next h =>
    rw [Bool.and_eq_true] at h
    simp [h.1, h.2]
  · next h =>
    rw [Bool.and_eq_true, not_and] at h
    refine ⟨.inl, fun hbit => hbit.resolve_right fun ⟨hmask, hsees⟩ => h hsees hmask⟩

theorem raise_quiet (s : State) (w : Toward) (hn : n ≠ k.num) : Quiet n s (s.raise k w) := fun p => by
  rw [State.raise_port]
  refine ⟨Port.join_role .., Port.join_mask .., ?_⟩
  unfold Port.join
  split
  · have hbit : k.bit.getLsbD n = false := by
      rw [← Bool.not_eq_true, AlertKind.bit_getLsbD_iff]
      exact hn
    simp [hbit]
  · simp

theorem everyPort_sees (p : PortId) (r : Role) : Toward.sees .everyPort p r = true ↔ r ≠ .off := by
  cases r <;> simp [Toward.sees]

theorem raise_everyPort_rings (s : State) (k : AlertKind) :
    Rings k.num (fun p => (s.port p).role ≠ .off) s (s.raise k .everyPort) :=
  (raise_rings s k .everyPort).congr fun p => everyPort_sees p _

theorem raiseIf_rings (s : State) (c : Bool) (k : AlertKind) :
    Rings k.num (fun p => c = true ∧ (s.port p).role ≠ .off) s (s.raiseIf c k) := by
  unfold State.raiseIf
  split
  · next h => exact (raise_everyPort_rings s k).congr fun p => by simp [h]
  · next h => exact (Quiet.refl s).congr fun p => by simp [h]

theorem raiseIf_quiet (s : State) (c : Bool) (hn : n ≠ k.num) : Quiet n s (s.raiseIf c k) := by
  unfold State.raiseIf
  split
  · exact raise_quiet s _ hn
  · exact .refl s

/-! ### Raising one kind toward several beds -/

theorem raiseBeds_cons (s : State) (k : AlertKind) (pick : BedId → Bool) (l : List BedId) :
    let f := fun (s : State) b => if pick b then s.raise k (s.towardBed b) else s
    Rings k.num (fun p => ∃ b ∈ l, pick b = true ∧ (s.towardBed b).sees p (s.port p).role = true) s
      (l.foldl f s) := by
  intro f
  induction l generalizing s with
  | nil => exact (Quiet.refl s).congr fun p => by simp
  | cons b l ih =>
    have hb : Rings k.num (fun p => pick b = true ∧ (s.towardBed b).sees p (s.port p).role = true) s (f s b) := by
      change Rings _ _ s (if pick b then _ else s)
      split
      · next h => exact (raise_rings s k _).congr fun p => by simp [h]
      · next h => exact (Quiet.refl s).congr fun p => by simp [h]
    have htoward : ∀ c, (f s b).towardBed c = s.towardBed c := fun c => by
      change (if pick b then _ else s : State).towardBed c = _
      split <;> rfl
    refine (hb.trans (ih (f s b))).congr fun p => ?_
    simp only [htoward, hb.role p, List.mem_cons, exists_eq_or_imp]

theorem raiseBeds_rings (s : State) (k : AlertKind) (pick : BedId → Bool) :
    Rings k.num (fun p => ∃ b, pick b = true ∧ (s.towardBed b).sees p (s.port p).role = true) s
      (s.raiseBeds k pick) :=
  (raiseBeds_cons s k pick _).congr fun p => by simp

theorem raiseBeds_quiet (s : State) (pick : BedId → Bool) (hn : n ≠ k.num) : Quiet n s (s.raiseBeds k pick) := by
  unfold State.raiseBeds
  refine List.foldlRecOn (motive := fun t => Quiet n s t) _ _ (.refl s) fun t ht b _ => ?_
  split
  · exact ht.quiet (raise_quiet t _ hn)
  · exact ht

/-- Raising alerts toward beds writes the ports alone. -/
theorem raiseBeds_eq (s : State) (k : AlertKind) (pick : BedId → Bool) :
    s.raiseBeds k pick = { s with ports := (s.raiseBeds k pick).ports } := by
  have hfold : ∀ (l : List BedId) (t : State), t = { s with ports := t.ports } →
      l.foldl (fun s b => if pick b then s.raise k (s.towardBed b) else s) t =
        { s with ports :=
          (l.foldl (fun s b => if pick b then s.raise k (s.towardBed b) else s) t).ports } := by
    intro l
    induction l with
    | nil => exact fun t ht => ht
    | cons b l ih =>
      intro t ht
      refine ih _ ?_
      dsimp only
      split
      · exact congrArg (fun u : State => { u with ports := (t.raise k (t.towardBed b)).ports }) ht
      · exact ht
  exact hfold _ s rfl

/-- The ports that see a bed's alerts. -/
theorem towardBed_sees_iff (s : State) (b : BedId) (p : PortId) :
    (s.towardBed b).sees p (s.port p).role = true ↔ s.watches p b := by
  rw [State.towardBed, State.watches]
  generalize (s.port p).role = r
  generalize s.bed b = o
  cases r <;> cases o <;> simp [Toward.sees]

/-! ### The rest of an event -/

theorem close_quiet (e : Event) (hn : n ≠ 14) : Quiet n e.st e.close := by
  obtain ⟨-, h⟩ | ⟨-, h⟩ := e.close_cases
  · exact .of_eq (by rw [h])
  · rw [h]
    exact Rings.rings (.of_eq rfl) (raiseIf_quiet _ _ hn)

theorem answered_quiet (s : State) (p : PortId) (tag : Byte) (k : RequestKind) (r : Result) (a : Answer) :
    Quiet n s (s.answered p tag k r a) :=
  .of_ports fun q => by
    rw [State.answered, State.modPort_port]
    split <;> simp_all

theorem allocate_quiet (e : Event) (hn : n ≠ 8) : Quiet n e.st (allocate e).st := fun p => by
  have hraise := raiseIf_quiet (k := .curtailed) e.st (!e.st.writeAllocation.curtailedBeds.isEmpty) hn p
  rwa [State.raiseIf_port, ← allocate_port] at hraise

end Sys2Proof.Machine
end

section
/-! The probe table, and the course of a scan to its completion (O16, O18). -/

namespace Sys2Proof.Machine

variable {s : State}

/-! ### DEFINE_PROBE -/

theorem calibrationInRange_iff (rl rh : Nat) (tl th : Int) : calibrationInRange rl tl rh th = true ↔
    1 ≤ rl ∧ rl < rh ∧ rh ≤ 4094 ∧ -400 ≤ tl ∧ tl ≤ 950 ∧ -400 ≤ th ∧ th ≤ 950 := by
  simp only [calibrationInRange, between, betweenI, Bool.and_eq_true, decide_eq_true_eq]
  omega

theorem State.assignable_iff (s : State) (a : Assignment) :
    ¬ s.assignable a = true ↔ ∃ b : BedId, a = .bed b ∧ s.bed b = none := by
  cases a <;> simp [State.assignable]

/-- The probes assigned as given, but for one channel, counted as a set. -/
theorem State.othersAssigned_eq (s : State) (c : Channel) (a : Assignment) : s.othersAssigned c a =
    (Finset.univ.filter fun d : Channel => d ≠ c ∧ s.scan.probes[d].assignment = a).card := by
  rw [State.othersAssigned, ← List.toFinset_card_of_nodup ((List.nodup_finRange 64).filter _)]
  congr 1
  ext d
  simp

/-- No more than 63 other channels can be assigned as given. -/
theorem State.othersAssigned_lt (s : State) (c : Channel) (a : Assignment) : s.othersAssigned c a < 64 := by
  rw [State.othersAssigned_eq]
  refine (Finset.card_lt_card (t := Finset.univ) ?_).trans_eq (Finset.card_fin 64)
  rw [Finset.ssubset_univ_iff]
  intro hall
  have hc := Finset.mem_univ c
  rw [← hall, Finset.mem_filter] at hc
  exact hc.2.1 rfl

theorem State.assignmentFull_iff (s : State) (c : Channel) (a : Assignment) :
    assignmentLimit a < s.othersAssigned c a + 1 ↔
      (a = .yard ∧ 4 ≤ s.othersAssigned c a) ∨ (∃ b : BedId, a = .bed b ∧ 6 ≤ s.othersAssigned c a) := by
  have hlt := s.othersAssigned_lt c a
  cases a with
  | unassigned =>
    simp only [assignmentLimit, reduceCtorEq, false_and, exists_false, or_self, iff_false]
    omega
  | bed b =>
    simp only [assignmentLimit, reduceCtorEq, false_and, Assignment.bed.injEq, exists_and_right, exists_eq',
      true_and, false_or]
    omega
  | yard =>
    simp only [assignmentLimit, true_and, reduceCtorEq, false_and, exists_false, or_false]
    omega

/-- The assignment byte of DEFINE_PROBE. -/
def Assignment.byte : Assignment → Nat
  | .unassigned => 0
  | .bed _ => 1
  | .yard => 2

theorem assignment?_byte {a : Assignment} {bed : Nat} (h : ∀ b : BedId, a = .bed b → bed = b) :
    assignment? a.byte bed = some a := by
  cases a with
  | unassigned | yard => rfl
  | bed b =>
    obtain rfl := h b rfl
    simp [assignment?, Assignment.byte]

theorem assignment?_none {k bed : Nat} (h : 3 ≤ k ∨ (k = 1 ∧ 16 ≤ bed)) : assignment? k bed = none := by
  obtain hk | ⟨rfl, hbed⟩ := h
  · unfold assignment?
    split
    case h_4 => rfl
    all_goals omega
  · simp [assignment?, slot?_none hbed]

theorem takeDefineProbe_bad {n k bed e : Nat} (h : 64 ≤ n ∨ 3 ≤ k ∨ (k = 1 ∧ 16 ≤ bed) ∨ 2 ≤ e)
    (rl : Nat) (tl : Int) (rh : Nat) (th : Int) :
    takeDefineProbe n k bed e rl tl rh th s = refuse s .badValue := by
  unfold takeDefineProbe
  rw [← or_assoc (a := 3 ≤ k)] at h
  obtain hn | ha | he := h
  · rw [slot?_none hn]
  · rw [assignment?_none ha]
    split <;> simp_all
  · rw [flag?_none he]
    split <;> simp_all

/-- The checks of R20 past the bytes, in their order. -/
theorem takeDefineProbe_channel (c : Channel) {a : Assignment} {bed : Nat}
    (h : ∀ b : BedId, a = .bed b → bed = b) (en : Bool) (rl rh : Nat) (tl th : Int) :
    takeDefineProbe c a.byte bed (if en then 1 else 0) rl tl rh th s =
      if ¬ (1 ≤ rl ∧ rl < rh ∧ rh ≤ 4094 ∧ -400 ≤ tl ∧ tl ≤ 950 ∧ -400 ≤ th ∧ th ≤ 950) then refuse s .badValue
      else if ∃ b : BedId, a = .bed b ∧ s.bed b = none then refuse s .noSuch
      else if s.scan.inFlight ≠ none then refuse s .busyScan
      else if (a = .yard ∧ 4 ≤ s.othersAssigned c a) ∨ (∃ b : BedId, a = .bed b ∧ 6 ≤ s.othersAssigned c a) then
        refuse s .full
      else accept { s with scan := { s.scan with
        probes := s.scan.probes.set c (s.scan.probes[c].define a en rl tl rh th) } } .empty := by
  simp only [takeDefineProbe, slot?_val, assignment?_byte h, flag?_ofBool, calibrationInRange_iff,
    State.assignable_iff, Option.isSome_iff_ne_none, State.assignmentFull_iff]

/-- Settles O16: the bytes, then the checks past them. -/
theorem defineProbeChecksInOrder : Obligations.DefineProbeChecksInOrder := by
  unfold Obligations.DefineProbeChecksInOrder
  intro p tag c a bed en rl rh tl th s hp hbed code others q q' run stop
  have htakes : s.takes p .defineProbe := hp.office rfl rfl
  have hcode : code = a.byte := by cases a <;> rfl
  have hrule := takeDefineProbe_channel (s := s) c hbed en rl rh tl th
  rw [State.othersAssigned_eq, ← hcode] at hrule
  refine ⟨?_, fun n k e h => htakes.refuses (takeDefineProbe_bad h rl tl rh th) rfl⟩
  exact htakes.refusesIf hrule rfl fun _ hrule => htakes.refusesIf hrule rfl fun _ hrule =>
    htakes.refusesIf hrule rfl fun _ hrule => htakes.refusesIf hrule rfl fun _ hrule =>
      htakes.accepts hrule rfl

/-! ### The start of a scan -/

theorem State.inScanSet_iff (s : State) (c : Channel) : s.inScanSet c = true ↔ s.scanned c := by
  simp [State.inScanSet, State.scanned]

theorem State.mem_scanSet (s : State) (c : Channel) : c ∈ s.scanSet ↔ s.scanned c := by
  rw [State.scanSet, List.mem_filter, ← s.inScanSet_iff c]
  simp

theorem State.scanSet_sorted (s : State) : s.scanSet.Pairwise (· < ·) :=
  (List.pairwise_lt_finRange 64).filter _

/-- The lowest channel of the set stands first. -/
theorem State.scanSet_lowest {c : Channel} (hc : s.scanned c) (hlow : ∀ d, s.scanned d → c ≤ d) :
    ∃ l, s.scanSet = c :: l := by
  cases hset : s.scanSet with
  | nil =>
    have hmem := (s.mem_scanSet c).mpr hc
    rw [hset] at hmem
    cases hmem
  | cons d l =>
    have hd : s.scanned d := (s.mem_scanSet d).mp (hset ▸ List.mem_cons_self)
    have hsorted := s.scanSet_sorted
    have hmem := (s.mem_scanSet c).mpr hc
    rw [hset] at hsorted hmem
    obtain rfl | hmem := List.mem_cons.mp hmem
    · exact ⟨l, rfl⟩
    · exact absurd ((List.pairwise_cons.mp hsorted).1 c hmem) (not_lt.mpr (hlow d hd))

theorem State.scanSet_empty (h : ∀ d, ¬ s.scanned d) : s.scanSet = [] :=
  List.eq_nil_iff_forall_not_mem.mpr fun d hd => h d ((s.mem_scanSet d).mp hd)

/-- A start on a set with this lowest channel. -/
theorem startScan_at {c : Channel} (hc : s.scanned c) (hlow : ∀ d, s.scanned d → c ≤ d) :
    startScan s.event = (s.startedAt c).event := by
  obtain ⟨l, hl⟩ := State.scanSet_lowest hc hlow
  exact startScan_cons hl

theorem execScanTimerExpiry_idle (h : s.scan.inFlight = none) :
    exec .scanTimerExpiry s = .next (startScan s.event).close := by
  change execScanTimerExpiry s = _
  rw [execScanTimerExpiry, h]

theorem takeScanNow_idle (h : s.scan.inFlight = none) :
    takeScanNow s = acceptEvent (startScan s.event) (.scanNumber (s.scan.number + 1)) := by
  rw [takeScanNow, h]

/-- Settles O18: the rules on a scan in flight and on none. -/
theorem scansStartOverrunAndAbort : Obligations.ScansStartOverrunAndAbort := by
  unfold Obligations.ScansStartOverrunAndAbort
  intro p tag s
  refine ⟨fun c hidle hc hlow => ⟨?_, fun hp => ?_⟩, fun hflight => ?_, fun hidle hp => ?_⟩
  · rw [execScanTimerExpiry_idle hidle, startScan_at hc hlow]
    exact congrArg _ (Event.close_nil _)
  · refine (hp.office rfl rfl : s.takes p .scanNow).accepts (rule := takeScanNow) ?_ rfl
    rw [takeScanNow_idle hidle, startScan_at hc hlow]
    rfl
  · obtain ⟨c, hc⟩ := Option.ne_none_iff_exists'.mp hflight
    refine ⟨?_, fun hp => ⟨?_, ?_⟩⟩
    · have htally : gainTally s.scan.overruns =
          if s.scan.overruns < 65535 then s.scan.overruns + 1 else 65535 := by
        rw [gainTally, maxTally]
        split <;> omega
      change execScanTimerExpiry s = _
      rw [execScanTimerExpiry, hc, htally]
      rfl
    · exact (hp.office rfl rfl : s.takes p .scanNow).refuses (rule := takeScanNow)
        (by rw [takeScanNow, hc]) rfl
    · exact (hp.office rfl rfl : s.takes p .abortScan).accepts (rule := takeAbortScan)
        (by rw [takeAbortScan, hc]; rfl) rfl
  · exact (hp.office rfl rfl : s.takes p .abortScan).refuses (rule := takeAbortScan)
      (by rw [takeAbortScan, hidle]) rfl

end Sys2Proof.Machine
end

section
/-! The completion of a scan and the delivery of its result, record by record (sections 2.5 and 2.6). -/

namespace Sys2Proof.Machine

variable {s t u : State} {n : Nat} {R R' : PortId → Prop}

/-! ### The completed scan -/

/-- A bed with its aggregate formed (R34). -/
def Bed.observed (hold : Nat) (number : Word32) (readings : List Int) (x : Bed) : Bed :=
  { x with agg := x.agg.form hold number readings }

/-- The state with every aggregate formed, before its alerts (R34, R36). -/
def State.observed (s : State) : State :=
  { s with
    beds := onEach (fun b ob => ob.map
      (Bed.observed s.settings.holdLimit s.scan.number (s.usable (.bed b)))) s.beds
    scan := { s.scan with yard := s.scan.yard.form s.settings.holdLimit (s.usable .yard) } }

/-- The beds whose aggregate has just become BLIND (R34). -/
def State.bedsBlinded (s : State) (b : BedId) : Bool := !s.bedBlind b && s.observed.bedBlind b

/-- The yard aggregate has just become BLIND (R36). -/
def State.yardBlinded (s : State) : Bool :=
  s.scan.yard.status != .blind && s.observed.scan.yard.status == .blind

theorem formAggregates_eq (s : State) : formAggregates s =
    (s.observed.raiseBeds .bedBlind s.bedsBlinded).raiseIf s.yardBlinded .yardBlind := by
  unfold formAggregates State.yardBlinded State.bedsBlinded State.observed
  rfl

/-- The next scan's number (R37). -/
def State.numbered (s : State) : State := { s with scan := { s.scan with number := s.scan.number + 1 } }

/-- The end of the scan in flight noted (R37). -/
def State.scanEnded (s : State) : State :=
  { s with scan := { s.scan with inFlight := none, lastDone := some s.now } }

/-- The state at the completion of a scan, before its result is delivered (R37). -/
def State.completed (s : State) : State := (formAggregates s.numbered).scanEnded.raise .scanDone .everyPort

theorem completeScan_eq (e : Event) : completeScan e = deliver ⟨e.st.completed, e.seen ++ [.scanDone]⟩ := rfl

/-- Forming the aggregates writes the beds, the yard aggregate and the ports. -/
theorem formAggregates_frame (s : State) :
    formAggregates s = { s.observed with ports := (formAggregates s).ports } := by
  rw [formAggregates_eq, State.raiseIf_eq, raiseBeds_eq]

theorem State.completed_eq (s : State) :
    s.completed = { s.numbered.observed.scanEnded with ports := s.completed.ports } := by
  rw [State.completed, formAggregates_frame]
  rfl

theorem State.completed_bed (s : State) (b : BedId) : s.completed.bed b = (s.bed b).map
    (Bed.observed s.settings.holdLimit (s.scan.number + 1) (s.usable (.bed b))) := by
  rw [State.completed_eq]
  simp only [State.bed, State.observed, State.numbered, State.scanEnded, onEach_get]
  rfl

/-! ### The alerts of a completion -/

theorem State.observed_quiet (s : State) : Quiet n s s.observed := .of_eq (by rw [State.observed])

theorem State.numbered_quiet (s : State) : Quiet n s s.numbered := .of_eq rfl

theorem State.scanEnded_quiet (s : State) : Quiet n s s.scanEnded := .of_eq rfl

theorem formAggregates_quiet (s : State) (hbed : n ≠ 3) (hyard : n ≠ 4) : Quiet n s (formAggregates s) := by
  have hbeds : Quiet n s.observed (s.observed.raiseBeds .bedBlind s.bedsBlinded) :=
    raiseBeds_quiet (k := .bedBlind) _ _ hbed
  rw [formAggregates_eq]
  exact (s.observed_quiet.rings hbeds).quiet (raiseIf_quiet (k := .yardBlind) _ _ hyard)

theorem formAggregates_rings_bedBlind (s : State) :
    Rings 3 (fun p => ∃ b, s.bedsBlinded b = true ∧ (s.observed.towardBed b).sees p (s.port p).role = true) s
      (formAggregates s) := by
  have hbeds : Rings 3 _ s.observed _ := raiseBeds_rings s.observed .bedBlind s.bedsBlinded
  have hyard : Quiet 3 (s.observed.raiseBeds .bedBlind s.bedsBlinded) _ :=
    raiseIf_quiet (k := .yardBlind) _ s.yardBlinded (by decide)
  rw [formAggregates_eq]
  refine ((s.observed_quiet.rings hbeds).quiet hyard).congr fun p => ?_
  rw [s.observed_quiet (n := 3) |>.role p]

theorem formAggregates_rings_yardBlind (s : State) :
    Rings 4 (fun p => s.yardBlinded = true ∧ (s.port p).role ≠ .off) s (formAggregates s) := by
  have hbeds : Quiet 4 s (s.observed.raiseBeds .bedBlind s.bedsBlinded) :=
    s.observed_quiet.rings (raiseBeds_quiet (k := .bedBlind) _ _ (by decide))
  have hyard := raiseIf_rings (s.observed.raiseBeds .bedBlind s.bedsBlinded) s.yardBlinded .yardBlind
  rw [formAggregates_eq]
  exact hbeds.rings (hyard.congr fun p => by rw [hbeds.role p])

theorem State.completed_quiet_after (s : State) (hdone : n ≠ 0) :
    Quiet n (formAggregates s.numbered) s.completed :=
  (State.scanEnded_quiet _).rings (raise_quiet (k := .scanDone) _ _ hdone)

theorem State.completed_quiet (s : State) (hdone : n ≠ 0) (hbed : n ≠ 3) (hyard : n ≠ 4) :
    Quiet n s s.completed :=
  (s.numbered_quiet.rings (formAggregates_quiet s.numbered hbed hyard)).rings (s.completed_quiet_after hdone)

theorem State.completed_rings_scanDone (s : State) :
    Rings 0 (fun p => (s.port p).role ≠ .off) s s.completed := by
  have hform : Quiet 0 s (formAggregates s.numbered).scanEnded :=
    (s.numbered_quiet.rings (formAggregates_quiet (n := 0) s.numbered (by decide) (by decide))).rings
      (State.scanEnded_quiet _)
  exact hform.rings ((raise_everyPort_rings _ .scanDone).congr fun p => by rw [hform.role p])

/-! ### The delivery in RUNNING -/

/-- The accounting periods of a scan result (R44). -/
def State.periods (s : State) : Vector Nat 16 := onEach (fun _ ob => bedPeriod s.now ob) s.beds

/-- The state with a scan result taken up, before the allocation (R43, R52, R63, R107). -/
def State.takenUp (s : State) : State :=
  regulateAll s.periods (evaluateRelease (evaluateShip (accountAll s)))

theorem deliver_loading {e : Event} (h : e.st.ctl = .loading) : (deliver e).st = e.st := by
  have hctl : (e.see (.queuedMoves e.st.queued.length)).st.ctl = .loading := h
  simp only [deliver, hctl]
  rfl

theorem deliver_running {e : Event} (h : e.st.ctl = .running) :
    deliver e = allocate ⟨e.st.takenUp, e.seen ++ [.queuedMoves e.st.queued.length]⟩ := by
  have hctl : (e.see (.queuedMoves e.st.queued.length)).st.ctl = .running := h
  simp only [deliver, hctl, takeUp, State.takenUp, State.periods]
  rfl

/-- A bed after the accounting, the release and the regulation of a scan result. -/
def State.takenUpBed (s : State) (b : BedId) (x : Bed) : Bed :=
  Bed.regulate (s.heatInput s.periods[b]) s.profiles[b]
    (Bed.release s.now (Bed.account s.now s.settings.datum s.settings.maturityCeiling x))

/-- The beds after the release evaluation. -/
def State.released (s : State) : State :=
  { s with beds := onEach (fun _ ob => ob.map (Bed.release s.now)) s.beds }

theorem evaluateRelease_eq (s : State) : evaluateRelease s =
    s.released.raiseBeds .bedReleasable fun b => ((s.bed b).map (Bed.ripe s.now)).getD false := by
  rw [evaluateRelease, State.released]

theorem evaluateRelease_frame (s : State) :
    evaluateRelease s = { s.released with ports := (evaluateRelease s).ports } := by
  rw [evaluateRelease_eq, raiseBeds_eq]

/-- The beds after the regulation. -/
def State.regulated (minutes : Vector Nat 16) (s : State) : State :=
  { s with beds := onEach (fun b ob => ob.map (Bed.regulate (s.heatInput minutes[b]) s.profiles[b])) s.beds }

/-- A flag of the regulation record that the regulation has just set. -/
def State.flagEntered (minutes : Vector Nat 16) (s : State) (f : Regulation → Bool) (b : BedId) : Bool :=
  !s.heatFlag f b && (s.regulated minutes).heatFlag f b

theorem State.flagEntered_eq (minutes : Vector Nat 16) (s : State) (f : Regulation → Bool) :
    (fun b => !s.heatFlag f b && (s.regulated minutes).heatFlag f b) = s.flagEntered minutes f := rfl

theorem regulateAll_eq (minutes : Vector Nat 16) (s : State) : regulateAll minutes s =
    ((s.regulated minutes).raiseBeds .frost (s.flagEntered minutes fun g => g.frost)).raiseBeds .overheat
      (s.flagEntered minutes fun g => g.overheat) := by
  rw [regulateAll, ← s.flagEntered_eq, ← s.flagEntered_eq, State.regulated]

theorem regulateAll_frame (minutes : Vector Nat 16) (s : State) :
    regulateAll minutes s = { s.regulated minutes with ports := (regulateAll minutes s).ports } := by
  rw [regulateAll_eq, raiseBeds_eq, raiseBeds_eq (s.regulated minutes)]

/-- `t` differs from `s` in its beds, its pieces and its ports alone. -/
abbrev State.BedsAndPieces (s t : State) : Prop :=
  t = { s with beds := t.beds, pieces := t.pieces, ports := t.ports }

theorem State.BedsAndPieces.trans {s t u : State} (h : s.BedsAndPieces t) (h' : t.BedsAndPieces u) :
    s.BedsAndPieces u :=
  Eq.trans h' (congrArg (fun v : State => { v with beds := u.beds, pieces := u.pieces, ports := u.ports }) h)

theorem accountAll_frame (s : State) : s.BedsAndPieces (accountAll s) := by
  rw [State.BedsAndPieces, accountAll]

theorem accountAll_bed (s : State) (b : BedId) : (accountAll s).bed b =
    (s.bed b).map (Bed.account s.now s.settings.datum s.settings.maturityCeiling) := by
  simp only [State.bed, accountAll, onEach_get]

theorem evaluateShip_frame (s : State) : s.BedsAndPieces (evaluateShip s) := by
  rw [State.BedsAndPieces, evaluateShip, State.raiseIf_eq]

theorem evaluateShip_bed (s : State) (b : BedId) : (evaluateShip s).bed b = s.bed b := by
  rw [evaluateShip, State.bed, State.raiseIf_beds]
  rfl

theorem evaluateRelease_sameBut (s : State) : s.BedsAndPieces (evaluateRelease s) := by
  rw [State.BedsAndPieces, evaluateRelease_frame, State.released]

theorem evaluateRelease_bed (s : State) (b : BedId) :
    (evaluateRelease s).bed b = (s.bed b).map (Bed.release s.now) := by
  rw [evaluateRelease_frame, State.released]
  simp only [State.bed, onEach_get]

theorem evaluateRelease_pieces (s : State) : (evaluateRelease s).pieces = s.pieces := by
  rw [evaluateRelease_frame, State.released]

theorem regulateAll_sameBut (minutes : Vector Nat 16) (s : State) :
    s.BedsAndPieces (regulateAll minutes s) := by
  rw [State.BedsAndPieces, regulateAll_frame, State.regulated]

theorem regulateAll_bed (minutes : Vector Nat 16) (s : State) (b : BedId) :
    (regulateAll minutes s).bed b =
      (s.bed b).map (Bed.regulate (s.heatInput minutes[b]) s.profiles[b]) := by
  rw [regulateAll_frame, State.regulated]
  simp only [State.bed, onEach_get]

theorem regulateAll_pieces (minutes : Vector Nat 16) (s : State) :
    (regulateAll minutes s).pieces = s.pieces := by
  rw [regulateAll_frame, State.regulated]

/-- The readiness evaluation's and the release's state, before the regulation. -/
def State.judged (s : State) : State := evaluateRelease (evaluateShip (accountAll s))

theorem State.judged_frame (s : State) : s.BedsAndPieces s.judged :=
  ((accountAll_frame s).trans (evaluateShip_frame _)).trans (evaluateRelease_sameBut _)

theorem State.BedsAndPieces.now {s t : State} (h : s.BedsAndPieces t) : t.now = s.now :=
  (congrArg State.now h :)

theorem State.BedsAndPieces.heatInput {s t : State} (h : s.BedsAndPieces t) (n : Nat) :
    t.heatInput n = s.heatInput n := (congrArg (fun v => State.heatInput v n) h :)

theorem State.BedsAndPieces.profiles {s t : State} (h : s.BedsAndPieces t) : t.profiles = s.profiles :=
  (congrArg State.profiles h :)

/-- A scan result taken up writes the beds, the pieces and the ports. -/
theorem State.takenUp_frame (s : State) : s.BedsAndPieces s.takenUp :=
  s.judged_frame.trans (regulateAll_sameBut _ _)

theorem State.takenUp_pieces (s : State) : s.takenUp.pieces = (evaluateShip (accountAll s)).pieces :=
  (regulateAll_pieces _ _).trans (evaluateRelease_pieces _)

theorem State.judged_bed (s : State) (b : BedId) : s.judged.bed b =
    (s.bed b).map fun x =>
      Bed.release s.now (Bed.account s.now s.settings.datum s.settings.maturityCeiling x) := by
  have hnow : (evaluateShip (accountAll s)).now = s.now :=
    ((accountAll_frame s).trans (evaluateShip_frame _)).now
  rw [State.judged, evaluateRelease_bed, hnow, evaluateShip_bed, accountAll_bed, Option.map_map]
  rfl

theorem State.takenUp_bed (s : State) (b : BedId) : s.takenUp.bed b = (s.bed b).map (s.takenUpBed b) := by
  rw [State.takenUp, regulateAll_bed]
  change (s.judged.bed b).map (Bed.regulate (s.judged.heatInput _) s.judged.profiles[b]) = _
  rw [s.judged_frame.heatInput, s.judged_frame.profiles, State.judged_bed, Option.map_map]
  rfl

end Sys2Proof.Machine
end

section
/-! One conversion judged, and the events that complete a scan (O19). -/

namespace Sys2Proof.Machine

variable {s t u : State} {n : Nat} {R R' : PortId → Prop}

/-! ### The temperature of a raw code (R30) -/

/-- The nearest whole number to a quotient that is not negative. -/
theorem nearest_unique_nonneg {n d r : Int} (hd : 0 < d) (hn : 0 ≤ n) (hnear : 2 * |r * d - n| ≤ d)
    (htie : 2 * |r * d - n| = d → |n| < |r * d|) : (2 * n + d) / (2 * d) = r := by
  have hr : 0 ≤ r := by
    by_contra hneg
    have hle : r * d ≤ -d := by nlinarith
    have habs : |r * d - n| = n - r * d := by rw [abs_of_nonpos (by omega)]; omega
    omega
  have hrd : 0 ≤ r * d := Int.mul_nonneg hr hd.le
  rw [abs_of_nonneg hn, abs_of_nonneg hrd] at htie
  have hlow : 2 * n - d < 2 * (r * d) := by
    obtain h | h := abs_cases (r * d - n) <;> omega
  have hhigh : 2 * (r * d) ≤ 2 * n + d := by
    obtain h | h := abs_cases (r * d - n) <;> omega
  rw [Int.ediv_eq_iff_of_pos (by omega)]
  constructor <;> nlinarith

theorem roundHalfAway_eq {n d r : Int} (hd : 0 < d) (hnear : 2 * |r * d - n| ≤ d)
    (htie : 2 * |r * d - n| = d → |n| < |r * d|) : roundHalfAway n d = r := by
  unfold roundHalfAway
  split
  · next hn => exact nearest_unique_nonneg hd hn hnear htie
  · next hn =>
    have hflip : |(-r) * d - (-n)| = |r * d - n| := by
      rw [← abs_neg]
      congr 1
      ring
    have hunique := nearest_unique_nonneg (n := -n) (r := -r) hd (by omega) (by rwa [hflip])
      (by rw [hflip, abs_neg, Int.neg_mul, abs_neg]; exact htie)
    rw [hunique, neg_neg]

/-- A probe reads a code as the model converts it. -/
theorem Probe.reads_convert {q : Probe} {raw : Nat} {temp : Int} (hcal : q.rawLo < q.rawHi)
    (h : q.reads raw temp) : convert q raw = temp := by
  obtain ⟨r, hnear, htie, rfl⟩ := h
  rw [convert, roundHalfAway_eq (by omega) hnear htie, clampTemp, min_comm]

/-! ### One conversion judged -/

/-- The state with one probe's record written. -/
def State.putProbe (s : State) (c : Channel) (x : Probe) : State :=
  { s with scan := { s.scan with probes := s.scan.probes.set c x } }

/-- The faulted conversion makes the probe FAULT (R32). -/
def Probe.entersFault (persistence : Nat) (q : Probe) : Bool :=
  q.readState != .fault && (q.fail persistence).readState == .fault

theorem judge_faulted {c : Channel} {raw : Nat} (h : faulted s.settings.stepLimit s.scan.probes[c] raw = true) :
    judge c raw s.event =
      ⟨(s.putProbe c (s.scan.probes[c].fail s.settings.faultPersistence)).raiseIf
          (s.scan.probes[c].entersFault s.settings.faultPersistence) .probeFault,
        [.probeFault s.scan.probes[c].assignment.bed?]⟩ := by
  unfold judge
  exact if_pos h

theorem judge_good {c : Channel} {raw : Nat} (h : ¬ faulted s.settings.stepLimit s.scan.probes[c] raw = true) :
    judge c raw s.event =
      (s.putProbe c (s.scan.probes[c].read (convert s.scan.probes[c] raw) (s.scan.number + 1))).event := by
  unfold judge
  exact if_neg h

/-- A judged probe keeps its definition, and with it the scan set. -/
theorem State.putProbe_scanned {c : Channel} {x : Probe} (henabled : x.enabled = s.scan.probes[c].enabled)
    (hassigned : x.assignment = s.scan.probes[c].assignment) (d : Channel) :
    (s.putProbe c x).scanned d ↔ s.scanned d := by
  have hget : (s.putProbe c x).scan.probes[d] = if c = d then x else s.scan.probes[d] := vector_set_get _ _ _ _
  rw [State.scanned, State.scanned, hget]
  split
  · next h => rw [henabled, hassigned, h]
  · rfl

theorem State.scanSet_congr (h : ∀ d, t.scanned d ↔ s.scanned d) : t.scanSet = s.scanSet := by
  refine List.filter_congr fun d _ => ?_
  rw [Bool.eq_iff_iff, State.inScanSet_iff, State.inScanSet_iff, h]

/-- A conversion leaves the scan set. -/
theorem judge_scanSet (c : Channel) (raw : Nat) : (judge c raw s.event).st.scanSet = s.scanSet := by
  by_cases h : faulted s.settings.stepLimit s.scan.probes[c] raw = true
  · rw [judge_faulted h]
    refine State.scanSet_congr fun d => ?_
    rw [State.scanned, State.raiseIf_scan]
    exact State.putProbe_scanned (x := s.scan.probes[c].fail _) rfl rfl d
  · rw [judge_good h]
    exact State.scanSet_congr (State.putProbe_scanned (x := s.scan.probes[c].read _ _) rfl rfl)

/-- The next higher channel of the set (R28). -/
theorem State.nextChannel_some {c d : Channel} (hlt : c < d) (hd : s.scanned d)
    (hlow : ∀ e, c < e → s.scanned e → d ≤ e) : s.nextChannel c = some d := by
  rw [State.nextChannel, List.find?_eq_some_iff_append]
  obtain ⟨l, r, hsplit⟩ := List.append_of_mem ((s.mem_scanSet d).mpr hd)
  refine ⟨by simpa using hlt, l, r, hsplit, fun e he => ?_⟩
  have hsorted := s.scanSet_sorted
  rw [hsplit, List.pairwise_append] at hsorted
  have hlt' : e < d := hsorted.2.2 e he d List.mem_cons_self
  have hscanned : s.scanned e := (s.mem_scanSet e).mp (hsplit ▸ List.mem_append_left _ he)
  have hnot : ¬ c < e := fun hce => absurd (hlow e hce hscanned) (not_le.mpr hlt')
  simpa using hnot

theorem State.nextChannel_none {c : Channel} (hlast : ∀ d, s.scanned d → d ≤ c) : s.nextChannel c = none := by
  rw [State.nextChannel, List.find?_eq_none]
  intro d hd
  simpa using hlast d ((s.mem_scanSet d).mp hd)

theorem judge_nextChannel (c : Channel) (raw : Nat) :
    (judge c raw s.event).st.nextChannel c = s.nextChannel c := by
  rw [State.nextChannel, State.nextChannel, judge_scanSet]

theorem execConversionCompletion_flight {c : Channel} (h : s.scan.inFlight = some c) (raw : BitVec 12) :
    exec (.conversionCompletion raw) s = .next (convertChannel c raw.toNat s.event).close := by
  change execConversionCompletion raw s = _
  rw [execConversionCompletion, h]

theorem convertChannel_next {c d : Channel} {raw : Nat} (h : s.nextChannel c = some d) :
    convertChannel c raw s.event =
      (judge c raw s.event).upd fun s => { s with scan := { s.scan with inFlight := some d } } := by
  rw [← judge_nextChannel c raw] at h
  simp only [convertChannel, h]

theorem convertChannel_last {c : Channel} {raw : Nat} (h : s.nextChannel c = none) :
    convertChannel c raw s.event = completeScan (judge c raw s.event) := by
  rw [← judge_nextChannel c raw] at h
  simp only [convertChannel, h]

/-! ### The events that complete a scan -/

/-- What the state at a scan's completion has kept of the state before the event: all but the probes, the
countdown, the scan in flight and the alert of an entry into FAULT. -/
structure State.Prepared (s u : State) : Prop where
  frame : u = { s with
    scan := { s.scan with
      probes := u.scan.probes, countdown := u.scan.countdown, remaining := u.scan.remaining
      inFlight := u.scan.inFlight }
    ports := u.ports }
  quiet : ∀ n, n ≠ 2 → Quiet n s u
  marks : s.scan.inFlight = none → ∀ c : Channel, u.scan.probes[c] = { s.scan.probes[c] with mark := false }
  countdown : (u.scan.countdown, u.scan.remaining) = (match s.scan.inFlight with
    | none => (s.settings.scanInterval, s.settings.scanInterval)
    | some _ => (s.scan.countdown, s.scan.remaining))

/-- What the end of an event leaves of its state: all but the ports and the counters, and of the alerts all but
COUNTER_OVERFLOW. -/
structure State.Settled (v t : State) : Prop where
  frame : t = { v with ports := t.ports, counters := t.counters }
  quiet : ∀ n, n ≠ 14 → Quiet n v t

theorem Event.close_settled (e : Event) : e.st.Settled e.close := ⟨e.close_eq, fun _ => close_quiet e⟩

theorem respond_settled (p : PortId) (tag : Byte) (k : RequestKind) (e : Event) (a : Answer) :
    e.st.Settled (respond p tag k.code (acceptEvent e a)) := by
  rw [respond_acceptEvent]
  refine ⟨?_, fun n hn => (answered_quiet e.st p tag k .ok a).quiet (close_quiet _ hn)⟩
  rw [Event.close_eq]
  rfl

theorem Event.close_tx (e : Event) (p : PortId) : (e.close.port p).tx = (e.st.port p).tx := by
  obtain h | h := e.close_port p <;> simp [h]

theorem respond_tx (p : PortId) (tag : Byte) (k : RequestKind) (e : Event) (a : Answer) :
    ((respond p tag k.code (acceptEvent e a)).port p).tx = .formed ⟨tag, k.code, .ok, a⟩ := by
  rw [respond_acceptEvent, Event.close_tx]
  simp [Event.upd, State.answered, State.modPort_port]

theorem State.startedWith_prepared (hidle : s.scan.inFlight = none) : s.Prepared (s.startedWith none) where
  frame := by rw [State.startedWith]
  quiet n _ := .of_eq (by rw [State.startedWith])
  marks _ c := by simp only [State.startedWith, onEach_get]
  countdown := by rw [hidle, State.startedWith]

theorem judge_prepared {c : Channel} (h : s.scan.inFlight = some c) (raw : Nat) :
    s.Prepared (judge c raw s.event).st := by
  by_cases hfault : faulted s.settings.stepLimit s.scan.probes[c] raw = true
  · rw [judge_faulted hfault]
    refine ⟨?_, fun n hn => ?_, fun hnone => absurd (h.symm.trans hnone) (by simp), ?_⟩
    · rw [State.raiseIf_eq]
      rfl
    · exact Rings.rings (.of_eq (by rw [State.putProbe])) (raiseIf_quiet (k := .probeFault) _ _ hn)
    · rw [State.raiseIf_scan, h]
      rfl
  · rw [judge_good hfault]
    refine ⟨rfl, fun n hn => .of_eq (by rw [State.event, State.putProbe]), fun hnone =>
      absurd (h.symm.trans hnone) (by simp), ?_⟩
    rw [h]
    rfl

/-- An event that completes a scan: a start with an empty set, or the conversion of its last channel. -/
theorem State.completesScan.run {i : Instr} (h : s.completesScan i) :
    ∃ (e : Event) (t : State), exec i s = .next t ∧ s.Prepared e.st ∧ (completeScan e).st.Settled t ∧
      ∀ p tag, i = .scanNow p tag →
        (t.port p).tx = .formed ⟨tag, 0x13, .ok, .scanNumber (s.scan.number + 1)⟩ := by
  obtain ⟨raw, c, rfl, hflight, hlast⟩ | ⟨hidle, hnone, hi⟩ := h
  · refine ⟨judge c raw.toNat s.event, _, execConversionCompletion_flight hflight raw,
      judge_prepared hflight raw.toNat, ?_, fun _ _ hi => by cases hi⟩
    rw [convertChannel_last (s.nextChannel_none hlast)]
    exact Event.close_settled _
  · have hstart : startScan s.event = completeScan (s.startedWith none).event :=
      startScan_empty (e := s.event) (State.scanSet_empty hnone)
    refine ⟨(s.startedWith none).event, ?_⟩
    obtain rfl | ⟨p, tag, rfl, hp⟩ := hi
    · refine ⟨_, execScanTimerExpiry_idle hidle, State.startedWith_prepared hidle, ?_, fun _ _ hi => by cases hi⟩
      rw [hstart]
      exact Event.close_settled _
    · refine ⟨_, (hp.office rfl rfl : s.takes p .scanNow).run (rule := takeScanNow) rfl,
        State.startedWith_prepared hidle, ?_, fun q tag' hi => ?_⟩
      · rw [takeScanNow_idle hidle, hstart]
        exact respond_settled p tag .scanNow _ _
      · cases hi
        rw [takeScanNow_idle hidle]
        exact respond_tx p tag .scanNow _ _

end Sys2Proof.Machine
end

section
/-! What the completion of a scan leaves and raises, and the conversions (O19). -/

namespace Sys2Proof.Machine

variable {s t u : State} {n : Nat}

/-! ### The state after a completion -/

theorem allocate_after {e : Event} (h : s.BedsAndPieces e.st) : (allocate e).st =
    { s with
      beds := (allocate e).st.beds, pieces := (allocate e).st.pieces, budget := (allocate e).st.budget
      ports := (allocate e).st.ports } := by
  rw [allocate_pieces]
  exact (allocate_frame e).trans (congrArg (fun v : State => { v with
    beds := (allocate e).st.beds, budget := (allocate e).st.budget, ports := (allocate e).st.ports }) h)

/-- The receivers of a scan result write the beds, the pieces, the heat and the ports. -/
theorem deliver_frame (e : Event) : (deliver e).st =
    { e.st with
      beds := (deliver e).st.beds, pieces := (deliver e).st.pieces, budget := (deliver e).st.budget
      ports := (deliver e).st.ports } := by
  cases hctl : e.st.ctl with
  | loading => rw [deliver_loading hctl]
  | running =>
    rw [deliver_running hctl]
    exact allocate_after e.st.takenUp_frame

/-- The Scan Unit at the completion of a scan (R36, R37). -/
def State.scanUnitCompleted (s : State) : ScanUnit :=
  { s.scan with
    number := s.scan.number + 1, inFlight := none, lastDone := some s.now
    yard := s.scan.yard.form s.settings.holdLimit (s.usable .yard) }

theorem State.completed_frame (s : State) : s.completed =
    { s with beds := s.completed.beds, scan := s.scanUnitCompleted, ports := s.completed.ports } := by
  have hscan : s.numbered.observed.scanEnded.scan = s.scanUnitCompleted := by
    rw [State.scanEnded, State.observed, State.numbered, State.scanUnitCompleted]
    rfl
  have hframe : s.numbered.observed.scanEnded =
      { s with beds := s.numbered.observed.scanEnded.beds, scan := s.numbered.observed.scanEnded.scan } := by
    rw [State.scanEnded, State.observed, State.numbered]
  have hbeds : s.completed.beds = s.numbered.observed.scanEnded.beds := by rw [State.completed_eq]
  rw [hbeds, ← hscan]
  exact s.completed_eq.trans
    (congrArg (fun v : State => { v with ports := s.completed.ports }) hframe)

theorem completeScan_frame (e : Event) : (completeScan e).st =
    { e.st with
      beds := (completeScan e).st.beds, scan := e.st.scanUnitCompleted, pieces := (completeScan e).st.pieces
      budget := (completeScan e).st.budget, ports := (completeScan e).st.ports } := by
  rw [completeScan_eq]
  generalize hscanned : (⟨e.st.completed, e.seen ++ [Happening.scanDone]⟩ : Event) = e'
  have hst : e'.st = e.st.completed := by rw [← hscanned]
  exact (deliver_frame e').trans (congrArg (fun v : State => { v with
    beds := (deliver e').st.beds, pieces := (deliver e').st.pieces, budget := (deliver e').st.budget
    ports := (deliver e').st.ports }) (hst.trans e.st.completed_frame))

/-! ### The alerts of a delivery -/

theorem evaluateShip_quiet (s : State) (hn : n ≠ 13) : Quiet n s (evaluateShip s) := by
  rw [evaluateShip]
  exact Rings.rings (.of_eq rfl) (raiseIf_quiet (k := .shipReady) _ _ hn)

theorem evaluateRelease_quiet (s : State) (hn : n ≠ 5) : Quiet n s (evaluateRelease s) := by
  rw [evaluateRelease_eq]
  exact Rings.rings (.of_eq (by rw [State.released])) (raiseBeds_quiet (k := .bedReleasable) _ _ hn)

theorem regulateAll_quiet (minutes : Vector Nat 16) (s : State) (hfrost : n ≠ 6) (hover : n ≠ 7) :
    Quiet n s (regulateAll minutes s) := by
  have hreg : Quiet n s (s.regulated minutes) := .of_eq (by rw [State.regulated])
  rw [regulateAll_eq]
  exact (hreg.rings (raiseBeds_quiet (k := .frost) _ _ hfrost)).rings
    (raiseBeds_quiet (k := .overheat) _ _ hover)

theorem accountAll_quiet (s : State) : Quiet n s (accountAll s) := .of_eq (by rw [accountAll])

theorem State.judged_quiet (s : State) (hship : n ≠ 13) (hrel : n ≠ 5) : Quiet n s s.judged :=
  ((accountAll_quiet s).rings (evaluateShip_quiet _ hship)).rings (evaluateRelease_quiet _ hrel)

theorem State.takenUp_quiet (s : State) (hship : n ≠ 13) (hrel : n ≠ 5) (hfrost : n ≠ 6) (hover : n ≠ 7) :
    Quiet n s s.takenUp :=
  (s.judged_quiet hship hrel).rings (regulateAll_quiet _ _ hfrost hover)

/-- The alerts that a delivered result may raise: BED_RELEASABLE, FROST, OVERHEAT, CURTAILED, SHIP_READY. -/
theorem deliver_quiet (e : Event) (hship : n ≠ 13) (hrel : n ≠ 5) (hfrost : n ≠ 6) (hover : n ≠ 7)
    (hcut : n ≠ 8) : Quiet n e.st (deliver e).st := by
  cases hctl : e.st.ctl with
  | loading => rw [deliver_loading hctl]; exact .refl _
  | running =>
    rw [deliver_running hctl]
    exact (e.st.takenUp_quiet hship hrel hfrost hover).rings (allocate_quiet _ hcut)

/-- The alerts that a completed scan and its result may raise. -/
theorem completeScan_quiet (e : Event) (hn : n ∉ [0, 3, 4, 5, 6, 7, 8, 13]) :
    Quiet n e.st (completeScan e).st := by
  simp only [List.mem_cons, List.not_mem_nil, or_false, not_or] at hn
  obtain ⟨h0, h3, h4, h5, h6, h7, h8, h13⟩ := hn
  have hdelivered : Quiet n e.st.completed (deliver ⟨e.st.completed, e.seen ++ [.scanDone]⟩).st :=
    deliver_quiet _ h13 h5 h6 h7 h8
  rw [completeScan_eq]
  exact (e.st.completed_quiet h0 h3 h4).rings hdelivered

/-! ### What a completion brings to the counters of another selection -/

/-- The happenings add nothing to a counter of this selection. -/
def Silent (sel : Selection) (l : List Happening) : Prop := ∀ h ∈ l, ∀ f, h.amount sel f = 0

theorem allocate_seen_silent (e : Event) {sel : Selection} (hcut : sel ≠ .curtailment)
    (hheat : sel ≠ .grantedHeat) : ∃ l, (allocate e).seen = e.seen ++ l ∧ Silent sel l := by
  refine ⟨e.st.writeAllocation.curtailedBeds.map .curtailment ++ [.grantedHeat e.st.allotment], ?_, ?_⟩
  · rw [allocate_eq, List.append_assoc]
  · intro h hmem f
    rw [List.mem_append, List.mem_map, List.mem_singleton] at hmem
    obtain ⟨b, -, rfl⟩ | rfl := hmem
    · cases sel <;> first | rfl | exact absurd rfl hcut
    · cases sel <;> first | rfl | exact absurd rfl hheat

theorem completeScan_seen_probeFault (e : Event) :
    ∃ l, (completeScan e).seen = e.seen ++ l ∧ Silent .probeFault l := by
  cases hctl : e.st.completed.ctl with
  | loading =>
    refine ⟨[.scanDone, .queuedMoves e.st.completed.queued.length], ?_, fun h hmem f => ?_⟩
    · rw [completeScan_eq]
      simp only [deliver, Event.see, hctl, List.append_assoc, List.cons_append, List.nil_append]
    · simp only [List.mem_cons, List.not_mem_nil, or_false] at hmem
      obtain rfl | rfl := hmem <;> rfl
  | running =>
    obtain ⟨l, hl, hsilent⟩ := allocate_seen_silent (sel := .probeFault)
      ⟨e.st.completed.takenUp, (e.seen ++ [.scanDone]) ++ [.queuedMoves e.st.completed.queued.length]⟩
      (by decide) (by decide)
    refine ⟨[.scanDone, .queuedMoves e.st.completed.queued.length] ++ l, ?_, fun h hmem f => ?_⟩
    · rw [completeScan_eq, deliver_running hctl, hl]
      simp
    · simp only [List.cons_append, List.nil_append, List.mem_cons] at hmem
      obtain rfl | rfl | hmem := hmem
      · rfl
      · rfl
      · exact hsilent h hmem f

theorem Counter.gain_append_silent {c : Counter} {l l' : List Happening} (h : Silent c.selection l') :
    c.gain (l ++ l') = c.gain l := by
  have hzero : (l'.map fun h => h.amount c.selection c.filter).sum = 0 := by
    rw [List.sum_eq_zero_iff]
    intro n hn
    obtain ⟨x, hx, rfl⟩ := List.mem_map.mp hn
    exact h x hx c.filter
  rw [Counter.gain, List.map_append, List.sum_append, hzero]
  rfl

/-- Unless frozen, the end of an event adds its amounts to every counter (R186). -/
theorem Event.close_counter {e : Event} (h : e.st.counters.frozen = false) (i : Fin 8) :
    e.close.counters.counters[i] = e.st.counters.counters[i].add e.seen := by
  obtain ⟨hfrozen, -⟩ | ⟨-, hclose⟩ := e.close_cases
  · rw [h] at hfrozen
    cases hfrozen
  · rw [hclose, State.raiseIf_counters]
    exact onEach_get _ _ i

/-! ### The conversions -/

theorem isRail_iff (raw : BitVec 12) : isRail raw.toNat = true ↔ raw = 0 ∨ raw = 4095 := by
  simp only [isRail, Bool.or_eq_true, beq_iff_eq]
  bv_omega

theorem suspect_iff (stepLimit : Nat) (q : Probe) (t : Int) : suspect stepLimit q t = true ↔
    q.readState = .valid ∧ ∃ old ∈ q.reading, (stepLimit : Int) < |t - old| := by
  have hlimit : ∀ old : Int, stepLimit < (t - old).natAbs ↔ (stepLimit : Int) < |t - old| := fun old => by
    rw [Int.abs_eq_natAbs]
    omega
  cases hq : q.reading <;> simp [suspect, hq, hlimit]

/-- A conversion counts against the probe at a rail or as suspect (R30, R31). -/
theorem faulted_iff {stepLimit : Nat} {q : Probe} {raw : BitVec 12} {temp : Int}
    (hreads : raw ≠ 0 → raw ≠ 4095 → convert q raw.toNat = temp) :
    faulted stepLimit q raw.toNat = true ↔ raw = 0 ∨ raw = 4095 ∨
      (q.readState = .valid ∧ ∃ old ∈ q.reading, (stepLimit : Int) < |temp - old|) := by
  rw [faulted, Bool.or_eq_true, isRail_iff, suspect_iff, or_assoc]
  by_cases h0 : raw = 0
  · simp [h0]
  by_cases h4095 : raw = 4095
  · simp [h4095]
  rw [hreads h0 h4095]

theorem Probe.entersFault_iff (persistence : Nat) (q : Probe) : q.entersFault persistence = true ↔
    q.readState ≠ .fault ∧ persistence ≤ min (q.consecutive + 1) 7 := by
  simp only [Probe.entersFault, Probe.fail, Bool.and_eq_true, bne_iff_ne, beq_iff_eq]
  refine and_congr_right fun hq => ?_
  split <;> simp_all

theorem Assignment.bed?_eq (a : Assignment) : a.bed? = (match a with
    | .bed b => some b
    | _ => none) := by
  cases a <;> rfl

/-- The conversion of the channel before the last of the scan. -/
theorem exec_conversion_next {c d : Channel} {raw : BitVec 12} (hflight : s.scan.inFlight = some c)
    (hnext : s.nextChannel c = some d) : exec (.conversionCompletion raw) s =
    .next ((judge c raw.toNat s.event).upd fun s => { s with scan := { s.scan with inFlight := some d } }).close := by
  rw [execConversionCompletion_flight hflight, convertChannel_next hnext]

end Sys2Proof.Machine
end

section
/-! The conversions of a scan, before its last channel and at it (O19). -/

namespace Sys2Proof.Machine

variable {s : State} {c : Channel} {raw : BitVec 12}

/-- A raise to every port writes the ports alone, so the channel put under conversion may be written first. -/
theorem raiseIf_inFlight (s : State) (b : Bool) (k : AlertKind) (o : Option Channel) :
    ({ s.raiseIf b k with scan := { (s.raiseIf b k).scan with inFlight := o } } : State) =
      ({ s with scan := { s.scan with inFlight := o } } : State).raiseIf b k := by
  unfold State.raiseIf
  split <;> rfl

/-- The judged event, with its scan completed: the Scan Unit's probes, the alert and the count (R31 to R33). -/
theorem convert_last (hflight : s.scan.inFlight = some c) (hlast : ∀ d, s.scanned d → d ≤ c) :
    ∃ t, exec (.conversionCompletion raw) s = .next t ∧ t.scan.inFlight = none ∧
      t.scan.probes = (judge c raw.toNat s.event).st.scan.probes ∧
      Quiet 2 (judge c raw.toNat s.event).st t ∧
      (s.counters.frozen = false → ∀ i : Fin 8, s.counters.counters[i].selection = .probeFault →
        t.counters.counters[i].value = s.counters.counters[i].value +
          BitVec.ofNat 32 (s.counters.counters[i].gain (judge c raw.toNat s.event).seen)) := by
  refine ⟨(completeScan (judge c raw.toNat s.event)).close, ?_, ?_, ?_, ?_, fun hfrozen i hsel => ?_⟩
  · rw [execConversionCompletion_flight hflight, convertChannel_last (s.nextChannel_none hlast)]
  · rw [Event.close_scan, completeScan_frame]
    rfl
  · rw [Event.close_scan, completeScan_frame]
    rfl
  · exact (completeScan_quiet _ (by decide)).quiet (close_quiet _ (by decide))
  · have hbank : (completeScan (judge c raw.toNat s.event)).st.counters = s.counters := by
      have hjudge := (judge_prepared hflight raw.toNat).frame
      have hcounters : (judge c raw.toNat s.event).st.counters = s.counters :=
        (congrArg State.counters hjudge :)
      rw [completeScan_frame]
      exact hcounters
    obtain ⟨l, hl, hsilent⟩ := completeScan_seen_probeFault (judge c raw.toNat s.event)
    rw [Event.close_counter (by rw [hbank, hfrozen]), hbank, Counter.add, hl,
      Counter.gain_append_silent (by rwa [hsel])]

/-- The count of one faulted conversion (R185). -/
theorem Counter.gain_probeFault {x : Counter} (hsel : x.selection = .probeFault) (a : Assignment) :
    x.gain [.probeFault a.bed?] =
      if x.filter = .any ∨ ∃ b, a = .bed b ∧ x.filter = .bed b then 1 else 0 := by
  have hbed : a.bed?.map Filter.bed = some x.filter ↔ ∃ b, a = .bed b ∧ x.filter = .bed b := by
    cases a <;> simp [Assignment.bed?, eq_comm]
  simp only [Counter.gain, hsel, Happening.amount, hbed, List.map_cons, List.map_nil, List.sum_cons,
    List.sum_nil, Nat.add_zero]

/-- Settles O19: the judging of a raw code, then the next channel or the completion. -/
theorem conversionsAreConvertedAndJudged : Obligations.ConversionsAreConvertedAndJudged := by
  unfold Obligations.ConversionsAreConvertedAndJudged
  intro raw temp c s hflight q hcal hreads n failed good bad enters
  have hconvert : raw ≠ 0 → raw ≠ 4095 → convert q raw.toNat = temp := fun h0 h4095 =>
    Probe.reads_convert hcal (hreads h0 h4095)
  have hbad : faulted s.settings.stepLimit q raw.toNat = true ↔ bad := faulted_iff hconvert
  have hfailed : q.fail s.settings.faultPersistence = failed := rfl
  have hgood : ¬ bad → q.read (convert q raw.toNat) (s.scan.number + 1) = good := fun h => by
    rw [hconvert (fun h0 => h (.inl h0)) (fun h4095 => h (.inr (.inl h4095)))]
    rfl
  have henters : q.entersFault s.settings.faultPersistence = true ↔
      q.readState ≠ .fault ∧ s.settings.faultPersistence ≤ n := q.entersFault_iff _
  have hjudgeBad : bad → judge c raw.toNat s.event =
      ⟨(s.putProbe c failed).raiseIf (q.entersFault s.settings.faultPersistence) .probeFault,
        [.probeFault q.assignment.bed?]⟩ := fun h => judge_faulted (hbad.mpr h)
  have hjudgeGood : ¬ bad → judge c raw.toNat s.event = (s.putProbe c good).event := fun h => by
    rw [judge_good (mt hbad.mp h)]
    exact congrArg (fun x => (s.putProbe c x).event) (hgood h)
  refine ⟨fun d hlt hd hlow => ?_, fun hlast => ?_⟩
  · intro put
    rw [exec_conversion_next hflight (State.nextChannel_some hlt hd hlow)]
    split
    · next h =>
      have hflag : q.entersFault s.settings.faultPersistence =
          decide (q.readState ≠ .fault ∧ s.settings.faultPersistence ≤ n) := by
        rw [Bool.eq_iff_iff, henters, decide_eq_true_iff]
      rw [hjudgeBad h, Assignment.bed?_eq, hflag]
      exact congrArg (fun v => Host.Outcome.next (Event.close ⟨v, _⟩)) (raiseIf_inFlight _ _ _ _)
    · next h =>
      rw [hjudgeGood h]
      exact congrArg _ (Event.close_nil _)
  · obtain ⟨t, ht, hnone, hprobes, hquiet, hcount⟩ := convert_last (raw := raw) hflight hlast
    have hputPorts : ∀ x, Quiet 2 s (s.putProbe c x) := fun x => .of_eq (by rw [State.putProbe])
    refine ⟨t, ht, hnone, fun h => ?_, fun h => ?_, fun p => ?_, fun hfrozen i hsel => ?_⟩
    · rw [hprobes, hjudgeBad h, State.raiseIf_scan]
      rfl
    · rw [hprobes, hjudgeGood h]
      rfl
    · have hrings : Rings 2 (fun p => enters ∧ (s.port p).role ≠ .off) s t := by
        by_cases h : bad
        · rw [hjudgeBad h] at hquiet
          refine ((hputPorts failed).rings (raiseIf_rings _ _ .probeFault)).quiet hquiet |>.congr fun p => ?_
          rw [henters, (hputPorts failed).role p]
          exact and_congr_left fun _ => ⟨fun hent => ⟨h, hent⟩, fun hent => hent.2⟩
        · rw [hjudgeGood h] at hquiet
          exact ((hputPorts good).quiet hquiet).congr fun p => by simp [enters, h]
      exact ⟨fun hent hoff => hrings.alertedAt ⟨hent, hoff⟩, fun hent => hrings.bit_eq fun h => hent h.1⟩
    · intro f matched
      have hvalue := hcount hfrozen i hsel
      refine ⟨fun h hmatched => ?_, fun hnot => ?_⟩
      · rw [hvalue, hjudgeBad h, Counter.gain_probeFault hsel, if_pos hmatched]
        rfl
      · by_cases h : bad
        · rw [hvalue, hjudgeBad h, Counter.gain_probeFault hsel, if_neg fun hmatched => hnot ⟨h, hmatched⟩]
          simp
        · rw [hvalue, hjudgeGood h]
          simp [State.event, Counter.gain]

end Sys2Proof.Machine
end

section
/-! The aggregates that a completed scan forms (O20). -/

namespace Sys2Proof.Machine

variable {s t u : State} {n : Nat}

/-! ### Aggregates (R34 to R36) -/

theorem lowest_eq (l : List Int) : lowest l = l.min? := by cases l <;> rfl

theorem highest_eq (l : List Int) : highest l = l.max? := by cases l <;> rfl

/-- A usable reading stands in the list of readings, and nothing else does. -/
theorem State.mem_usable (s : State) (a : Assignment) (r : Int) : r ∈ s.usable a ↔ s.usableReading a r := by
  simp only [State.usable, State.usableReading, List.mem_filterMap, Vector.mem_toList_iff, Vector.mem_iff_getElem]
  constructor
  · rintro ⟨q, ⟨i, hi, rfl⟩, h⟩
    split at h
    · next hq => exact ⟨⟨i, hi⟩, hq.1, hq.2.1, hq.2.2, h⟩
    · cases h
  · rintro ⟨c, ha, hvalid, hmark, hr⟩
    refine ⟨s.scan.probes[c], ⟨c.val, c.isLt, rfl⟩, ?_⟩
    rw [if_pos ⟨ha, hvalid, hmark⟩]
    exact hr

theorem exists_lowest {l : List Int} (h : ∃ r, r ∈ l) : ∃ lo, lowest l = some lo ∧ lo ∈ l ∧ ∀ r ∈ l, lo ≤ r := by
  rw [lowest_eq]
  cases hlo : l.min? with
  | none =>
    rw [List.min?_eq_none_iff] at hlo
    simp [hlo] at h
  | some lo => exact ⟨lo, rfl, List.min?_eq_some_iff.mp hlo⟩

theorem exists_highest {l : List Int} (h : ∃ r, r ∈ l) : ∃ hi, highest l = some hi ∧ hi ∈ l ∧ ∀ r ∈ l, r ≤ hi := by
  rw [highest_eq]
  cases hhi : l.max? with
  | none =>
    rw [List.max?_eq_none_iff] at hhi
    simp [hhi] at h
  | some hi => exact ⟨hi, rfl, List.max?_eq_some_iff.mp hhi⟩

theorem unread_eq (hold : Nat) (status : AggStatus) (held : Nat) :
    ((unread hold status held).1, (unread hold status held).2.1) =
      if status = .blind then (.blind, held)
      else if held < hold then (.held, held + 1) else (.blind, held) := by
  cases status <;> simp only [unread, reduceCtorEq, if_true, if_false] <;> split <;> rfl

/-- A bed's aggregate formed from a reading. -/
theorem Aggregate.form_live {l : List Int} (h : ∃ r, r ∈ l) (hold : Nat) (number : Word32) (a : Aggregate) :
    (a.form hold number l).status = .live ∧ (a.form hold number l).held = 0 ∧
      ∃ lo hi, (a.form hold number l).tmin = some lo ∧ (a.form hold number l).tmax = some hi ∧
        lo ∈ l ∧ hi ∈ l ∧ ∀ r ∈ l, lo ≤ r ∧ r ≤ hi := by
  obtain ⟨lo, hlo, hlomem, hlow⟩ := exists_lowest h
  obtain ⟨hi, hhi, himem, hhigh⟩ := exists_highest h
  have hform : a.form hold number l = ⟨some lo, some hi, .live, 0, number⟩ := by rw [Aggregate.form, hlo, hhi]
  rw [hform]
  exact ⟨rfl, rfl, lo, hi, rfl, rfl, hlomem, himem, fun r hr => ⟨hlow r hr, hhigh r hr⟩⟩

/-- A bed's aggregate formed without a reading. -/
theorem Aggregate.form_unread {l : List Int} (h : ∀ r, r ∉ l) (hold : Nat) (number : Word32) (a : Aggregate) :
    (a.form hold number l).tmin = a.tmin ∧ (a.form hold number l).tmax = a.tmax ∧
      ((a.form hold number l).status, (a.form hold number l).held) =
        if a.status = .blind then (.blind, a.held)
        else if a.held < hold then (.held, a.held + 1) else (.blind, a.held) := by
  obtain rfl := List.eq_nil_iff_forall_not_mem.mpr h
  rw [← unread_eq]
  exact ⟨rfl, rfl, rfl⟩

theorem Aggregate.form_scanNumber (l : List Int) (hold : Nat) (number : Word32) (a : Aggregate) :
    (a.form hold number l).scanNumber = number := by
  unfold Aggregate.form
  split <;> rfl

/-! ### A bed at the completion of a scan -/

/-- The release, the accounting, the regulation and the curtailed flag leave a bed's definition and aggregate. -/
theorem State.takenUpBed_keeps (s : State) (b : BedId) (x : Bed) :
    (s.takenUpBed b x).defn = x.defn ∧ (s.takenUpBed b x).agg = x.agg := by
  have haccount : ∀ now datum ceiling, (x.account now datum ceiling).defn = x.defn ∧
      (x.account now datum ceiling).agg = x.agg := fun _ _ _ => by
    unfold Bed.account
    split <;> exact ⟨rfl, rfl⟩
  have hrelease : ∀ y : Bed, (y.release s.now).defn = y.defn ∧ (y.release s.now).agg = y.agg := fun y => by
    unfold Bed.release
    split <;> exact ⟨rfl, rfl⟩
  have hregulate : ∀ (i : HeatInput) q (y : Bed), (y.regulate i q).defn = y.defn ∧ (y.regulate i q).agg = y.agg :=
    fun i q y => by
      unfold Bed.regulate
      split <;> exact ⟨rfl, rfl⟩
  rw [State.takenUpBed]
  exact ⟨(hregulate ..).1.trans ((hrelease _).1.trans (haccount ..).1),
    (hregulate ..).2.trans ((hrelease _).2.trans (haccount ..).2)⟩

theorem completeScan_bed_loading {e : Event} (h : e.st.ctl = .loading) (b : BedId) :
    (completeScan e).st.bed b = e.st.completed.bed b := by
  have hctl : e.st.completed.ctl = .loading := by rw [State.completed_frame]; exact h
  rw [completeScan_eq, deliver_loading hctl]

theorem completeScan_bed_running {e : Event} (h : e.st.ctl = .running) (b : BedId) :
    (completeScan e).st.bed b = (e.st.completed.bed b).map fun x =>
      (e.st.completed.takenUpBed b x).markCurtailed (completeScan e).st.budget.granted[b] := by
  have hctl : e.st.completed.ctl = .running := by rw [State.completed_frame]; exact h
  rw [completeScan_eq, deliver_running hctl, allocate_bed, State.takenUp_bed, Option.map_map, allocate_granted]
  rfl

/-- Whatever the state of the controller, a bed leaves a completed scan with its definition and with its
aggregate formed. -/
theorem completeScan_bed (e : Event) {b : BedId} {x : Bed} (hx : e.st.bed b = some x) :
    ∃ y, (completeScan e).st.bed b = some y ∧ y.defn = x.defn ∧
      y.agg = x.agg.form e.st.settings.holdLimit (e.st.scan.number + 1) (e.st.usable (.bed b)) := by
  have hobserved := e.st.completed_bed b
  rw [hx] at hobserved
  cases hctl : e.st.ctl with
  | loading =>
    rw [completeScan_bed_loading hctl, hobserved]
    exact ⟨_, rfl, rfl, rfl⟩
  | running =>
    rw [completeScan_bed_running hctl, hobserved]
    obtain ⟨hdefn, hagg⟩ := e.st.completed.takenUpBed_keeps b
      (x.observed e.st.settings.holdLimit (e.st.scan.number + 1) (e.st.usable (.bed b)))
    exact ⟨_, rfl, hdefn, hagg⟩

/-! ### Who sees a bed's alerts -/

/-- Who watches a bed hangs on the roles and on the bed's bound port alone. -/
theorem State.watches_congr {b : BedId} {p : PortId} (hrole : (t.port p).role = (s.port p).role)
    (hdefn : (t.bed b).map Bed.defn = (s.bed b).map Bed.defn) : t.watches p b ↔ s.watches p b := by
  have hbound : (∃ x, t.bed b = some x ∧ x.defn.bound = some p) ↔ ∃ x, s.bed b = some x ∧ x.defn.bound = some p := by
    have hmap : ∀ o : Option Bed, (∃ x, o = some x ∧ x.defn.bound = some p) ↔
        ∃ d, o.map Bed.defn = some d ∧ d.bound = some p := fun o => by cases o <;> simp
    rw [hmap, hmap, hdefn]
  rw [State.watches, State.watches, hrole, hbound]

/-! ### The state at the completion -/

theorem State.Prepared.usableReading {e : Event} (hsettled : (completeScan e).st.Settled t) (a : Assignment)
    (r : Int) : t.usableReading a r ↔ r ∈ e.st.usable a := by
  have hprobes : t.scan.probes = e.st.scan.probes := by
    rw [hsettled.frame, completeScan_frame]
    rfl
  rw [State.mem_usable, State.usableReading, State.usableReading, hprobes]

end Sys2Proof.Machine
end

section
/-! A scan's completion, settled (O20). -/

namespace Sys2Proof.Machine

variable {s t u : State} {n : Nat}

/-! ### The alerts of a completion -/

theorem State.numbered_observed_bed (s : State) (b : BedId) : s.numbered.observed.bed b = (s.bed b).map
    (Bed.observed s.settings.holdLimit (s.scan.number + 1) (s.usable (.bed b))) := by
  simp only [State.bed, State.observed, State.numbered, onEach_get]
  rfl

theorem State.numbered_watches (s : State) (p : PortId) (b : BedId) :
    s.numbered.observed.watches p b ↔ s.watches p b := by
  refine State.watches_congr ?_ ?_
  · rw [State.port, State.observed, State.numbered]
    rfl
  · rw [State.numbered_observed_bed, Option.map_map]
    rfl

theorem completeScan_rings_after (e : Event) {R : PortId → Prop}
    (h : Rings n R e.st.numbered (formAggregates e.st.numbered)) (hn : n ∉ [0, 5, 6, 7, 8, 13]) :
    Rings n R e.st (completeScan e).st := by
  simp only [List.mem_cons, List.not_mem_nil, or_false, not_or] at hn
  obtain ⟨h0, h5, h6, h7, h8, h13⟩ := hn
  have hdelivered : Quiet n e.st.completed (deliver ⟨e.st.completed, e.seen ++ [.scanDone]⟩).st :=
    deliver_quiet _ h13 h5 h6 h7 h8
  rw [completeScan_eq]
  exact ((e.st.numbered_quiet.rings h).quiet (e.st.completed_quiet_after h0)).quiet hdelivered

theorem completeScan_rings_bedBlind (e : Event) :
    Rings 3 (fun p => ∃ b, e.st.numbered.bedsBlinded b = true ∧ e.st.watches p b) e.st (completeScan e).st := by
  refine completeScan_rings_after e ((formAggregates_rings_bedBlind _).congr fun p => ?_) (by decide)
  refine exists_congr fun b => and_congr_right fun _ => ?_
  rw [← e.st.numbered_watches p b, ← towardBed_sees_iff, (e.st.numbered.observed_quiet (n := 3)).role p]

theorem completeScan_rings_yardBlind (e : Event) :
    Rings 4 (fun p => e.st.numbered.yardBlinded = true ∧ (e.st.port p).role ≠ .off) e.st (completeScan e).st :=
  completeScan_rings_after e (formAggregates_rings_yardBlind _) (by decide)

theorem completeScan_rings_scanDone (e : Event) :
    Rings 0 (fun p => (e.st.port p).role ≠ .off) e.st (completeScan e).st := by
  have hdelivered : Quiet 0 e.st.completed (deliver ⟨e.st.completed, e.seen ++ [.scanDone]⟩).st :=
    deliver_quiet _ (by decide) (by decide) (by decide) (by decide) (by decide)
  rw [completeScan_eq]
  exact e.st.completed_rings_scanDone.quiet hdelivered

/-- A bed's aggregate that has become BLIND at this completion. -/
theorem State.bedsBlinded_of {b : BedId} {x : Bed} (hx : s.bed b = some x) (hold : x.agg.status ≠ .blind)
    (hnew : (x.agg.form s.settings.holdLimit (s.scan.number + 1) (s.usable (.bed b))).status = .blind) :
    s.numbered.bedsBlinded b = true := by
  have hbed : s.numbered.bed b = some x := hx
  have hobserved := s.numbered_observed_bed b
  rw [hx] at hobserved
  have hbefore : s.numbered.bedBlind b = false := by simp [State.bedBlind, hbed, hold]
  have hafter : s.numbered.observed.bedBlind b = true := by
    rw [State.bedBlind, hobserved]
    exact beq_iff_eq.mpr hnew
  rw [State.bedsBlinded, hbefore, hafter]
  rfl

/-! ### What the event as a whole keeps -/

section Run

variable {e : Event} (hprep : s.Prepared e.st) (hset : (completeScan e).st.Settled t)

include hprep hset

/-- The frame of an event that completes a scan. -/
theorem State.Prepared.run_frame : t =
    { s with
      beds := (completeScan e).st.beds, scan := e.st.scanUnitCompleted, pieces := (completeScan e).st.pieces
      budget := (completeScan e).st.budget, ports := t.ports, counters := t.counters } := by
  have h1 := hset.frame
  have h2 := completeScan_frame e
  have h3 := hprep.frame
  exact h1.trans ((congrArg (fun v : State => { v with ports := t.ports, counters := t.counters }) h2).trans
    (congrArg (fun v : State => { v with
      beds := (completeScan e).st.beds, scan := e.st.scanUnitCompleted, pieces := (completeScan e).st.pieces
      budget := (completeScan e).st.budget, ports := t.ports, counters := t.counters }) h3))

/-- The alerts of the whole event are those of the completion. -/
theorem State.Prepared.run_rings {R : PortId → Prop} (h : Rings n R e.st (completeScan e).st) (h2 : n ≠ 2)
    (h14 : n ≠ 14) : Rings n R s t :=
  ((hprep.quiet n h2).rings h).quiet (hset.quiet n h14)

omit hprep in
theorem State.Settled.run_bed (b : BedId) : t.bed b = (completeScan e).st.bed b := by
  rw [hset.frame]
  rfl

end Run

/-- In LOADING a completed scan reaches no piece and no heat, and of a bed the aggregate alone (R12). -/
theorem completeScan_loading {e : Event} (h : e.st.ctl = .loading) :
    (completeScan e).st.pieces = e.st.pieces ∧ (completeScan e).st.budget = e.st.budget ∧
      ∀ b x, e.st.bed b = some x → ∃ a, (completeScan e).st.bed b = some { x with agg := a } := by
  have hframe := e.st.completed_frame
  have hctl : e.st.completed.ctl = .loading := (congrArg State.ctl hframe :).trans h
  have hst : (completeScan e).st = e.st.completed := by rw [completeScan_eq, deliver_loading hctl]
  rw [hst]
  refine ⟨(congrArg State.pieces hframe :), (congrArg State.budget hframe :), fun b x hx => ?_⟩
  exact ⟨_, (e.st.completed_bed b).trans (by rw [hx]; rfl)⟩

/-- What stands in the state at the completion as it stood before the event. -/
theorem State.Prepared.keeps (h : s.Prepared u) :
    (∀ b, u.bed b = s.bed b) ∧ u.settings = s.settings ∧ u.scan.number = s.scan.number ∧
      u.scan.yard = s.scan.yard ∧ u.now = s.now ∧ u.ctl = s.ctl ∧ u.pieces = s.pieces ∧ u.budget = s.budget ∧
      u.profiles = s.profiles ∧ u.scan.overruns = s.scan.overruns := by
  have hframe := h.frame
  exact ⟨fun b => (congrArg (fun v : State => v.bed b) hframe :), (congrArg State.settings hframe :),
    (congrArg (fun v : State => v.scan.number) hframe :), (congrArg (fun v : State => v.scan.yard) hframe :),
    (congrArg State.now hframe :), (congrArg State.ctl hframe :), (congrArg State.pieces hframe :),
    (congrArg State.budget hframe :), (congrArg State.profiles hframe :),
    (congrArg (fun v : State => v.scan.overruns) hframe :)⟩

theorem State.Prepared.watches (h : s.Prepared u) (p : PortId) (b : BedId) : u.watches p b ↔ s.watches p b := by
  obtain ⟨hbed, -⟩ := h.keeps
  exact State.watches_congr ((h.quiet 0 (by decide)).role p) (by rw [hbed])

/-- The yard aggregate at the completion. -/
theorem YardAggregate.form_live {l : List Int} (h : ∃ r, r ∈ l) (hold : Nat) (a : YardAggregate) :
    (a.form hold l).status = .live ∧ (a.form hold l).held = 0 ∧
      ∃ lo, (a.form hold l).temp = some lo ∧ lo ∈ l ∧ ∀ r ∈ l, lo ≤ r := by
  obtain ⟨lo, hlo, hmem, hlow⟩ := exists_lowest h
  have hform : a.form hold l = ⟨some lo, .live, 0⟩ := by rw [YardAggregate.form, hlo]
  rw [hform]
  exact ⟨rfl, rfl, lo, rfl, hmem, hlow⟩

theorem YardAggregate.form_unread {l : List Int} (h : ∀ r, r ∉ l) (hold : Nat) (a : YardAggregate) :
    (a.form hold l).temp = a.temp ∧ ((a.form hold l).status, (a.form hold l).held) =
      if a.status = .blind then (.blind, a.held)
      else if a.held < hold then (.held, a.held + 1) else (.blind, a.held) := by
  obtain rfl := List.eq_nil_iff_forall_not_mem.mpr h
  rw [← unread_eq]
  exact ⟨rfl, rfl⟩

/-- Settles O20: the Scan Unit and each aggregate at the completion, with the alerts on becoming BLIND. -/
theorem scanCompletionFormsAggregates : Obligations.ScanCompletionFormsAggregates := by
  unfold Obligations.ScanCompletionFormsAggregates
  intro i s hi
  obtain ⟨e, t, ht, hprep, hset, htx⟩ := hi.run
  have hframe := hprep.run_frame hset
  have hscan : t.scan = e.st.scanUnitCompleted := (congrArg State.scan hframe :)
  obtain ⟨hbed, hsettings, hnumber, hyard, hnow, hctl, hpieces, hbudget, -, hoverruns⟩ := hprep.keeps
  have hreading : ∀ a r, t.usableReading a r ↔ r ∈ e.st.usable a := fun a r =>
    State.Prepared.usableReading hset a r
  have hrole : ∀ p, (e.st.port p).role = (s.port p).role := (hprep.quiet 0 (by decide)).role
  have hdone := hprep.run_rings hset (completeScan_rings_scanDone e) (by decide) (by decide)
  have hbedBlind := hprep.run_rings hset (completeScan_rings_bedBlind e) (by decide) (by decide)
  have hyardBlind := hprep.run_rings hset (completeScan_rings_yardBlind e) (by decide) (by decide)
  have hyardForm : t.scan.yard = s.scan.yard.form s.settings.holdLimit (e.st.usable .yard) := by
    rw [hscan, State.scanUnitCompleted, hyard, hsettings]
  refine ⟨t, ht, ?_, ?_, ?_, ?_, ?_, fun p hp => ?_, fun c hidle => ?_, ?_, htx, fun b x hx => ?_, fun hr => ?_,
    fun hr => ?_, fun hold hnew p hp => ?_, fun hloading => ⟨?_, ?_, fun b x hx => ?_⟩⟩
  · rw [hscan]; rfl
  · rw [hscan, State.scanUnitCompleted, hnumber]
  · rw [hscan, State.scanUnitCompleted, hnow]
  · exact (congrArg State.clock hframe :)
  · rw [hscan, State.scanUnitCompleted, hoverruns]
  · exact hdone.alertedAt (by rwa [hrole])
  · rw [hscan]
    exact hprep.marks hidle c
  · rw [hscan]
    exact hprep.countdown
  · have hxe : e.st.bed b = some x := (hbed b).trans hx
    obtain ⟨y, hy, hdefn, hagg⟩ := completeScan_bed e hxe
    rw [hsettings, hnumber] at hagg
    refine ⟨y, (hset.run_bed b).trans hy, hdefn, ?_, fun hr => ?_, fun hr => ?_, fun hold hnew p hp => ?_⟩
    · rw [hagg, Aggregate.form_scanNumber, hscan, State.scanUnitCompleted, hnumber]
    · simp only [hreading] at hr ⊢
      rw [hagg]
      exact Aggregate.form_live hr _ _ _
    · simp only [hreading] at hr
      rw [hagg]
      exact Aggregate.form_unread hr _ _ _
    · refine hbedBlind.alertedAt ⟨b, State.bedsBlinded_of hxe hold ?_, (hprep.watches p b).mpr hp⟩
      rw [hsettings, hnumber, ← hagg]
      exact hnew
  · simp only [hreading] at hr ⊢
    rw [hyardForm]
    exact YardAggregate.form_live hr _ _
  · simp only [hreading] at hr
    rw [hyardForm]
    exact YardAggregate.form_unread hr _ _
  · have hblinded : e.st.numbered.yardBlinded = true := by
      have hobserved : e.st.numbered.observed.scan.yard = t.scan.yard := by
        rw [hyardForm, State.observed, State.numbered, ← hyard, ← hsettings]
        rfl
      have hbefore : e.st.numbered.scan.yard = s.scan.yard := hyard
      simp [State.yardBlinded, hobserved, hbefore, hold, hnew]
    exact hyardBlind.alertedAt ⟨hblinded, by rwa [hrole]⟩
  · obtain ⟨hp, -⟩ := completeScan_loading (hctl.trans hloading)
    exact (congrArg State.pieces hframe :).trans (hp.trans hpieces)
  · obtain ⟨-, hb, -⟩ := completeScan_loading (hctl.trans hloading)
    exact (congrArg State.budget hframe :).trans (hb.trans hbudget)
  · obtain ⟨-, -, hbeds⟩ := completeScan_loading (hctl.trans hloading)
    obtain ⟨a, ha⟩ := hbeds b x ((hbed b).trans hx)
    exact ⟨a, (hset.run_bed b).trans ha⟩

end Sys2Proof.Machine
end

section
/-! A bed and a piece after a scan result in RUNNING; maturity and ship readiness (O21). -/

namespace Sys2Proof.Machine

variable {s t u : State} {n : Nat}

/-! ### The allocation at the end of a completion -/

theorem deliver_allocates {d : Event} (h : d.st = s) (hrun : s.ctl = .running) :
    ∃ e' : Event, deliver d = allocate e' ∧ e'.st = s.takenUp := by
  subst h
  exact ⟨_, deliver_running hrun, rfl⟩

theorem completeScan_running {e : Event} (h : e.st.completed.ctl = .running) :
    ∃ e' : Event, completeScan e = allocate e' ∧ e'.st = e.st.completed.takenUp := by
  rw [completeScan_eq]
  exact deliver_allocates rfl h

/-- The alerts before the allocation are those of the completion, but for CURTAILED. -/
theorem completeScan_rings_takenUp {e : Event} {R : PortId → Prop} (h : e.st.completed.ctl = .running)
    (hrings : Rings n R e.st e.st.completed.takenUp) (hn : n ≠ 8) : Rings n R e.st (completeScan e).st := by
  obtain ⟨e', he', hst⟩ := completeScan_running h
  rw [he']
  rw [← hst] at hrings
  exact hrings.quiet (allocate_quiet e' hn)

/-! ### A bed after the result -/

/-- A bed after the accounting, the release and the regulation of a scan result, its aggregate formed. -/
def State.scannedBed (s : State) (yard : YardAggregate) (b : BedId) (x : Bed) : Bed :=
  Bed.regulate
    ⟨s.now, bedPeriod s.now (some x), yard.usable, s.settings.datum, s.settings.frostOn, s.settings.frostOff⟩
    s.profiles[b] (Bed.release s.now (Bed.account s.now s.settings.datum s.settings.maturityCeiling x))

theorem bedPeriod_observed (now : Int) (a : Aggregate) (x : Bed) :
    bedPeriod now (some { x with agg := a }) = bedPeriod now (some x) := rfl

theorem State.periods_get {b : BedId} {x : Bed} (h : s.bed b = some x) :
    s.periods[b] = bedPeriod s.now (some x) := by
  rw [State.periods, onEach_get, ← h]
  rfl

theorem State.takenUpBed_eq {b : BedId} {x : Bed} (h : s.bed b = some x) :
    s.takenUpBed b x = s.scannedBed s.scan.yard b x := by
  rw [State.takenUpBed, State.scannedBed, State.heatInput, State.periods_get h]

/-- What a scanned bed reads of the state. -/
theorem State.scannedBed_congr (hnow : t.now = s.now) (hsettings : t.settings = s.settings)
    (hprofiles : t.profiles = s.profiles) (yard : YardAggregate) (b : BedId) (x : Bed) :
    t.scannedBed yard b x = s.scannedBed yard b x := by
  simp only [State.scannedBed, hnow, hsettings, hprofiles]

/-- The state of the completed scan, as its receivers read it. -/
theorem State.Prepared.completed_keeps {e : Event} (h : s.Prepared e.st) :
    e.st.completed.ctl = s.ctl ∧ e.st.completed.now = s.now ∧ e.st.completed.settings = s.settings ∧
      e.st.completed.profiles = s.profiles ∧ e.st.completed.pieces = s.pieces ∧
      e.st.completed.scan = e.st.scanUnitCompleted := by
  obtain ⟨-, hsettings, -, -, hnow, hctl, hpieces, -, hprofiles, -⟩ := h.keeps
  have hframe := e.st.completed_frame
  exact ⟨(congrArg State.ctl hframe :).trans hctl, (congrArg State.now hframe :).trans hnow,
    (congrArg State.settings hframe :).trans hsettings, (congrArg State.profiles hframe :).trans hprofiles,
    (congrArg State.pieces hframe :).trans hpieces, (congrArg State.scan hframe :)⟩

/-- A bed after an event that completes a scan in RUNNING. -/
theorem State.Prepared.scanned {e : Event} (hprep : s.Prepared e.st) (hset : (completeScan e).st.Settled t)
    (hrun : s.ctl = .running) {b : BedId} {x : Bed} (hx : s.bed b = some x) : ∃ a,
      t.bed b = some ((s.scannedBed t.scan.yard b { x with agg := a }).markCurtailed t.budget.granted[b]) ∧
      (accountAll e.st.completed).bed b =
        some (Bed.account s.now s.settings.datum s.settings.maturityCeiling { x with agg := a }) := by
  obtain ⟨hctl, hnow, hsettings, hprofiles, -, hscan⟩ := hprep.completed_keeps
  obtain ⟨hbed, -, -, -, -, hctl', -⟩ := hprep.keeps
  have hframe := hprep.run_frame hset
  have hyard : t.scan.yard = e.st.completed.scan.yard :=
    (congrArg (fun v : State => v.scan.yard) hframe :).trans (congrArg ScanUnit.yard hscan).symm
  have hbudget : t.budget = (completeScan e).st.budget := (congrArg State.budget hframe :)
  have hobserved := e.st.completed_bed b
  rw [(hbed b).trans hx] at hobserved
  refine ⟨x.agg.form e.st.settings.holdLimit (e.st.scan.number + 1) (e.st.usable (.bed b)),
    (hset.run_bed b).trans ?_, by rw [accountAll_bed, hobserved, hnow, hsettings]; rfl⟩
  rw [completeScan_bed_running (hctl'.trans hrun), hobserved, Option.map_some, Option.map_some,
    State.takenUpBed_eq (hobserved.trans rfl), State.scannedBed_congr hnow hsettings hprofiles, hyard, hbudget]
  rfl

/-! ### What the steps of a result leave of a bed -/

theorem CycleState.regulated_of_accounted {c : CycleState} (h : c.accounted = true) : c.regulated = true := by
  cases c <;> first | rfl | cases h

theorem Bed.account_keeps (now datum ceiling : Int) (x : Bed) :
    (x.account now datum ceiling).cycle = x.cycle ∧ (x.account now datum ceiling).heat = x.heat ∧
      (x.account now datum ceiling).agg = x.agg ∧ (x.account now datum ceiling).defn = x.defn := by
  unfold Bed.account
  split <;> exact ⟨rfl, rfl, rfl, rfl⟩

theorem Bed.release_keeps (now : Int) (x : Bed) : (x.release now).maturity = x.maturity ∧
    (x.release now).agg = x.agg ∧ (x.release now).defn = x.defn := by
  unfold Bed.release
  split <;> exact ⟨rfl, rfl, rfl⟩

theorem Bed.regulate_keeps (i : HeatInput) (q : Profile) (x : Bed) : (x.regulate i q).maturity = x.maturity ∧
    (x.regulate i q).cycle = x.cycle ∧ (x.regulate i q).agg = x.agg ∧ (x.regulate i q).defn = x.defn := by
  unfold Bed.regulate
  split <;> exact ⟨rfl, rfl, rfl, rfl⟩

theorem State.scannedBed_maturity (yard : YardAggregate) (b : BedId) (x : Bed) :
    (s.scannedBed yard b x).maturity = (x.account s.now s.settings.datum s.settings.maturityCeiling).maturity := by
  rw [State.scannedBed, (Bed.regulate_keeps ..).1, (Bed.release_keeps ..).1]

theorem State.scannedBed_cycle (yard : YardAggregate) (b : BedId) (x : Bed) :
    (s.scannedBed yard b x).cycle =
      ((x.account s.now s.settings.datum s.settings.maturityCeiling).release s.now).cycle := by
  rw [State.scannedBed, (Bed.regulate_keeps ..).2.1]

theorem State.scannedBed_agg (yard : YardAggregate) (b : BedId) (x : Bed) :
    (s.scannedBed yard b x).agg = x.agg := by
  rw [State.scannedBed, (Bed.regulate_keeps ..).2.2.1, (Bed.release_keeps ..).2.1, (Bed.account_keeps ..).2.2.1]

/-! ### The accounting -/

/-- The temperature a record is accounted with, the datum when the aggregate is BLIND (R45, R48). -/
theorem accountTemp_eq {status : AggStatus} {reading : Option Int} {datum ceiling temp : Int}
    (h : status = .blind ∧ temp = datum ∨ status ≠ .blind ∧ reading = some temp) :
    accountTemp datum ceiling status reading = max datum (min temp ceiling) := by
  obtain ⟨rfl, rfl⟩ | ⟨hstatus, rfl⟩ := h
  · rfl
  · cases status with
    | blind => exact absurd rfl hstatus
    | live => rfl
    | held => rfl

theorem contribution_eq_adds (c : Settings) (temp now m : Int) :
    contribution c.datum (max c.datum (min temp c.maturityCeiling)) (period now (some m)) = c.adds temp now m := by
  rw [contribution, Settings.adds, period, maxPeriod, Int.ofNat_toNat]
  obtain hneg | hpos := le_total (min (now - m) 60) 0
  · rw [max_eq_right hneg, mul_zero, Int.toNat_zero, Int.toNat_of_nonpos]
    exact mul_nonpos_of_nonneg_of_nonpos (sub_nonneg.mpr (le_max_left ..)) hneg
  · rw [max_eq_left hpos]

theorem periodCut_some (now m : Int) : periodCut now (some m) = decide (60 < now - m) := rfl

theorem addCount_eq (count more : Nat) : addCount count more = min (count + more) 4294967295 := rfl

theorem Bed.account_of_not_cures {x : Bed} (h : ¬ x.cures) (now datum ceiling : Int) :
    x.account now datum ceiling = x := by
  rw [Bed.account, if_neg (by rwa [← Bed.cures_iff])]

theorem Bed.account_of_cures {x : Bed} {c : Settings} {now m temp : Int} (h : x.cures)
    (hlast : x.maturity.last = some m)
    (htemp : x.agg.status = .blind ∧ temp = c.datum ∨ x.agg.status ≠ .blind ∧ x.agg.tmin = some temp) :
    (x.account now c.datum c.maturityCeiling).maturity =
      ⟨min (x.maturity.count + c.adds temp now m) 4294967295, some now,
        x.maturity.gap || decide (60 < now - m),
        if 60 < now - m then min (x.maturity.gapCount + 1) 255 else x.maturity.gapCount⟩ := by
  rw [Bed.account, if_pos ((Bed.cures_iff x).mp h)]
  simp only [hlast, accountTemp_eq htemp, contribution_eq_adds, periodCut_some, addCount_eq, decide_eq_true_eq]

theorem PieceState.accounted_iff (a : PieceState) :
    a.accounted = true ↔ a = .stocked ∨ a = .dispatchStaged ∨ a = .inTransit := by
  cases a <;> simp [PieceState.accounted]

theorem Piece.account_of_accounted {x : Piece} {c : Settings} {yard : YardAggregate} {now m temp : Int}
    (h : x.state = .stocked ∨ x.state = .dispatchStaged ∨ x.state = .inTransit) (hlast : x.last = some m)
    (htemp : yard.status = .blind ∧ temp = c.datum ∨ yard.status ≠ .blind ∧ yard.temp = some temp) :
    x.account now c.datum c.maturityCeiling yard = { x with
      count := min (x.count + c.adds temp now m) 4294967295, last := some now
      gap := x.gap || decide (60 < now - m) } := by
  rw [Piece.account, if_pos ((PieceState.accounted_iff _).mpr h)]
  simp only [hlast, accountTemp_eq htemp, contribution_eq_adds, periodCut_some, addCount_eq]

theorem Piece.account_of_not {x : Piece} (h : x.state = .onBed ∨ x.state = .strippable ∨ x.state = .scrap)
    (now datum ceiling : Int) (yard : YardAggregate) : x.account now datum ceiling yard = x := by
  have hnot : x.state.accounted = false := by
    obtain h | h | h := h <;> rw [h] <;> rfl
  rw [Piece.account, if_neg (by rw [hnot]; decide)]

/-- The accounting writes a piece's count, minute and gap. -/
theorem Piece.account_frame (now datum ceiling : Int) (yard : YardAggregate) (x : Piece) :
    x.account now datum ceiling yard = { x with
      count := (x.account now datum ceiling yard).count, last := (x.account now datum ceiling yard).last
      gap := (x.account now datum ceiling yard).gap } := by
  unfold Piece.account
  split <;> rfl

/-! ### Ship readiness -/

/-- The piece with its SHIP_READY flag as the evaluation leaves it (R52). -/
def State.rated (s : State) (x : Piece) : Piece := { x with shipReady := x.shipReady || s.becomesReady x }

theorem evaluateShip_pieces (s : State) : (evaluateShip s).pieces = s.pieces.map s.rated := by
  rw [evaluateShip, State.raiseIf_pieces]
  rfl

theorem find?_map_id {f : Piece → Piece} (hid : ∀ x, (f x).id = x.id) (l : List Piece) (id : Nat) :
    (l.map f).find? (fun x => x.id == id) = (l.find? fun x => x.id == id).map f := by
  rw [List.find?_map]
  simp only [Function.comp_def, hid]

/-- The pieces after a scan result in RUNNING. -/
theorem State.takenUp_piece (s : State) (id : Nat) : s.takenUp.piece id = (s.piece id).map fun x =>
    (accountAll s).rated (x.account s.now s.settings.datum s.settings.maturityCeiling s.scan.yard) := by
  have hpieces : (accountAll s).pieces =
      s.pieces.map (Piece.account s.now s.settings.datum s.settings.maturityCeiling s.scan.yard) := by
    rw [accountAll]
  have haccount : ∀ x : Piece,
      (x.account s.now s.settings.datum s.settings.maturityCeiling s.scan.yard).id = x.id := fun x => by
    rw [Piece.account_frame]
  rw [State.piece, State.takenUp_pieces, evaluateShip_pieces, hpieces, find?_map_id (f := (accountAll s).rated) (fun _ => rfl),
    find?_map_id haccount, Option.map_map]
  rfl

theorem evaluateShip_rings (s : State) : Rings 13 (fun p =>
    (∃ x ∈ s.pieces, s.becomesReady x = true) ∧ (s.port p).role ≠ .off) s (evaluateShip s) := by
  rw [evaluateShip]
  refine Rings.rings (.of_eq rfl) ((raiseIf_rings _ _ .shipReady).congr fun p => ?_)
  rw [List.any_eq_true]
  rfl

/-- SHIP_READY is raised when a piece becomes ready, by a completion in RUNNING. -/
theorem completeScan_rings_shipReady {e : Event} (h : e.st.completed.ctl = .running) :
    Rings 13 (fun p => (∃ x ∈ (accountAll e.st.completed).pieces,
      (accountAll e.st.completed).becomesReady x = true) ∧ (e.st.port p).role ≠ .off) e.st (completeScan e).st := by
  have hbefore : Quiet 13 e.st (accountAll e.st.completed) :=
    (e.st.completed_quiet (by decide) (by decide) (by decide)).rings (accountAll_quiet _)
  have hship := hbefore.rings ((evaluateShip_rings (accountAll e.st.completed)).congr fun p => by
    rw [hbefore.role p])
  have hafter : Quiet 13 (evaluateShip (accountAll e.st.completed)) e.st.completed.takenUp :=
    (evaluateRelease_quiet _ (by decide)).rings (regulateAll_quiet _ _ (by decide) (by decide))
  exact completeScan_rings_takenUp h (hship.quiet hafter) (by decide)

/-- A piece's maturity is that of its bed or its own, by its state and place (R49). -/
theorem State.maturityOf_congr {x y : Piece} (hstate : y.state = x.state) (hloc : y.location = x.location)
    (hown : y.count = x.count ∧ y.last = x.last ∧ y.gap = x.gap)
    (hbeds : ∀ b, (t.bed b).map Bed.maturity = (s.bed b).map Bed.maturity) :
    t.maturityOf y = s.maturityOf x := by
  have hcured : y.curedOn = x.curedOn := by rw [Piece.curedOn, Piece.curedOn, hstate, hloc]
  obtain ⟨hcount, hlast, hgap⟩ := hown
  rw [State.maturityOf, State.maturityOf, hcured]
  split
  · rw [hcount, hlast, hgap]
  · next b _ => exact congrArg (Option.getD · _) (hbeds b)

theorem State.becomesReady_iff (s : State) (x : Piece) : s.becomesReady x = true ↔
    x.shipReady = false ∧ x.state ≠ .scrap ∧ 600 * x.shipTarget ≤ (s.maturityOf x).count ∧
      60 * (x.shipAge : Int) ≤ s.now - x.castMinute := by
  simp [State.becomesReady, readyToShip, meetsTarget, and_assoc]

/-- The flag after the evaluation is set exactly when it was or the piece is found ready (R52). -/
theorem State.rated_shipReady (s : State) (x : Piece) : (s.rated x).shipReady = true ↔ x.shipReady = true ∨
    (x.state ≠ .scrap ∧ 600 * x.shipTarget ≤ (s.maturityOf x).count ∧
      60 * (x.shipAge : Int) ≤ s.now - x.castMinute) := by
  rw [State.rated, Bool.or_eq_true, State.becomesReady_iff]
  cases x.shipReady <;> simp

theorem State.takenUp_maturity (s : State) (b : BedId) :
    (s.takenUp.bed b).map Bed.maturity = ((accountAll s).bed b).map Bed.maturity := by
  rw [State.takenUp_bed, accountAll_bed, Option.map_map, Option.map_map]
  congr 1
  funext x
  exact (Bed.regulate_keeps ..).1.trans (Bed.release_keeps ..).1

theorem completeScan_maturity {e : Event} (h : e.st.completed.ctl = .running) (b : BedId) :
    ((completeScan e).st.bed b).map Bed.maturity = ((accountAll e.st.completed).bed b).map Bed.maturity := by
  obtain ⟨e', he', hst⟩ := completeScan_running h
  rw [he', allocate_bed, Option.map_map, hst, ← State.takenUp_maturity]
  rfl

theorem completeScan_piece {e : Event} (h : e.st.completed.ctl = .running) (id : Nat) :
    (completeScan e).st.piece id = e.st.completed.takenUp.piece id := by
  obtain ⟨e', he', hst⟩ := completeScan_running h
  rw [he', State.piece, allocate_pieces, hst, State.piece]

/-- Settles O21: each record accounted once, and the readiness judged by the maturity that results. -/
theorem scanResultsAccountMaturityAndShipReadiness : Obligations.ScanResultsAccountMaturityAndShipReadiness := by
  unfold Obligations.ScanResultsAccountMaturityAndShipReadiness
  intro i s hi hrun
  obtain ⟨e, t, ht, hprep, hset, -⟩ := hi.run
  obtain ⟨hctl, hnow, hsettings, -, hpieces, hscan⟩ := hprep.completed_keeps
  obtain ⟨hbed, -⟩ := hprep.keeps
  have hframe := hprep.run_frame hset
  have hyard : t.scan.yard = e.st.completed.scan.yard :=
    (congrArg (fun v : State => v.scan.yard) hframe :).trans (congrArg ScanUnit.yard hscan).symm
  have hcompleted : e.st.completed.ctl = .running := hctl.trans hrun
  refine ⟨t, ht, fun b x hx => ?_, fun id x hx => ?_⟩
  · obtain ⟨a, hy, -⟩ := hprep.scanned hset hrun hx
    refine ⟨_, hy, fun hnot => ?_, fun m temp hcures hlast htemp => ?_⟩
    · change (s.scannedBed _ _ _).maturity = _
      rw [State.scannedBed_maturity, Bed.account_of_not_cures (x := { x with agg := a }) hnot]
    · change (s.scannedBed _ _ _).agg.status = _ ∧ _ ∨ (s.scannedBed _ _ _).agg.status ≠ _ ∧
        (s.scannedBed _ _ _).agg.tmin = _ at htemp
      change (s.scannedBed _ _ _).maturity = _
      rw [State.scannedBed_agg] at htemp
      rw [State.scannedBed_maturity, Bed.account_of_cures (x := { x with agg := a }) hcures hlast htemp]
  · have hxe : e.st.completed.piece id = some x := (congrArg (List.find? _) hpieces).trans hx
    have htpieces : t.piece id = (completeScan e).st.piece id := congrArg (List.find? _) (congrArg State.pieces hframe :)
    have htaken := (htpieces.trans (completeScan_piece hcompleted id)).trans (State.takenUp_piece _ id)
    rw [hxe, Option.map_some, hnow, hsettings, ← hyard] at htaken
    generalize hy : x.account s.now s.settings.datum s.settings.maturityCeiling t.scan.yard = x' at htaken
    have hx' : x' = { x with count := x'.count, last := x'.last, gap := x'.gap } := by
      rw [← hy]
      exact Piece.account_frame ..
    have hstate : x'.state = x.state := (congrArg Piece.state hx' :)
    have hready : x'.shipReady = x.shipReady := (congrArg Piece.shipReady hx' :)
    have hbeds : ∀ b, (t.bed b).map Bed.maturity = ((accountAll e.st.completed).bed b).map Bed.maturity := fun b => by
      rw [hset.run_bed, completeScan_maturity hcompleted]
    have hmaturity : t.maturityOf ((accountAll e.st.completed).rated x') = (accountAll e.st.completed).maturityOf x' :=
      State.maturityOf_congr rfl rfl ⟨rfl, rfl, rfl⟩ hbeds
    have hrated := (accountAll e.st.completed).rated_shipReady x'
    have hnow' : (accountAll e.st.completed).now = s.now := (accountAll_frame _).now.trans hnow
    rw [hready, hstate, ← hmaturity, hnow', (congrArg Piece.shipTarget hx' :), (congrArg Piece.castMinute hx' :),
      (congrArg Piece.shipAge hx' :)] at hrated
    refine ⟨_, htaken, hstate, (congrArg Piece.location hx' :), (congrArg Piece.hold hx' :),
      (congrArg Piece.move hx' :), hrated, fun hnew p hp => ?_, fun hoff => ?_, fun m temp hoff hlast htemp => ?_⟩
    · refine (hprep.run_rings hset (completeScan_rings_shipReady hcompleted) (by decide) (by decide)).alertedAt
        ⟨⟨x', ?_, ?_⟩, by rwa [(hprep.quiet 0 (by decide)).role p]⟩
      · have hmem : x ∈ e.st.completed.pieces := List.mem_of_find?_eq_some hxe
        rw [← hy, ← hnow, ← hsettings, hyard]
        exact List.mem_map_of_mem hmem
      · rw [← hready] at hnew
        change (x'.shipReady || _) ≠ _ at hnew
        cases h : (accountAll e.st.completed).becomesReady x' with
        | true => rfl
        | false => exact absurd (by rw [h, Bool.or_false]) hnew
    · rw [Piece.account_of_not hoff] at hy
      rw [hy]
      exact ⟨rfl, rfl, rfl⟩
    · rw [Piece.account_of_accounted hoff hlast htemp] at hy
      rw [← hy]
      exact ⟨rfl, rfl, rfl⟩

end Sys2Proof.Machine
end

section
/-! Release and phases at a scan result (O23, O24). -/

namespace Sys2Proof.Machine

variable {s t u : State} {n : Nat}

/-! ### Release -/

theorem Bed.mature_iff_ripe (now : Int) (x : Bed) : x.mature x.maturity.count now ↔ x.ripe now = true := by
  simp only [Bed.mature, Bed.ripe, meetsTarget, Bool.and_eq_true, beq_iff_eq, Option.any_eq_true,
    decide_eq_true_eq]

/-- A bed that was mature before the result's count is judged with the count that results. -/
theorem Bed.mature_congr {x y : Bed} (h : y.cycle = x.cycle) (count : Nat) (now : Int) :
    y.mature count now ↔ x.mature count now := by
  rw [Bed.mature, Bed.mature, h]

theorem Bed.release_of_ripe {now : Int} {x : Bed} (h : x.ripe now = true) : x.release now =
    { x with
      cycle := { x.cycle with state := .releasable, release := some now }
      heat := { x.heat with phase := .cool, carry := 0 } } := by
  rw [Bed.release, if_pos h]

theorem Bed.release_of_not_ripe {now : Int} {x : Bed} (h : ¬ x.ripe now = true) : x.release now = x := by
  rw [Bed.release, if_neg h]

theorem evaluateRelease_rings (s : State) : Rings 5 (fun p =>
    ∃ b x, s.bed b = some x ∧ x.ripe s.now = true ∧ s.watches p b) s (evaluateRelease s) := by
  have hreleased : Quiet 5 s s.released := .of_eq (by rw [State.released])
  have hbeds : Rings 5 _ s.released _ := raiseBeds_rings s.released .bedReleasable
    fun b => ((s.bed b).map (Bed.ripe s.now)).getD false
  have hwatches : ∀ p b, s.released.watches p b ↔ s.watches p b := fun p b => by
    refine State.watches_congr (hreleased.role p) ?_
    have hbed : s.released.bed b = (s.bed b).map (Bed.release s.now) := by
      simp only [State.bed, State.released, onEach_get]
    rw [hbed, Option.map_map]
    exact Option.map_congr fun x _ => (Bed.release_keeps s.now x).2.2
  rw [evaluateRelease_eq]
  refine (hreleased.rings hbeds).congr fun p => exists_congr fun b => ?_
  rw [towardBed_sees_iff, hwatches]
  cases s.bed b <;> simp

theorem completeScan_rings_release {e : Event} (h : e.st.completed.ctl = .running) :
    Rings 5 (fun p => ∃ b x, (accountAll e.st.completed).bed b = some x ∧ x.ripe e.st.completed.now = true ∧
      e.st.watches p b) e.st (completeScan e).st := by
  have hcompleted : Quiet 5 e.st e.st.completed := e.st.completed_quiet (by decide) (by decide) (by decide)
  have hbefore : Quiet 5 e.st (evaluateShip (accountAll e.st.completed)) :=
    (hcompleted.rings (accountAll_quiet _)).rings (evaluateShip_quiet _ (by decide))
  have hnow : (evaluateShip (accountAll e.st.completed)).now = e.st.completed.now :=
    ((accountAll_frame _).trans (evaluateShip_frame _)).now
  have hwatches : ∀ p b, (evaluateShip (accountAll e.st.completed)).watches p b ↔ e.st.watches p b := fun p b => by
    refine State.watches_congr (hbefore.role p) ?_
    rw [evaluateShip_bed, accountAll_bed, State.completed_bed, Option.map_map, Option.map_map]
    exact Option.map_congr fun x _ => (Bed.account_keeps _ _ _ _).2.2.2
  have hrelease := hbefore.rings (evaluateRelease_rings (evaluateShip (accountAll e.st.completed)))
  simp only [evaluateShip_bed, hnow, hwatches] at hrelease
  have hafter : Quiet 5 e.st.completed.judged e.st.completed.takenUp :=
    regulateAll_quiet _ _ (by decide) (by decide)
  exact completeScan_rings_takenUp h (hrelease.quiet hafter) (by decide)

/-- Settles O23: the release judges the count that the accounting of the same result has left. -/
theorem scanResultsReleaseMatureBeds : Obligations.ScanResultsReleaseMatureBeds := by
  unfold Obligations.ScanResultsReleaseMatureBeds
  intro i s hi hrun
  obtain ⟨e, t, ht, hprep, hset, -⟩ := hi.run
  obtain ⟨hctl, hnow, -⟩ := hprep.completed_keeps
  refine ⟨t, ht, fun b x hx => ?_⟩
  obtain ⟨a, hy, haccounted⟩ := hprep.scanned hset hrun hx
  generalize hx' : Bed.account s.now s.settings.datum s.settings.maturityCeiling { x with agg := a } = x' at haccounted
  have hcycle : x'.cycle = x.cycle := by rw [← hx', (Bed.account_keeps ..).1]
  refine ⟨_, hy, ?_⟩
  change (x.mature (s.scannedBed _ _ _).maturity.count s.now → (s.scannedBed _ _ _).cycle = _ ∧ _) ∧
    (¬ x.mature (s.scannedBed _ _ _).maturity.count s.now → (s.scannedBed _ _ _).cycle = _)
  rw [State.scannedBed_maturity, State.scannedBed_cycle, hx', ← Bed.mature_congr hcycle, Bed.mature_iff_ripe]
  refine ⟨fun hripe => ⟨?_, fun p hp => ?_⟩, fun hripe => ?_⟩
  · rw [Bed.release_of_ripe hripe, hcycle]
  · refine (hprep.run_rings hset (completeScan_rings_release (hctl.trans hrun)) (by decide) (by decide)).alertedAt
      ⟨b, x', haccounted, by rwa [hnow], (hprep.watches p b).mpr hp⟩
  · rw [Bed.release_of_not_ripe hripe, hcycle]

end Sys2Proof.Machine
end

section
/-! The heat phase and the setpoint at a scan result (O24). -/

namespace Sys2Proof.Machine

variable {s t u : State} {n : Nat}

/-! ### The phase steps -/

/-- The phase, the setpoint and its carry, which the phase steps alone write. -/
def Regulation.course (g : Regulation) : Phase × Option Int × Nat := (g.phase, g.setpoint, g.carry)

theorem regulate_course (i : HeatInput) (q : Profile) (x : Bed) : (regulate i q x).course =
    (stepPhase i (x.heat.working.getD q) ((x.cycle.figures.map fun f => f.pourEnd).getD i.now) x.agg x.heat).course := by
  unfold regulate
  dsimp only
  split <;> rfl

theorem regulate_working (i : HeatInput) (q : Profile) (x : Bed) : (regulate i q x).working = x.heat.working := by
  unfold regulate
  dsimp only
  split <;> exact stepPhase_working _ _ _ _ _

theorem stepPhase_preset_waits {i : HeatInput} {q : Profile} {pourEnd : Int} {agg : Aggregate} {g : Regulation}
    (hphase : g.phase = .preset) (h : agg.status = .blind ∨ i.now - pourEnd < q.preset) :
    stepPhase i q pourEnd agg g = g := by
  have hnot : ¬ (agg.status ≠ .blind ∧ (q.preset : Int) ≤ i.now - pourEnd) := by
    rw [not_and_or, not_not, not_le]
    exact h
  rw [stepPhase, hphase]
  exact if_neg hnot

theorem stepPhase_preset_leaves {i : HeatInput} {q : Profile} {pourEnd tmax : Int} {agg : Aggregate}
    {g : Regulation} (hphase : g.phase = .preset) (h : ¬ (agg.status = .blind ∨ i.now - pourEnd < q.preset))
    (hmax : agg.tmax = some tmax) : (stepPhase i q pourEnd agg g).course =
      if (q.holdTemp : Int) ≤ tmax then (.hold, some (q.holdTemp : Int), 0) else (.ramp, some tmax, 0) := by
  rw [not_or, not_lt] at h
  have hleaves : stepPhase i q pourEnd agg g = leavePreset q tmax g := by
    rw [stepPhase, hphase]
    exact (if_pos h).trans (by rw [hmax]; rfl)
  rw [hleaves, leavePreset, apply_ite Regulation.course]
  rfl

theorem stepPhase_stays {i : HeatInput} {q : Profile} {pourEnd : Int} {agg : Aggregate} {g : Regulation}
    (hphase : g.phase = .off ∨ g.phase = .hold) : stepPhase i q pourEnd agg g = g := by
  obtain h | h := hphase <;> rw [stepPhase, h]

theorem stepPhase_ramp {i : HeatInput} {q : Profile} {g : Regulation} {sp : Int} (hphase : g.phase = .ramp)
    (hsp : g.setpoint = some sp) (pourEnd : Int) (agg : Aggregate) : (stepPhase i q pourEnd agg g).course =
      if (q.holdTemp : Int) ≤ sp + ((q.rampRate * i.minutes + g.carry) / 60 : Nat) then
        (.hold, some (q.holdTemp : Int), 0)
      else (.ramp, some (sp + ((q.rampRate * i.minutes + g.carry) / 60 : Nat)),
        (q.rampRate * i.minutes + g.carry) % 60) := by
  have hadvance : stepPhase i q pourEnd agg g = advance q i.minutes g := by rw [stepPhase, hphase]
  simp only [hadvance, advance, hsp, Option.map_some, Option.any_some, decide_eq_true_eq]
  split
  · rfl
  · rw [Regulation.course, hphase]

theorem stepPhase_cool {i : HeatInput} {q : Profile} {g : Regulation} {sp coolEnd : Int}
    (hphase : g.phase = .cool) (hsp : g.setpoint = some sp)
    (hend : ∀ t, endsCool i.yardTemp i.datum t = true ↔ t ≤ coolEnd) (pourEnd : Int) (agg : Aggregate) :
    (stepPhase i q pourEnd agg g).course =
      if max (-400) (sp - ((q.coolRate * i.minutes + g.carry) / 60 : Nat)) ≤ coolEnd then
        (.off, some (max (-400) (sp - ((q.coolRate * i.minutes + g.carry) / 60 : Nat))), 0)
      else (.cool, some (max (-400) (sp - ((q.coolRate * i.minutes + g.carry) / 60 : Nat))),
        (q.coolRate * i.minutes + g.carry) % 60) := by
  have hdescend : stepPhase i q pourEnd agg g = descend q i.minutes i.yardTemp i.datum g := by
    rw [stepPhase, hphase]
  simp only [hdescend, descend, hsp, Option.map_some, Option.any_some, hend]
  split
  · rfl
  · rw [Regulation.course, hphase]

/-- The temperature at or below which a setpoint ends COOL (R67). -/
theorem endsCool_iff {yard : YardAggregate} {datum coolEnd : Int}
    (h : yard.status = .blind ∧ coolEnd = max 0 datum ∨ yard.status ≠ .blind ∧ yard.temp = some coolEnd) (t : Int) :
    endsCool yard.usable datum t = true ↔ t ≤ coolEnd := by
  obtain ⟨hblind, rfl⟩ | ⟨hstatus, htemp⟩ := h
  · rw [YardAggregate.usable, hblind, endsCool_blind, decide_eq_true_eq]
  · have husable : yard.usable = some coolEnd := by
      rw [YardAggregate.usable, ← htemp]
      cases hs : yard.status with
      | blind => exact absurd hs hstatus
      | live => rfl
      | held => rfl
    rw [husable, endsCool_some, decide_eq_true_eq]

/-! ### The regulation record a scanned bed steps from -/

/-- The regulation record after the release evaluation: a release enters COOL first (R67). -/
def Bed.entering (now : Int) (x : Bed) : Regulation :=
  if x.ripe now then { x.heat with phase := .cool, carry := 0 } else x.heat

theorem Bed.release_heat (now : Int) (x : Bed) : (x.release now).heat = x.entering now := by
  unfold Bed.release Bed.entering
  split <;> rfl

theorem Bed.release_figures (now : Int) (x : Bed) : (x.release now).cycle.figures = x.cycle.figures := by
  unfold Bed.release
  split <;> rfl

theorem Bed.release_regulated (now : Int) (x : Bed) :
    (x.release now).cycle.state.regulated = x.cycle.state.regulated := by
  by_cases hripe : x.ripe now = true
  · obtain ⟨hcuring, -⟩ := (x.mature_iff_ripe now).mpr hripe
    rw [Bed.release_of_ripe hripe, hcuring]
    rfl
  · rw [Bed.release_of_not_ripe hripe]

/-- The regulation's input at a scan result. -/
def State.scanInput (s : State) (yard : YardAggregate) (x : Bed) : HeatInput :=
  ⟨s.now, bedPeriod s.now (some x), yard.usable, s.settings.datum, s.settings.frostOn, s.settings.frostOff⟩

/-- The bed that the regulation of a scan result works on. -/
def State.judgedBed (s : State) (x : Bed) : Bed :=
  Bed.release s.now (Bed.account s.now s.settings.datum s.settings.maturityCeiling x)

theorem State.judgedBed_keeps (s : State) (x : Bed) : (s.judgedBed x).agg = x.agg ∧
    (s.judgedBed x).defn = x.defn ∧ (s.judgedBed x).cycle.figures = x.cycle.figures ∧
    (s.judgedBed x).cycle.state.regulated = x.cycle.state.regulated := by
  have hcycle := (Bed.account_keeps s.now s.settings.datum s.settings.maturityCeiling x).1
  unfold State.judgedBed
  refine ⟨?_, ?_, ?_, ?_⟩
  · rw [(Bed.release_keeps ..).2.1, (Bed.account_keeps ..).2.2.1]
  · rw [(Bed.release_keeps ..).2.2, (Bed.account_keeps ..).2.2.2]
  · rw [Bed.release_figures, hcycle]
  · rw [Bed.release_regulated, hcycle]

theorem State.scannedBed_heat {yard : YardAggregate} {x : Bed} (h : x.cycle.state.regulated = true) (b : BedId) :
    (s.scannedBed yard b x).heat = regulate (s.scanInput yard x) s.profiles[b] (s.judgedBed x) := by
  have hregulated := (s.judgedBed_keeps x).2.2.2.trans h
  rw [State.judgedBed] at hregulated
  rw [State.scannedBed, Bed.regulate, if_pos hregulated]
  rfl

theorem State.judgedBed_heat (s : State) (x : Bed) : (s.judgedBed x).heat = x.heat ∨
    (s.judgedBed x).heat = { x.heat with phase := .cool, carry := 0 } := by
  have hheat := (Bed.account_keeps s.now s.settings.datum s.settings.maturityCeiling x).2.1
  rw [State.judgedBed, Bed.release_heat, Bed.entering, hheat]
  split
  · exact .inr rfl
  · exact .inl rfl

theorem bedPeriod_cures {x : Bed} {now m : Int} (h : x.cures) (hlast : x.maturity.last = some m) :
    bedPeriod now (some x) = (min (now - m) 60).toNat := by
  simp only [bedPeriod, (Bed.cures_iff x).mp h, if_true, hlast]
  rfl

/-- A release at this result shows in the cycle states before and after. -/
theorem State.scannedBed_released (yard : YardAggregate) (b : BedId) (x : Bed) :
    (x.cycle.state = .curing ∧ (s.scannedBed yard b x).cycle.state = .releasable) ↔
      (Bed.account s.now s.settings.datum s.settings.maturityCeiling x).ripe s.now = true := by
  rw [State.scannedBed_cycle]
  have hcycle := (Bed.account_keeps s.now s.settings.datum s.settings.maturityCeiling x).1
  generalize Bed.account s.now s.settings.datum s.settings.maturityCeiling x = y at hcycle
  by_cases hripe : y.ripe s.now = true
  · obtain ⟨hcuring, -⟩ := (y.mature_iff_ripe s.now).mpr hripe
    rw [hcycle] at hcuring
    simp [Bed.release_of_ripe hripe, hcuring, hripe]
  · rw [Bed.release_of_not_ripe hripe, hcycle]
    refine iff_of_false (fun ⟨hcuring, hreleasable⟩ => ?_) hripe
    exact absurd (hcuring.symm.trans hreleasable) (by decide)

theorem State.judgedBed_entering (s : State) (x : Bed) : (s.judgedBed x).heat =
    if (Bed.account s.now s.settings.datum s.settings.maturityCeiling x).ripe s.now then
      { x.heat with phase := .cool, carry := 0 }
    else x.heat := by
  rw [State.judgedBed, Bed.release_heat, Bed.entering, (Bed.account_keeps ..).2.1]

theorem Regulation.course_eq {g : Regulation} {ph : Phase} {t : Option Int} {c : Nat} (h : g.course = (ph, t, c)) :
    g.phase = ph ∧ g.setpoint = t ∧ g.carry = c := by
  rw [Regulation.course, Prod.mk.injEq, Prod.mk.injEq] at h
  exact h

/-- The course of a scanned bed in cure: one phase step from the record after the release evaluation. -/
theorem State.scannedBed_course {yard : YardAggregate} {b : BedId} {x : Bed} {q : Profile} {f : PourFigures}
    (hcures : x.cures) (hworking : x.heat.working = some q) (hfigures : x.cycle.figures = some f) :
    (s.scannedBed yard b x).heat.working = some q ∧ (s.scannedBed yard b x).heat.course =
      (stepPhase (s.scanInput yard x) q f.pourEnd x.agg (s.judgedBed x).heat).course := by
  have hregulated : x.cycle.state.regulated = true := CycleState.regulated_of_accounted ((Bed.cures_iff x).mp hcures)
  obtain ⟨hagg, -, hfigs, -⟩ := s.judgedBed_keeps x
  have hworking' : (s.judgedBed x).heat.working = some q := by
    rw [s.judgedBed_entering]
    split <;> exact hworking
  rw [State.scannedBed_heat hregulated, regulate_working, regulate_course, hworking', hfigs, hfigures, hagg]
  exact ⟨rfl, rfl⟩

/-- Settles O24: each phase's step from the record that the release evaluation leaves. -/
theorem scanResultsMoveThePhases : Obligations.ScanResultsMoveThePhases := by
  unfold Obligations.ScanResultsMoveThePhases
  intro i s hi hrun
  obtain ⟨e, t, ht, hprep, hset, -⟩ := hi.run
  refine ⟨t, ht, fun b x q f sp m coolEnd hx hcures hworking hfigures hsetpoint hlast hend => ?_⟩
  obtain ⟨a, hy, -⟩ := hprep.scanned hset hrun hx
  obtain ⟨hworking', hcourse⟩ := State.scannedBed_course (s := s) (yard := t.scan.yard) (b := b)
    (x := { x with agg := a }) hcures hworking hfigures
  have hentering := s.judgedBed_entering { x with agg := a }
  have hreleased := s.scannedBed_released t.scan.yard b { x with agg := a }
  have hagg := s.scannedBed_agg t.scan.yard b { x with agg := a }
  have hdue : (s.scanInput t.scan.yard { x with agg := a }).minutes = (min (s.now - m) 60).toNat :=
    bedPeriod_cures (x := { x with agg := a }) hcures hlast
  generalize s.scannedBed t.scan.yard b { x with agg := a } = y at hy hworking' hcourse hreleased hagg
  generalize (s.judgedBed { x with agg := a }).heat = g at hcourse hentering
  refine ⟨_, hy, hworking', ?_⟩
  intro released phase carry due ends
  have hphase : g.phase = phase ∧ g.carry = carry ∧ g.setpoint = some sp := by
    rw [hentering]
    by_cases hr : released
    · rw [if_pos (hreleased.mp hr)]
      exact ⟨(if_pos hr).symm, (if_pos hr).symm, hsetpoint⟩
    · rw [if_neg (hreleased.not.mp hr)]
      exact ⟨(if_neg hr).symm, (if_neg hr).symm, hsetpoint⟩
  clear_value phase carry
  obtain ⟨rfl, rfl, hsp⟩ := hphase
  have hends : ∀ ph (r : Int) c, y.heat.course = (ph, some r, c) → ends ph r c :=
    fun ph r c h => Regulation.course_eq h
  have hstays : stepPhase (s.scanInput t.scan.yard { x with agg := a }) q f.pourEnd a g = g →
      ends g.phase sp g.carry := fun h => hends _ _ _ (by rw [hcourse, ← hsp]; exact congrArg _ h)
  cases hph : g.phase with
  | off =>
    rw [hph] at hstays
    exact hstays (stepPhase_stays (.inl hph))
  | hold =>
    rw [hph] at hstays
    exact hstays (stepPhase_stays (.inr hph))
  | preset =>
    rw [hph] at hstays
    have hagg' : (y.markCurtailed t.budget.granted[b]).agg = a := hagg
    dsimp only
    rw [hagg']
    split
    · next hwaits => exact hstays (stepPhase_preset_waits hph hwaits)
    · next hleaves =>
      intro tmax hmax
      have hleft := stepPhase_preset_leaves (i := s.scanInput t.scan.yard { x with agg := a }) hph hleaves hmax
      split
      · next hhold => exact hends _ _ _ (hcourse.trans (hleft.trans (if_pos hhold)))
      · next hramp => exact hends _ _ _ (hcourse.trans (hleft.trans (if_neg hramp)))
  | ramp =>
    have hstep := hcourse.trans (stepPhase_ramp hph hsp f.pourEnd a)
    rw [hdue] at hstep
    dsimp only
    split
    · next h => exact hends _ _ _ (hstep.trans (if_pos h))
    · next h => exact hends _ _ _ (hstep.trans (if_neg h))
  | cool =>
    have hstep := hcourse.trans (stepPhase_cool hph hsp (endsCool_iff hend) f.pourEnd a)
    rw [hdue] at hstep
    dsimp only
    split
    · next h => exact hends _ _ _ (hstep.trans (if_pos h))
    · next h => exact hends _ _ _ (hstep.trans (if_neg h))

end Sys2Proof.Machine
end

section
/-! The demand a scan result forms (O25). -/

namespace Sys2Proof.Machine

variable {s t u : State} {n : Nat}

/-! ### The regulation record -/

/-- What the phase steps leave of a regulation record. -/
theorem stepPhase_keeps (i : HeatInput) (q : Profile) (pourEnd : Int) (agg : Aggregate) (g : Regulation) :
    (stepPhase i q pourEnd agg g).base = g.base ∧ (stepPhase i q pourEnd agg g).frost = g.frost ∧
      (stepPhase i q pourEnd agg g).overheat = g.overheat ∧
      (stepPhase i q pourEnd agg g).curtailed = g.curtailed := by
  unfold stepPhase leavePreset advance descend
  dsimp only
  repeat' split
  all_goals exact ⟨rfl, rfl, rfl, rfl⟩

/-- The regulation of a BLIND bed: base and flags are held, and the guard is asked (R73). -/
theorem regulate_blind {i : HeatInput} {q : Profile} {x : Bed} (h : x.agg.status = .blind) :
    let y := regulate i q x
    y.base = (if y.phase = .off ∨ y.phase = .preset then 0 else x.heat.base) ∧ y.frost = x.heat.frost ∧
      y.overheat = x.heat.overheat ∧ y.requested = if x.heat.overheat then 0 else x.defn.guard := by
  intro y
  obtain ⟨hbase, hfrost, hover, -⟩ := stepPhase_keeps i (x.heat.working.getD q)
    ((x.cycle.figures.map fun f => f.pourEnd).getD i.now) x.agg x.heat
  have hy : y = _ := regulate.eq_1 i q x
  dsimp only at hy
  rw [h] at hy
  generalize stepPhase i _ _ x.agg x.heat = g at hy hbase hfrost hover
  rw [← hbase, ← hfrost, ← hover, hy]
  refine ⟨?_, rfl, rfl, rfl⟩
  change blindBase g = if g.phase = _ ∨ g.phase = _ then 0 else g.base
  unfold blindBase
  cases g.phase <;> rfl

/-- The base demand by the band about the setpoint (R69). -/
theorem formBase_eq {q : Profile} {rated : Nat} {tmax sp : Int} {g : Regulation}
    (hsp : ¬ (g.phase = .off ∨ g.phase = .preset) → g.setpoint = some sp) : formBase q rated tmax g =
      if g.phase = .off ∨ g.phase = .preset then 0
      else if (q.bandLow : Int) ≤ sp - tmax then
        if g.curtailed then g.base else min rated (g.base + q.step)
      else if sp - tmax ≤ -(q.bandHigh : Int) then g.base - q.step
      else g.base := by
  unfold formBase
  cases hphase : g.phase with
  | off => rfl
  | preset => rfl
  | ramp | hold | cool =>
    rw [hphase] at hsp
    rw [hsp (by decide)]
    rfl

theorem frostAfter_iff (on off tmin : Int) (flag : Bool) :
    frostAfter on off tmin flag = true ↔ if flag then tmin < off else tmin ≤ on := by
  cases flag <;> simp [frostAfter]

theorem overheatAfter_iff (ceiling tmax : Int) (flag : Bool) :
    overheatAfter ceiling tmax flag = true ↔ if flag then ceiling - 20 < tmax else ceiling ≤ tmax := by
  cases flag <;> simp [overheatAfter]

/-- The regulation of a bed with a reading (R69 to R72). -/
theorem regulate_read {i : HeatInput} {stored : Profile} {x : Bed} {tmin tmax sp : Int}
    (h : x.agg.status ≠ .blind) (htmin : x.agg.tmin = some tmin) (htmax : x.agg.tmax = some tmax) :
    let y := regulate i stored x
    let q := x.heat.working.getD stored
    (¬ (y.phase = .off ∨ y.phase = .preset) → y.setpoint = some sp) →
    y.base =
      (if y.phase = .off ∨ y.phase = .preset then 0
      else if (q.bandLow : Int) ≤ sp - tmax then
        if x.heat.curtailed then x.heat.base else min x.defn.rated (x.heat.base + q.step)
      else if sp - tmax ≤ -(q.bandHigh : Int) then x.heat.base - q.step
      else x.heat.base) ∧
    (y.frost = true ↔ if x.heat.frost then tmin < i.frostOff else tmin ≤ i.frostOn) ∧
    (y.overheat = true ↔
      if x.heat.overheat then (q.ceiling : Int) - 20 < tmax else (q.ceiling : Int) ≤ tmax) ∧
    y.requested =
      (if y.overheat then 0 else if y.frost then max y.base x.defn.guard else y.base) := by
  intro y q hsp
  obtain ⟨hbase, hfrost, hover, hcurtailed⟩ := stepPhase_keeps i q
    ((x.cycle.figures.map fun f => f.pourEnd).getD i.now) x.agg x.heat
  have hy : y = _ := regulate.eq_1 i stored x
  dsimp only at hy
  rw [htmin, htmax] at hy
  generalize hg : stepPhase i _ _ x.agg x.heat = g at hy
  change stepPhase i q _ _ _ = g at hg
  rw [hg] at hbase hfrost hover hcurtailed
  split at hy
  · next hblind => exact absurd hblind h
  · rw [hy] at hsp ⊢
    rw [← hbase, ← hfrost, ← hover, ← hcurtailed]
    exact ⟨formBase_eq hsp, frostAfter_iff .., overheatAfter_iff .., rfl⟩

/-! ### The bed the regulation works on -/

/-- What the release evaluation leaves of a regulation record. -/
theorem State.judgedBed_demand (s : State) (x : Bed) : (s.judgedBed x).heat.base = x.heat.base ∧
    (s.judgedBed x).heat.frost = x.heat.frost ∧ (s.judgedBed x).heat.overheat = x.heat.overheat ∧
    (s.judgedBed x).heat.curtailed = x.heat.curtailed ∧ (s.judgedBed x).heat.working = x.heat.working := by
  rw [s.judgedBed_entering]
  split <;> exact ⟨rfl, rfl, rfl, rfl, rfl⟩

/-- A bed in EMPTY or SET is not regulated (R63). -/
theorem State.scannedBed_idle {x : Bed} (h : x.cycle.state = .empty ∨ x.cycle.state = .set) (yard : YardAggregate)
    (b : BedId) : (s.scannedBed yard b x).heat = x.heat := by
  obtain ⟨hcycle, hheat, -⟩ := Bed.account_keeps s.now s.settings.datum s.settings.maturityCeiling x
  unfold State.scannedBed
  generalize Bed.account s.now s.settings.datum s.settings.maturityCeiling x = y at hcycle hheat
  have hripe : ¬ y.ripe s.now = true := fun hripe => by
    obtain ⟨hcuring, -⟩ := (y.mature_iff_ripe s.now).mpr hripe
    rw [hcycle] at hcuring
    obtain h | h := h <;> exact absurd (hcuring.symm.trans h) (by decide)
  have hregulated : ¬ y.cycle.state.regulated = true := by
    rw [hcycle]
    obtain h | h := h <;> rw [h] <;> decide
  rw [Bed.release_of_not_ripe hripe, Bed.regulate, if_neg hregulated, hheat]

/-! ### The alerts of the regulation -/

theorem State.regulated_quiet (minutes : Vector Nat 16) (s : State) : Quiet n s (s.regulated minutes) :=
  .of_eq (by rw [State.regulated])

theorem State.regulated_bed (minutes : Vector Nat 16) (s : State) (b : BedId) : (s.regulated minutes).bed b =
    (s.bed b).map (Bed.regulate (s.heatInput minutes[b]) s.profiles[b]) := by
  simp only [State.bed, State.regulated, onEach_get]

theorem State.regulated_watches (minutes : Vector Nat 16) (s : State) (p : PortId) (b : BedId) :
    (s.regulated minutes).watches p b ↔ s.watches p b := by
  refine State.watches_congr ((s.regulated_quiet (n := 0) minutes).role p) ?_
  rw [State.regulated_bed, Option.map_map]
  exact Option.map_congr fun x _ => (Bed.regulate_keeps ..).2.2.2

theorem regulateAll_rings_frost (minutes : Vector Nat 16) (s : State) :
    Rings 6 (fun p => ∃ b, s.flagEntered minutes (fun g => g.frost) b = true ∧ s.watches p b) s
      (regulateAll minutes s) := by
  have hfrost : Rings 6 _ (s.regulated minutes) _ :=
    raiseBeds_rings _ .frost (s.flagEntered minutes fun g => g.frost)
  have hover : Quiet 6 ((s.regulated minutes).raiseBeds .frost (s.flagEntered minutes fun g => g.frost)) _ :=
    raiseBeds_quiet (k := .overheat) _ (s.flagEntered minutes fun g => g.overheat) (by decide)
  rw [regulateAll_eq]
  refine (((s.regulated_quiet minutes).rings hfrost).quiet hover).congr fun p => ?_
  simp only [towardBed_sees_iff, State.regulated_watches]

theorem regulateAll_rings_overheat (minutes : Vector Nat 16) (s : State) :
    Rings 7 (fun p => ∃ b, s.flagEntered minutes (fun g => g.overheat) b = true ∧ s.watches p b) s
      (regulateAll minutes s) := by
  have hfrost : Quiet 7 s ((s.regulated minutes).raiseBeds .frost (s.flagEntered minutes fun g => g.frost)) :=
    (s.regulated_quiet minutes).rings (raiseBeds_quiet (k := .frost) _ _ (by decide))
  have hover : Rings 7 _ ((s.regulated minutes).raiseBeds .frost (s.flagEntered minutes fun g => g.frost)) _ :=
    raiseBeds_rings _ .overheat (s.flagEntered minutes fun g => g.overheat)
  have hwatches : ∀ p b, ((s.regulated minutes).raiseBeds .frost (s.flagEntered minutes fun g => g.frost)).watches p b ↔
      s.watches p b := fun p b => by
    rw [← s.regulated_watches minutes p b]
    refine State.watches_congr ?_ ?_
    · rw [hfrost.role, (s.regulated_quiet (n := 7) minutes).role]
    · rw [raiseBeds_eq]
      rfl
  rw [regulateAll_eq]
  refine (hfrost.rings hover).congr fun p => ?_
  simp only [towardBed_sees_iff, hwatches]

/-- A flag that a scan result sets, in terms of the beds before and after it. -/
theorem State.flagEntered_of {f : Regulation → Bool} (hf : ∀ g, f { g with phase := .cool, carry := 0 } = f g)
    {b : BedId} {x y : Bed} (hx : s.bed b = some x) (hy : s.takenUp.bed b = some y) (hoff : f x.heat = false)
    (hon : f y.heat = true) : s.judged.flagEntered s.periods f b = true := by
  have hjudged : s.judged.heatFlag f b = f x.heat := by
    rw [State.heatFlag, State.judged_bed, hx]
    change f (s.judgedBed x).heat = _
    rw [s.judgedBed_entering]
    split
    · exact hf x.heat
    · rfl
  have htaken : (s.judged.regulated s.periods).heatFlag f b = f y.heat := by
    rw [State.heatFlag, State.regulated_bed, ← regulateAll_bed]
    change ((s.takenUp.bed b).map fun x => f x.heat).getD false = _
    rw [hy]
    rfl
  rw [State.flagEntered, hjudged, htaken, hoff, hon]
  rfl

theorem Bed.regulated_of {x : Bed} (h : x.cures ∨ x.cycle.state = .casting) : x.cycle.state.regulated = true := by
  obtain hcures | hcasting := h
  · exact CycleState.regulated_of_accounted ((Bed.cures_iff x).mp hcures)
  · rw [hcasting]
    rfl

/-- The alerts of the regulation are raised by the completion as a whole. -/
theorem completeScan_rings_regulation {e : Event} (hrun : e.st.completed.ctl = .running) {R : PortId → Prop}
    (h : Rings n R e.st.completed.judged e.st.completed.takenUp) (hn : n = 6 ∨ n = 7) :
    Rings n R e.st (completeScan e).st := by
  have hbefore : Quiet n e.st e.st.completed.judged :=
    (e.st.completed_quiet (by omega) (by omega) (by omega)).rings (State.judged_quiet _ (by omega) (by omega))
  exact completeScan_rings_takenUp hrun (hbefore.rings h) (by omega)

theorem State.judged_watches (s : State) (p : PortId) (b : BedId) :
    s.completed.judged.watches p b ↔ s.watches p b := by
  have hquiet : Quiet 1 s s.completed.judged :=
    (s.completed_quiet (by decide) (by decide) (by decide)).rings (State.judged_quiet _ (by decide) (by decide))
  refine State.watches_congr (hquiet.role p) ?_
  rw [State.judged_bed, State.completed_bed, Option.map_map, Option.map_map]
  exact Option.map_congr fun x _ => (Bed.release_keeps ..).2.2.trans (Bed.account_keeps ..).2.2.2

/-- A bed before and after a completion in RUNNING, but for its curtailed flag. -/
theorem State.Prepared.takenUp {e : Event} (hprep : s.Prepared e.st) (hset : (completeScan e).st.Settled t)
    (hrun : s.ctl = .running) {b : BedId} {x y : Bed} (hx : s.bed b = some x) (hy : t.bed b = some y) :
    ∃ x' y', e.st.completed.bed b = some x' ∧ x'.heat = x.heat ∧ e.st.completed.takenUp.bed b = some y' ∧
      y.heat = { y'.heat with curtailed := y.heat.curtailed } := by
  obtain ⟨hbed, -⟩ := hprep.keeps
  have hobserved := e.st.completed_bed b
  rw [hbed, hx] at hobserved
  obtain ⟨e', he', hst⟩ := completeScan_running (hprep.completed_keeps.1.trans hrun)
  rw [hset.run_bed, he', allocate_bed, hst] at hy
  obtain ⟨y', hy', rfl⟩ := Option.map_eq_some_iff.mp hy
  exact ⟨_, y', hobserved, rfl, hy', rfl⟩

/-- Settles O25: the regulation of the bed that the accounting and the release have left. -/
theorem scanResultsFormDemand : Obligations.ScanResultsFormDemand := by
  unfold Obligations.ScanResultsFormDemand
  intro i s hi hrun
  obtain ⟨e, t, ht, hprep, hset, -⟩ := hi.run
  have hcompleted := hprep.completed_keeps.1.trans hrun
  have hfrost := hprep.run_rings hset (completeScan_rings_regulation hcompleted
    (regulateAll_rings_frost _ _) (.inl rfl)) (by decide) (by decide)
  have hover := hprep.run_rings hset (completeScan_rings_regulation hcompleted
    (regulateAll_rings_overheat _ _) (.inr rfl)) (by decide) (by decide)
  refine ⟨t, ht, fun b x hx => ?_⟩
  obtain ⟨a, hy, -⟩ := hprep.scanned hset hrun hx
  obtain ⟨x', y', hx', hxheat, hy', hyheat⟩ := hprep.takenUp hset hrun hx hy
  have hagg := s.scannedBed_agg t.scan.yard b { x with agg := a }
  refine ⟨_, hy, rfl, fun hidle => ?_, fun hregulated => ?_⟩
  · have hheat := State.scannedBed_idle (s := s) (x := { x with agg := a }) hidle t.scan.yard b
    simp only [Bed.markCurtailed, hheat]
  · have hheat : (s.scannedBed t.scan.yard b { x with agg := a }).heat = _ :=
      State.scannedBed_heat (x := { x with agg := a }) (Bed.regulated_of hregulated) b
    obtain ⟨hjagg, hjdefn, -⟩ := s.judgedBed_keeps { x with agg := a }
    obtain ⟨hbase, hfrostflag, hoverflag, hcurtailed, hworking⟩ := s.judgedBed_demand { x with agg := a }
    generalize s.scannedBed t.scan.yard b { x with agg := a } = y at hy hheat hagg hyheat
    generalize s.judgedBed { x with agg := a } = j at hheat hjagg hjdefn hbase hfrostflag hoverflag hcurtailed hworking
    have hyagg : (y.markCurtailed t.budget.granted[b]).agg = a := hagg
    intro idle q
    rw [hyagg]
    refine ⟨fun hblind => ?_, fun tmin tmax sp hseen htmin htmax hsp => ?_⟩
    · have h := regulate_blind (i := s.scanInput t.scan.yard { x with agg := a }) (q := s.profiles[b]) (x := j)
        (by rwa [hjagg])
      rw [← hheat, hbase, hfrostflag, hoverflag, hjdefn] at h
      exact h
    · have h := regulate_read (i := s.scanInput t.scan.yard { x with agg := a }) (stored := s.profiles[b]) (x := j)
        (sp := sp) (by rwa [hjagg]) (by rwa [hjagg]) (by rwa [hjagg])
      rw [← hheat, hbase, hfrostflag, hoverflag, hcurtailed, hworking, hjdefn] at h
      obtain ⟨h1, h2, h3, h4⟩ := h hsp
      refine ⟨h1, h2, h3, h4, fun hoff hon p hp => ?_, fun hoff hon p hp => ?_⟩
      · refine hfrost.alertedAt ⟨b, ?_, (e.st.judged_watches p b).mpr ((hprep.watches p b).mpr hp)⟩
        refine State.flagEntered_of (fun _ => rfl) hx' hy' (hxheat ▸ hoff) ?_
        rw [hyheat] at hon
        exact hon
      · refine hover.alertedAt ⟨b, ?_, (e.st.judged_watches p b).mpr ((hprep.watches p b).mpr hp)⟩
        refine State.flagEntered_of (fun _ => rfl) hx' hy' (hxheat ▸ hoff) ?_
        rw [hyheat] at hon
        exact hon

end Sys2Proof.Machine
end

section
/-! Allocations, SHED edges and the heat output link (O27, O28). -/

namespace Sys2Proof.Machine

variable {s t u : State} {n : Nat}

/-! ### The heat an allocation gives -/

section Shares

variable {guard demand out : BedId → Nat} {heat : Nat}

/-- A slot's share of the guard pass (R85). -/
def guardPass (guard : BedId → Nat) (heat : Nat) (b : BedId) : Nat :=
  if ∑ c, guard c ≤ heat then guard b else guard b * heat / ∑ c, guard c

theorem guardPass_le (b : BedId) : guardPass guard heat b ≤ guard b := by
  unfold guardPass
  split
  · exact le_rfl
  · next h => exact Nat.div_le_of_le_mul (by rw [mul_comm]; exact Nat.mul_le_mul_right _ (by omega))

theorem guardPass_fits (h : ∑ c, guard c ≤ heat) : guardPass guard heat = guard :=
  funext fun _ => if_pos h

/-- What a slot is given beyond its guard pass (R86). -/
def secondPass (guard demand : BedId → Nat) (heat : Nat) (b : BedId) : Nat :=
  if ∑ c, (demand c - guardPass guard heat c) ≤ heat - ∑ c, guardPass guard heat c then
    demand b - guardPass guard heat b
  else (demand b - guardPass guard heat b) * (heat - ∑ c, guardPass guard heat c) /
    ∑ c, (demand c - guardPass guard heat c)

theorem secondPass_le (b : BedId) : secondPass guard demand heat b ≤ demand b - guardPass guard heat b := by
  unfold secondPass
  split
  · exact le_rfl
  · exact Nat.div_le_of_le_mul (by rw [mul_comm]; exact Nat.mul_le_mul_right _ (by omega))

theorem shares.get (h : shares guard demand heat out) (b : BedId) :
    out b = guardPass guard heat b + secondPass guard demand heat b := h b

theorem shares.le_demand (h : shares guard demand heat out) {b : BedId} (hb : guard b ≤ demand b) :
    out b ≤ demand b := by
  have hout := h.get b
  have hmore : secondPass guard demand heat b ≤ demand b - guardPass guard heat b := secondPass_le b
  have hfirst : guardPass guard heat b ≤ guard b := guardPass_le b
  omega

theorem shares.guard_le (h : shares guard demand heat out) (hfits : ∑ b, guard b ≤ heat) (b : BedId) :
    guard b ≤ out b := by
  have hout := h.get b
  rw [guardPass_fits hfits] at hout
  omega

theorem shares.eq_demand (h : shares guard demand heat out) (hfits : ∑ b, guard b ≤ heat)
    (hwithin : ∀ b, guard b ≤ demand b) (hall : ∑ b, demand b ≤ heat) (b : BedId) : out b = demand b := by
  have hb := h.get b
  have hextra : ∑ c, (demand c - guard c) + ∑ c, guard c = ∑ c, demand c := by
    rw [← Finset.sum_add_distrib]
    exact Finset.sum_congr rfl fun c _ => Nat.sub_add_cancel (hwithin c)
  rw [secondPass, guardPass_fits hfits, if_pos (by omega)] at hb
  have := hwithin b
  omega

end Shares

/-- Settles O27: the shares of R86 bounded slot by slot. -/
theorem allocationsFitTheHeatBudget : Obligations.AllocationsFitTheHeatBudget := by
  unfold Obligations.AllocationsFitTheHeatBudget
  intro e s heat out
  have hgranted : (allocate e).st.budget.granted = s.allotment := allocate_granted e
  have hshares : shares s.guardAt s.demandAt heat out := by
    have hout : out = fun b => s.allotment[b] := funext fun b => by rw [← hgranted]
    rw [hout]
    exact s.allotment_shares
  refine ⟨hgranted, hshares, ?_, fun b hb => hshares.le_demand hb, fun hfits b => hshares.guard_le hfits b,
    fun hfits hwithin hall b => hshares.eq_demand hfits hwithin hall b⟩
  calc ∑ b, out b = total (s.allotment) := by rw [total_eq_sum, ← hgranted]
    _ ≤ s.heatBudget.toNat := total_grants_le _ _ _
    _ = heat := s.heatBudget_toNat

/-! ### SHED and the link -/

theorem shedEdge_loading {level : Bool} (h : s.ctl = .loading) : shedEdge level s =
    (State.raise { s with budget := { s.budget with shed := level } } .shedChange .everyPort) := by
  have hctl : (State.raise { s with budget := { s.budget with shed := level } } .shedChange .everyPort).ctl =
      .loading := h
  rw [shedEdge, allocateRunning, State.event]
  simp only [hctl]
  exact Event.close_nil _

theorem shedEdge_running {level : Bool} (h : s.ctl = .running) : shedEdge level s =
    (allocate (State.raise { s with budget := { s.budget with shed := level } } .shedChange .everyPort).event).close := by
  have hctl : (State.raise { s with budget := { s.budget with shed := level } } .shedChange .everyPort).ctl =
      .running := h
  rw [shedEdge, allocateRunning, State.event]
  simp only [hctl]

theorem exec_shedEdge (level : Bool) (s : State) :
    exec (if level then .shedAssertion else .shedDeassertion) s = .next (shedEdge level s) := by
  cases level <;> rfl

/-- Settles O28: each edge by its controller state, and the link by what it sends. -/
theorem shedEdgesReallocateAndLevelsFollow : Obligations.ShedEdgesReallocateAndLevelsFollow := by
  unfold Obligations.ShedEdgesReallocateAndLevelsFollow
  intro level s run u
  have hrun : run = .next (shedEdge level s) := exec_shedEdge level s
  have hrings : Rings 9 _ { s with budget := { s.budget with shed := level } } u :=
    raise_everyPort_rings _ .shedChange
  refine ⟨fun hctl => ?_, fun hctl => ⟨_, hrun, ?_⟩, fun p hp => ?_, ?_⟩
  · rw [hrun, shedEdge_loading hctl]
  · rw [shedEdge_running hctl]
    exact (allocate_allocatesTo _).close
  · exact hrings.alertedAt hp
  · change Host.Outcome.next _ = _
    rw [Link.finish]
    cases hsending : s.budget.link.sending with
    | none => rfl
    | some v => rfl

end Sys2Proof.Machine
end

section
/-! What the rules of the requests leave: the responses of the ports, and everything when they refuse (R177). -/

namespace Sys2Proof.Machine

variable {s t u : State} {n : Nat}

/-! ### The responses of the ports -/

/-- The response of each of the ports. -/
def linesOf (v : Vector Port 4) : PortId → Transmit := fun p => v[p].tx

/-- The response of each port. -/
abbrev State.lines (s : State) : PortId → Transmit := linesOf s.ports

theorem State.lines_of_ports (h : t.ports = s.ports) : t.lines = s.lines := congrArg linesOf h

theorem State.lines_apply (s : State) (p : PortId) : s.lines p = (s.port p).tx := rfl

theorem foldl_lines {α : Type} {f : State → α → State} (h : ∀ s a, (f s a).lines = s.lines) (l : List α)
    (s : State) : (l.foldl f s).lines = s.lines := by
  induction l generalizing s with
  | nil => rfl
  | cons a l ih => rw [List.foldl_cons, ih, h]

@[simp] theorem State.raise_lines (s : State) (k : AlertKind) (w : Toward) : (s.raise k w).lines = s.lines := by
  funext p
  obtain ⟨a, ha⟩ := Port.join_eq_or k w p (s.port p)
  rw [State.lines_apply, State.raise_port, ha]
  rfl

@[simp] theorem State.raiseIf_lines (s : State) (c : Bool) (k : AlertKind) : (s.raiseIf c k).lines = s.lines := by
  unfold State.raiseIf
  split
  · exact s.raise_lines _ _
  · rfl

@[simp] theorem State.raiseBeds_lines (s : State) (k : AlertKind) (pick : BedId → Bool) :
    (s.raiseBeds k pick).lines = s.lines :=
  foldl_lines (fun s b => by
    split
    · exact s.raise_lines _ _
    · rfl) _ _

theorem State.modPort_lines (s : State) (p : PortId) {f : Port → Port} (h : ∀ x, (f x).tx = x.tx) :
    (s.modPort p f).lines = s.lines := by
  funext q
  rw [State.lines_apply, State.modPort_port]
  split
  · next hq =>
    subst hq
    exact h _
  · rfl

/-! ### Allocations and moves -/

@[simp] theorem allocate_lines (e : Event) : (allocate e).st.lines = e.st.lines := by
  rw [allocate_eq, State.raiseIf_lines]
  exact State.lines_of_ports (by rw [State.writeAllocation])

@[simp] theorem allocateRunning_lines (e : Event) : (allocateRunning e).st.lines = e.st.lines := by
  unfold allocateRunning
  split
  · rfl
  · exact allocate_lines e

@[simp] theorem dropMoveOf_lines (id : Nat) (s : State) : (dropMoveOf id s).lines = s.lines := by
  unfold dropMoveOf dropMove
  split
  · rfl
  · split
    · rfl
    · split
      · exact (State.raise_lines _ _ _).trans (State.lines_of_ports (leaveTable_ports _ _ _))
      · rfl

@[simp] theorem castPieces_lines (b : BedId) (m : Int) (es : List PieceEntry) (s : State) :
    (castPieces b m es s).lines = s.lines :=
  foldl_lines (f := State.addPiece) (fun _ _ => rfl) _ _

@[simp] theorem settleBed_lines (b : BedId) (e : Event) : (settleBed b e).st.lines = e.st.lines := by
  unfold settleBed
  split
  · exact allocateRunning_lines _
  · rfl

/-! ### Scans -/

theorem formAggregates_lines (s : State) : (formAggregates s).lines = s.lines := by
  rw [formAggregates_eq, State.raiseIf_lines, State.raiseBeds_lines]
  exact State.lines_of_ports (by rw [State.observed])

theorem State.takenUp_lines (s : State) : s.takenUp.lines = s.lines := by
  have haccount : (accountAll s).lines = s.lines := State.lines_of_ports (by rw [accountAll])
  have hship : ∀ t, (evaluateShip t).lines = t.lines := fun t => by
    rw [evaluateShip, State.raiseIf_lines]
  have hrelease : ∀ t, (evaluateRelease t).lines = t.lines := fun t => by
    rw [evaluateRelease_eq, State.raiseBeds_lines]
    exact State.lines_of_ports (by rw [State.released])
  have hregulate : ∀ t, (regulateAll s.periods t).lines = t.lines := fun t => by
    rw [regulateAll_eq, State.raiseBeds_lines, State.raiseBeds_lines]
    exact State.lines_of_ports (by rw [State.regulated])
  rw [State.takenUp, hregulate, hrelease, hship, haccount]

theorem deliver_lines {e : Event} (h : e.st = s) : (deliver e).st.lines = s.lines := by
  subst h
  cases hctl : e.st.ctl with
  | loading => rw [deliver_loading hctl]
  | running => rw [deliver_running hctl, allocate_lines, State.takenUp_lines]

theorem State.completed_lines (s : State) : s.completed.lines = s.lines := by
  have hended : (formAggregates s.numbered).scanEnded.lines = (formAggregates s.numbered).lines := rfl
  have hnumbered : s.numbered.lines = s.lines := rfl
  rw [State.completed, State.raise_lines, hended, formAggregates_lines, hnumbered]

theorem completeScan_lines (e : Event) : (completeScan e).st.lines = e.st.lines := by
  rw [completeScan_eq]
  exact (deliver_lines (s := e.st.completed) rfl).trans e.st.completed_lines

theorem startScan_lines (e : Event) : (startScan e).st.lines = e.st.lines := by
  unfold startScan
  dsimp only
  split
  · exact completeScan_lines _
  · rfl

/-! ### Rules -/

/-- A rule's outcome refuses without a change, and leaves the response of every port. -/
structure Taken.Sound (s : State) (t : Taken) : Prop where
  unchanged : t.result.isRefusal = true → t.event = s.event
  lines : t.event.st.lines = s.lines

@[simp] theorem refuse_sound (s : State) (r : Result) : (refuse s r).Sound s := ⟨fun _ => rfl, rfl⟩

@[simp] theorem refuseWith_sound (s : State) (r : Result) (a : Answer) : (refuseWith s r a).Sound s :=
  ⟨fun _ => rfl, rfl⟩

@[simp] theorem wrongCycle_sound (x : Bed) (s : State) : (wrongCycle x s).Sound s := refuseWith_sound _ _ _

/-- An outcome that answers without an event. -/
theorem Taken.Sound.same (s : State) (r : Result) (a : Answer) : Taken.Sound s ⟨s.event, r, a⟩ :=
  ⟨fun _ => rfl, rfl⟩

/-- An outcome that is no refusal. -/
theorem Taken.Sound.event {e : Event} {r : Result} {a : Answer} (h : e.st.lines = s.lines)
    (hr : r.isRefusal = false := by rfl) : Taken.Sound s ⟨e, r, a⟩ :=
  ⟨fun hrefusal => (Bool.false_ne_true (hr.symm.trans hrefusal)).elim, h⟩

@[simp] theorem accept_sound (a : Answer) : (accept t a).Sound s ↔ t.lines = s.lines := ⟨fun h => h.lines, fun h => .event h⟩

@[simp] theorem acceptEvent_sound (e : Event) (a : Answer) : (acceptEvent e a).Sound s ↔ e.st.lines = s.lines :=
  ⟨fun h => h.lines, fun h => .event h⟩

/-! ### The rules of the map and of the Scan Unit -/

theorem takeReadMap_sound (kind number port : Nat) : (takeReadMap kind number port s).Sound s := by
  unfold takeReadMap
  split <;> simp [State.lines]

theorem takeDefineBed_sound (b a f l r g q : Nat) : (takeDefineBed b a f l r g q s).Sound s := by
  unfold takeDefineBed removeBed defineBedAs
  repeat' split
  all_goals simp [State.lines]

theorem takeDefineStack_sound (i a b k t o : Nat) : (takeDefineStack i a b k t o s).Sound s := by
  unfold takeDefineStack removeStack defineStackAs
  repeat' split
  all_goals simp [State.lines]

theorem takeSetStackOpen_sound (i o : Nat) : (takeSetStackOpen i o s).Sound s := by
  unfold takeSetStackOpen
  repeat' split
  all_goals simp [State.lines]

theorem enrol_sound (k : CraneId) (e : Option Enrolment) : (enrol k e s).Sound s := by
  unfold enrol
  repeat' split
  all_goals simp [State.lines]

theorem takeLoadCrane_sound (c a q l hi r m : Nat) : (takeLoadCrane c a q l hi r m s).Sound s := by
  unfold takeLoadCrane
  dsimp only
  repeat' split
  all_goals simp [enrol_sound]

theorem takeDefineClass_sound (c a st sa ht ha : Nat) : (takeDefineClass c a st sa ht ha s).Sound s := by
  unfold takeDefineClass
  dsimp only
  repeat' split
  all_goals simp [State.lines]

theorem takeSetLimits_sound (l ls b : Nat) : (takeSetLimits l ls b s).Sound s := by
  unfold takeSetLimits
  dsimp only
  split <;> simp [State.lines]

theorem takeSetConfig_sound (row port : Nat) (x : Int) : (takeSetConfig row port x s).Sound s := by
  unfold takeSetConfig
  dsimp only
  repeat' split
  all_goals simp [State.lines]

theorem restorePiece_sound (id cls mass count age : Nat) (c : ClassId) (i : StackId) (hold : Option Nat) :
    (restorePiece id cls mass count age c i hold s).Sound s := by
  unfold restorePiece
  dsimp only
  repeat' split
  all_goals simp [State.lines]

theorem takeLoadPiece_sound (id c m n a i rg r : Nat) : (takeLoadPiece id c m n a i rg r s).Sound s := by
  unfold takeLoadPiece
  repeat' split
  all_goals simp [restorePiece_sound]

theorem restoreBed_sound (b : BedId) (r : BedRestore) : (restoreBed b r s).Sound s := by
  unfold restoreBed
  repeat' split
  all_goals simp [State.lines]

theorem takeLoadBedState_sound (b cy n pa t ma : Nat) (q : Profile) (ph : Nat) (sp : Int) (es : List PieceEntry) :
    (takeLoadBedState b cy n pa t ma q ph sp es s).Sound s := by
  unfold takeLoadBedState
  dsimp only
  repeat' split
  all_goals simp [restoreBed_sound]

theorem takeCommit_sound : (takeCommit s).Sound s := by
  unfold takeCommit
  repeat' split
  all_goals simp [State.lines]

theorem takeDefineProbe_sound (c a b e rl : Nat) (tl : Int) (rh : Nat) (th : Int) :
    (takeDefineProbe c a b e rl tl rh th s).Sound s := by
  unfold takeDefineProbe
  repeat' split
  all_goals simp [State.lines]

theorem takeReadProbe_sound (c : Nat) : (takeReadProbe c s).Sound s := by
  unfold takeReadProbe
  split <;> simp [State.lines]

theorem takeClearProbeTally_sound (m o : Nat) : (takeClearProbeTally m o s).Sound s := by
  unfold takeClearProbeTally
  split <;> simp [State.lines]

theorem takeScanNow_sound : (takeScanNow s).Sound s := by
  unfold takeScanNow
  split
  · simp
  · exact .event (startScan_lines _)

theorem takeAbortScan_sound : (takeAbortScan s).Sound s := by
  unfold takeAbortScan
  split <;> simp [State.lines, abandonScan]

theorem takeSetProfile_sound (m : Nat) (q : Profile) : (takeSetProfile m q s).Sound s := by
  unfold takeSetProfile
  split <;> simp [State.lines]

theorem takeReadProfile_sound (b : Nat) : (takeReadProfile b s).Sound s := by
  unfold takeReadProfile
  split <;> simp

/-! ### The rules of the beds and the pieces -/

theorem bedRequest_sound {p : PortId} {bed : Nat} {rule : BedId → Bed → State → Taken}
    (hrule : ∀ b x, (rule b x s).Sound s) : (bedRequest p bed rule s).Sound s := by
  unfold bedRequest
  repeat' split
  all_goals simp [hrule]

theorem ruleBedSet_sound (b : BedId) (x : Bed) : (ruleBedSet b x s).Sound s := by
  unfold ruleBedSet
  split <;> simp [State.lines]

theorem ruleCancelSet_sound (b : BedId) (x : Bed) : (ruleCancelSet b x s).Sound s := by
  unfold ruleCancelSet
  split <;> simp [State.lines]

theorem rulePourStart_sound (b : BedId) (x : Bed) : (rulePourStart b x s).Sound s := by
  unfold rulePourStart
  split <;> simp [State.lines]

theorem pourResend_sound (x : Bed) (es : List PieceEntry) : (pourResend x es s).Sound s := by
  unfold pourResend
  split
  · simp
  · split
    · exact .same _ _ _
    · simp

theorem rulePourEnd_sound (es : List PieceEntry) (b : BedId) (x : Bed) : (rulePourEnd es b x s).Sound s := by
  unfold rulePourEnd pourCasting acceptPour
  repeat' split
  all_goals simp [State.lines, pourResend_sound]

theorem ruleDetensionRequest_sound (b : BedId) (x : Bed) : (ruleDetensionRequest b x s).Sound s := by
  unfold ruleDetensionRequest
  repeat' split
  all_goals simp [State.lines]

theorem ruleDetensionDone_sound (b : BedId) (x : Bed) : (ruleDetensionDone b x s).Sound s := by
  unfold ruleDetensionDone returnToEmpty
  repeat' split
  all_goals simp [State.lines]

theorem abandonLoaded_lines (b : BedId) (x : Bed) (s : State) : (abandonLoaded b x s).st.lines = s.lines := by
  have hdropped := foldl_lines (f := fun s id => dropMoveOf id s) (fun s id => dropMoveOf_lines id s)
    x.cycle.pieces s
  rw [abandonLoaded, allocateRunning_lines]
  exact hdropped

theorem ruleAbandonBed_sound (b : BedId) (x : Bed) : (ruleAbandonBed b x s).Sound s := by
  unfold ruleAbandonBed returnToEmpty
  repeat' split
  all_goals simp [State.lines, abandonLoaded_lines]

theorem withPiece_sound {id : Nat} {rule : Piece → State → Taken} (hrule : ∀ x, (rule x s).Sound s) :
    (withPiece id rule s).Sound s := by
  unfold withPiece
  repeat' split
  all_goals simp [hrule]

theorem erasePiece_lines (x : Piece) (s : State) : (erasePiece x s).st.lines = s.lines := by
  have hdropped := dropMoveOf_lines x.id s
  unfold erasePiece
  dsimp only
  split
  · rw [settleBed_lines]
    exact hdropped
  · exact hdropped
  · exact hdropped

theorem takeDeletePiece_sound (id : Nat) : (takeDeletePiece id s).Sound s :=
  withPiece_sound fun x => by
    repeat' split
    all_goals simp [erasePiece_lines]

theorem shipStack_lines (i : StackId) (x : Stack) (s : State) : (shipStack i x s).lines = s.lines := by
  have hdropped := foldl_lines (f := fun s id => dropMoveOf id s) (fun s id => dropMoveOf_lines id s) x.contents s
  have hfreed := foldl_lines (f := State.freePiece) (fun _ _ => rfl) x.contents
    (x.contents.foldl (fun s id => dropMoveOf id s) s)
  exact hfreed.trans hdropped

theorem takeShipDispatch_sound (i : Nat) : (takeShipDispatch i s).Sound s := by
  unfold takeShipDispatch
  repeat' split
  all_goals simp [shipStack_lines]

theorem takeReadStack_sound (i : Nat) : (takeReadStack i s).Sound s := by
  unfold takeReadStack
  repeat' split
  all_goals simp

/-! ### The rules of the moves and the cranes -/

theorem newMove_sound (p : PortId) (k : MoveKind) (id : Nat) (src : Source) (d : StackId) :
    (newMove p k id src d s).Sound s := by
  unfold newMove enterMove
  repeat' split
  all_goals simp [State.lines]

theorem mergeMove_sound (p : PortId) (k : MoveKind) (src : Source) (d : StackId) (i : SlotId) (m : Move) :
    (mergeMove p k src d i m s).Sound s := .event rfl

theorem placeRequest_sound (p : PortId) (k : MoveKind) (x : Piece) (src : Source) (d : StackId) :
    (placeRequest p k x src d s).Sound s := by
  unfold placeRequest
  repeat' split
  all_goals simp [mergeMove_sound, newMove_sound]

theorem takeRequestMove_sound (p : PortId) (kind id dest : Nat) : (takeRequestMove p kind id dest s).Sound s := by
  unfold takeRequestMove
  split
  · simp
  · split
    · refine withPiece_sound fun x => ?_
      repeat' split
      all_goals simp [placeRequest_sound]
    · simp

theorem takeCancelMove_sound (p : PortId) (sl id : Nat) : (takeCancelMove p sl id s).Sound s := by
  unfold takeCancelMove
  repeat' split
  all_goals simp [State.lines]

theorem takeReadMove_sound (sl : Nat) : (takeReadMove sl s).Sound s := by
  unfold takeReadMove
  split <;> simp

theorem withCrane_sound {p : PortId} {crane : Nat} {rule : CraneId → Enrolment → State → Taken}
    (hrule : ∀ k e, (rule k e s).Sound s) : (withCrane p crane rule s).Sound s := by
  unfold withCrane
  repeat' split
  all_goals simp [hrule]

theorem craneReport_sound {p : PortId} {crane slot : Nat} {rule : CraneId → SlotId → State → Taken}
    (hrule : ∀ k i, (rule k i s).Sound s) : (craneReport p crane slot rule s).Sound s :=
  withCrane_sound fun k _ => by
    split <;> simp [hrule]

theorem liftMove_lines (k : CraneId) (i : SlotId) (m : Move) (g : Grant) (s : State) :
    (liftMove k i m g s).st.lines = s.lines := by
  unfold liftMove settleSource leaveSource
  dsimp only
  split
  · exact settleBed_lines _ _
  · rfl

theorem ruleLifted_sound (id : Nat) (k : CraneId) (i : SlotId) : (ruleLifted id k i s).Sound s := by
  unfold ruleLifted
  repeat' split
  all_goals simp [liftMove_lines, Taken.Sound.same]

theorem repeatLast_sound (k : CraneId) (i : SlotId) (r : Result) : (repeatLast k i r s).Sound s := by
  unfold repeatLast
  repeat' split
  all_goals simp [Taken.Sound.same]

theorem endMove_lines (k : CraneId) (i : SlotId) (m : Move) (onto : StackId) (kind : StackKind) (how : Ending)
    (s : State) : (endMove k i m onto kind how s).st.lines = s.lines := by
  unfold endMove leaveTable idleCrane pushPiece fewerIncoming
  simp [State.lines]

theorem rulePlaced_sound (k : CraneId) (i : SlotId) : (rulePlaced k i s).Sound s := by
  unfold rulePlaced
  repeat' split
  all_goals simp [repeatLast_sound, endMove_lines]

theorem divert_sound (k : CraneId) (i : SlotId) (m : Move) (g : Grant) (onto : Option Nat) :
    (divert k i m g onto s).Sound s := by
  unfold divert
  repeat' split
  any_goals exact refuse_sound _ _
  exact .event (endMove_lines _ _ _ _ _ _ _)

theorem ruleAbortMove_sound (onto : Option Nat) (k : CraneId) (i : SlotId) : (ruleAbortMove onto k i s).Sound s := by
  unfold ruleAbortMove handBack
  repeat' split
  all_goals simp [repeatLast_sound, divert_sound, State.lines]

theorem takeAbortMove_sound (p : PortId) (c sl g st : Nat) : (takeAbortMove p c sl g st s).Sound s :=
  craneReport_sound fun k i => by
    split <;> simp [ruleAbortMove_sound]

theorem evaluateSwitch_lines (e : Event) : (evaluateSwitch e).st.lines = e.st.lines := by
  unfold evaluateSwitch
  split <;> rfl

theorem starveAfter_lines (k : MoveKind) (s : State) : (starveAfter k s).lines = s.lines := by
  unfold starveAfter
  split <;> rfl

theorem makeGrant_sound {e : Event} (h : e.st.lines = s.lines) (k : CraneId) (en : Enrolment) (bay : Nat) (i : SlotId)
    (m : Move) : (makeGrant k en bay i m e).Sound s := by
  have hgrant : (grantMove k en bay i m e.st).lines = s.lines := (starveAfter_lines _ _).trans h
  unfold makeGrant
  rw [acceptEvent_sound, allocateRunning_lines]
  split <;> exact hgrant

theorem findWork_sound (k : CraneId) (en : Enrolment) (bay : Nat) (h : t.lines = s.lines) :
    (findWork k en bay t).Sound s := by
  have hswitch := (evaluateSwitch_lines t.event).trans h
  unfold findWork
  dsimp only
  split
  · refine .event ?_
    split <;> exact hswitch
  · exact makeGrant_sound hswitch _ _ _ _ _

theorem repeatGrant_sound (hd : Held) (h : t.lines = s.lines) : (repeatGrant hd t).Sound s := by
  unfold repeatGrant
  split <;> exact .event h

theorem takeNextMove_sound (p : PortId) (crane bay : Nat) : (takeNextMove p crane bay s).Sound s :=
  withCrane_sound fun k en => by
    split
    · simp
    · dsimp only
      split
      · exact repeatGrant_sound _ rfl
      · exact findWork_sound _ _ _ rfl

theorem takeSetMode_sound (m l : Nat) : (takeSetMode m l s).Sound s := by
  unfold takeSetMode
  repeat' split
  all_goals simp [State.lines]

theorem takeReadCrane_sound (c : Nat) : (takeReadCrane c s).Sound s := by
  unfold takeReadCrane
  split <;> simp

/-! ### The rules of the ports and the counters -/

theorem takeFreezeBeds_sound (p : PortId) (m : Nat) : (takeFreezeBeds p m s).Sound s := by
  unfold takeFreezeBeds
  split
  · simp
  · exact .event (s.modPort_lines p fun _ => rfl)

theorem takeReadBed_sound (p : PortId) (b : Nat) : (takeReadBed p b s).Sound s := by
  unfold takeReadBed
  split
  · simp
  · split
    · exact .event (s.modPort_lines p fun _ => rfl)
    · split <;> simp

theorem takeReadPort_sound (p : PortId) (q : Nat) : (takeReadPort p q s).Sound s := by
  unfold takeReadPort
  split <;> simp

theorem takeSetCounter_sound (c sel fk fn fe pg v : Nat) : (takeSetCounter c sel fk fn fe pg v s).Sound s := by
  unfold takeSetCounter
  split <;> simp [State.lines]

/-- The rule of every request is sound. -/
theorem requestRule_sound {i : Instr} {rule : State → Taken} (hrule : requestRule i = some rule) (s : State) :
    (rule s).Sound s := by
  cases i <;> cases hrule
  case readClock | setClock | readScan | readBudget | readCounters | unfreezeCounters | clearOverflow
      | resetCounters | resetCounterSelect => exact .event rfl
  case readAlerts | setAlertMask | unfreeze => exact .event (s.modPort_lines _ fun _ => rfl)
  case readMap => exact takeReadMap_sound _ _ _
  case defineBed => exact takeDefineBed_sound _ _ _ _ _ _ _
  case defineStack => exact takeDefineStack_sound _ _ _ _ _ _
  case setStackOpen => exact takeSetStackOpen_sound _ _
  case loadCrane => exact takeLoadCrane_sound _ _ _ _ _ _ _
  case defineClass => exact takeDefineClass_sound _ _ _ _ _ _
  case setLimits => exact takeSetLimits_sound _ _ _
  case setConfig => exact takeSetConfig_sound _ _ _
  case loadPiece => exact takeLoadPiece_sound _ _ _ _ _ _ _ _
  case loadBedState => exact takeLoadBedState_sound _ _ _ _ _ _ _ _ _ _
  case commit => exact takeCommit_sound
  case defineProbe => exact takeDefineProbe_sound _ _ _ _ _ _ _ _
  case readProbe => exact takeReadProbe_sound _
  case clearProbeTally => exact takeClearProbeTally_sound _ _
  case scanNow => exact takeScanNow_sound
  case abortScan => exact takeAbortScan_sound
  case setProfile => exact takeSetProfile_sound _ _
  case readProfile => exact takeReadProfile_sound _
  case bedSet => exact bedRequest_sound fun b x => ruleBedSet_sound b x
  case cancelSet => exact bedRequest_sound fun b x => ruleCancelSet_sound b x
  case pourStart => exact bedRequest_sound fun b x => rulePourStart_sound b x
  case pourEnd => exact bedRequest_sound fun b x => rulePourEnd_sound _ b x
  case detensionRequest => exact bedRequest_sound fun b x => ruleDetensionRequest_sound b x
  case detensionDone => exact bedRequest_sound fun b x => ruleDetensionDone_sound b x
  case abandonBed => exact bedRequest_sound fun b x => ruleAbandonBed_sound b x
  case readBed => exact takeReadBed_sound _ _
  case setHold | clearHold | readPiece => exact withPiece_sound fun _ => .event rfl
  case deletePiece => exact takeDeletePiece_sound _
  case shipDispatch => exact takeShipDispatch_sound _
  case readStack => exact takeReadStack_sound _
  case requestMove => exact takeRequestMove_sound _ _ _ _
  case cancelMove => exact takeCancelMove_sound _ _ _
  case readMove => exact takeReadMove_sound _
  case nextMove => exact takeNextMove_sound _ _ _
  case lifted => exact craneReport_sound (ruleLifted_sound _)
  case placed => exact craneReport_sound rulePlaced_sound
  case abortMove => exact takeAbortMove_sound _ _ _ _ _
  case setMode => exact takeSetMode_sound _ _
  case readCrane => exact takeReadCrane_sound _
  case freezeBeds => exact takeFreezeBeds_sound _ _
  case readPort => exact takeReadPort_sound _ _
  case setCounter => exact takeSetCounter_sound _ _ _ _ _ _ _

end Sys2Proof.Machine
end

section
/-! The wire form of the requests: fields, entries, and the bodies both ways (section 10.6). -/

namespace Sys2Proof

/-! ### Fields -/

@[simp] theorem put1_get1 (a : Byte) : put1 (get1 a) = a := by
  simp [put1, get1]

theorem put1_toNat (n : Nat) : (put1 n).toNat = n % 256 := by simp [put1]

theorem put1_eq_iff (n : Nat) (a : Byte) : put1 n = a ↔ n % 256 = a.toNat := by
  rw [← BitVec.toNat_inj, put1_toNat]

@[simp] theorem put2_get2 (a b : Byte) : put2 (get2 a b) = [a, b] := by
  have ha := a.isLt
  have hb := b.isLt
  simp only [put2, get2, List.cons.injEq, put1_eq_iff, and_true]
  omega

@[simp] theorem put4_get4 (a b c d : Byte) : put4 (get4 a b c d) = [a, b, c, d] := by
  have ha := a.isLt
  have hb := b.isLt
  have hc := c.isLt
  have hd := d.isLt
  simp only [put4, get4, List.cons.injEq, put1_eq_iff, and_true]
  omega

theorem get2_lt (a b : Byte) : get2 a b < 65536 := by
  have ha := a.isLt
  have hb := b.isLt
  unfold get2
  omega

theorem get4_lt (a b c d : Byte) : get4 a b c d < 4294967296 := by
  have ha := a.isLt
  have hb := b.isLt
  have hc := c.isLt
  have hd := d.isLt
  unfold get4
  omega

@[simp] theorem putS2_getS2 (a b : Byte) : putS2 (getS2 a b) = [a, b] := by
  rw [putS2, getS2, BitVec.ofInt_toInt, BitVec.toNat_ofNat, Nat.mod_eq_of_lt (get2_lt a b), put2_get2]

@[simp] theorem putS4_getS4 (a b c d : Byte) : putS4 (getS4 a b c d) = [a, b, c, d] := by
  rw [putS4, getS4, BitVec.ofInt_toInt, BitVec.toNat_ofNat, Nat.mod_eq_of_lt (get4_lt a b c d), put4_get4]

@[simp] theorem put8_get8 (a b c d e f g h : Byte) :
    put8 (get4 a b c d * 4294967296 + get4 e f g h) = [a, b, c, d, e, f, g, h] := by
  have hlow := get4_lt e f g h
  have hdiv : (get4 a b c d * 4294967296 + get4 e f g h) / 256 ^ 4 = get4 a b c d := by omega
  have hmod : (get4 a b c d * 4294967296 + get4 e f g h) % 256 ^ 4 = get4 e f g h := by omega
  rw [put8, hdiv, hmod, put4_get4, put4_get4]
  rfl

@[simp] theorem get1_put1 {n : Nat} (h : n < 256) : get1 (put1 n) = n := by
  rw [get1, put1_toNat, Nat.mod_eq_of_lt h]

theorem get2_put2 {n : Nat} (h : n < 65536) : get2 (put1 (n / 256)) (put1 n) = n := by
  simp only [get2, put1_toNat]
  omega

theorem get4_put4 {n : Nat} (h : n < 4294967296) :
    get4 (put1 (n / 16777216)) (put1 (n / 65536)) (put1 (n / 256)) (put1 n) = n := by
  simp only [get4, put1_toNat]
  omega

theorem fits_get1 (a : Byte) : fits 1 (get1 a) = true := by
  have ha : a.toNat < 256 := a.isLt
  simpa [fits, get1] using ha

theorem fits_get2 (a b : Byte) : fits 2 (get2 a b) = true := by
  simpa [fits] using get2_lt a b

theorem fits_get4 (a b c d : Byte) : fits 4 (get4 a b c d) = true := by
  simpa [fits] using get4_lt a b c d

theorem fitsSigned_two (n : Int) : fitsSigned 2 n = true ↔ -32768 ≤ n ∧ n < 32768 := by
  simp [fitsSigned]
  omega

theorem fitsSigned_four (n : Int) : fitsSigned 4 n = true ↔ -2147483648 ≤ n ∧ n < 2147483648 := by
  simp [fitsSigned]
  omega

theorem fitsSigned_getS2 (a b : Byte) : fitsSigned 2 (getS2 a b) = true := by
  have hlow := BitVec.le_toInt (BitVec.ofNat 16 (get2 a b))
  have hhigh := BitVec.toInt_lt (x := BitVec.ofNat 16 (get2 a b))
  rw [fitsSigned_two, getS2]
  omega

theorem fitsSigned_getS4 (a b c d : Byte) : fitsSigned 4 (getS4 a b c d) = true := by
  have hlow := BitVec.le_toInt (BitVec.ofNat 32 (get4 a b c d))
  have hhigh := BitVec.toInt_lt (x := BitVec.ofNat 32 (get4 a b c d))
  rw [fitsSigned_four, getS4]
  omega

theorem getS2_putS2 {n : Int} (h : fitsSigned 2 n = true) :
    getS2 (put1 ((n % 65536).toNat / 256)) (put1 (n % 65536).toNat) = n := by
  obtain ⟨hlow, hhigh⟩ := (fitsSigned_two n).mp h
  have hfield : (BitVec.ofInt 16 n).toNat = (n % 65536).toNat := by simp
  rw [← hfield, getS2, get2_put2 (BitVec.isLt _), BitVec.ofNat_toNat, BitVec.setWidth_eq]
  exact BitVec.toInt_ofInt_eq_self (by decide) hlow hhigh

theorem getS4_putS4 {n : Int} (h : fitsSigned 4 n = true) :
    getS4 (put1 ((n % 4294967296).toNat / 16777216)) (put1 ((n % 4294967296).toNat / 65536))
      (put1 ((n % 4294967296).toNat / 256)) (put1 (n % 4294967296).toNat) = n := by
  have hfield : (BitVec.ofInt 32 n).toNat = (n % 4294967296).toNat := by simp
  obtain ⟨hlow, hhigh⟩ := (fitsSigned_four n).mp h
  rw [← hfield, getS4, get4_put4 (BitVec.isLt _), BitVec.ofNat_toNat, BitVec.setWidth_eq]
  exact BitVec.toInt_ofInt_eq_self (by decide) hlow hhigh

theorem fits_get8 (a b c d e f g h : Byte) : fits 8 (get4 a b c d * 4294967296 + get4 e f g h) = true := by
  have hhigh := get4_lt a b c d
  have hlow := get4_lt e f g h
  rw [fits, decide_eq_true_eq]
  omega

theorem get8_put8 {n : Nat} (h : n < 18446744073709551616) :
    get4 (put1 (n / 4294967296 / 16777216)) (put1 (n / 4294967296 / 65536)) (put1 (n / 4294967296 / 256))
        (put1 (n / 4294967296)) * 4294967296 +
      get4 (put1 (n % 4294967296 / 16777216)) (put1 (n % 4294967296 / 65536)) (put1 (n % 4294967296 / 256))
        (put1 (n % 4294967296)) = n := by
  rw [get4_put4 (by omega), get4_put4 (by omega)]
  omega

/-- The fields of a profile. -/
theorem Profile.fitsWire_iff (q : Profile) : q.fitsWire = true ↔ q.preset < 65536 ∧ q.rampRate < 65536 ∧
    q.holdTemp < 65536 ∧ q.coolRate < 65536 ∧ q.bandLow < 256 ∧ q.bandHigh < 256 ∧ q.step < 256 ∧
    q.ceiling < 65536 := by
  simp [Profile.fitsWire, fits, and_assoc]

/-! ### Entries -/

/-- Entries that are read are those that the bytes spell. -/
theorem getEntries_spells {n : Nat} {l : List Byte} {es : List PieceEntry} (h : getEntries n l = some es) :
    es.length = n ∧ (es.map putEntry).flatten = l ∧ es.all PieceEntry.fitsWire = true := by
  induction n generalizing l es with
  | zero =>
    match l, h with
    | [], h =>
      cases h
      exact ⟨rfl, rfl, rfl⟩
  | succ n ih =>
    match l, h with
    | a :: b :: c :: d :: e :: rest, h =>
      obtain ⟨fs, hfs, rfl⟩ := Option.map_eq_some_iff.mp h
      obtain ⟨hlength, hbytes, hfits⟩ := ih hfs
      refine ⟨by rw [List.length_cons, hlength], ?_, ?_⟩
      · rw [List.map_cons, List.flatten_cons, hbytes, putEntry, put2_get2, put2_get2, put1_get1]
        rfl
      · rw [List.all_cons, hfits, PieceEntry.fitsWire, fits_get2, fits_get1, fits_get2]
        rfl

/-- Entries that fit the wire are read back. -/
theorem getEntries_put {es : List PieceEntry} (h : es.all PieceEntry.fitsWire = true) :
    getEntries es.length (es.map putEntry).flatten = some es := by
  induction es with
  | nil => rfl
  | cons x es ih =>
    rw [List.all_cons, Bool.and_eq_true] at h
    obtain ⟨hx, hes⟩ := h
    simp only [PieceEntry.fitsWire, fits, Bool.and_eq_true, decide_eq_true_eq] at hx
    obtain ⟨⟨hid, hcls⟩, hmass⟩ := hx
    change (getEntries es.length (es.map putEntry).flatten).map (fun l =>
      (⟨get2 (put1 (x.id / 256)) (put1 x.id), get1 (put1 x.cls), get2 (put1 (x.mass / 256)) (put1 x.mass)⟩ ::
        l : List PieceEntry)) = some (x :: es)
    rw [ih hes, get2_put2 hid, get2_put2 hmass, get1_put1 hcls]
    rfl

end Sys2Proof
end

section
/-! The bodies of the requests, decoded and encoded (section 10.6). -/

namespace Sys2Proof

open Machine

/-- What a body spells: the request is served at its port by its rule, its body is the one read, and it is well
formed when the body fits a frame. -/
structure Instr.Spells (p : PortId) (tag : Byte) (k : RequestKind) (body : List Byte) (i : Instr) : Prop where
  serves : ∃ rule, requestRule i = some rule ∧ ∀ s, exec i s = .next (serve p tag k rule s)
  body_eq : encodeBody i = body
  wellFormed : body.length ≤ 240 → i.wellFormed = true

theorem putEntries_eq {count : Byte} {rest : List Byte} {es : List PieceEntry}
    (h : getEntries count.toNat rest = some es) : putEntries es = count :: rest := by
  obtain ⟨hlength, hbytes, -⟩ := getEntries_spells h
  rw [putEntries, hbytes, hlength]
  exact congrArg (· :: rest) (put1_get1 count)

theorem entriesFit_of {count : Byte} {rest : List Byte} {es : List PieceEntry} {head : Nat}
    (h : getEntries count.toNat rest = some es) (hbody : head + rest.length ≤ 240) : entriesFit head es = true := by
  obtain ⟨hlength, hbytes, hfits⟩ := getEntries_spells h
  have hrest : 1 + 5 * es.length = 1 + rest.length := by
    rw [← Laws.Wire.putEntries_length, putEntries, hbytes, List.length_cons, add_comm]
  rw [entriesFit, hfits, Bool.true_and, decide_eq_true_eq, maxBody]
  omega

/-- Entries that fit a frame are read back with their count. -/
theorem getEntries_putEntries {es : List PieceEntry} {head : Nat} (h : entriesFit head es = true) :
    getEntries (put1 es.length).toNat (es.map putEntry).flatten = some es := by
  rw [entriesFit, Bool.and_eq_true, decide_eq_true_eq, maxBody] at h
  obtain ⟨hfits, hlength⟩ := h
  rw [put1_toNat, Nat.mod_eq_of_lt (by omega), getEntries_put hfits]

theorem decodeBody_spells {p : PortId} {tag : Byte} {k : RequestKind} {body : List Byte} {i : Instr}
    (h : decodeBody p tag k body = some i) : i.Spells p tag k body := by
  cases k
  case readClock | commit | scanNow | abortScan | readScan | readBudget | readAlerts | unfreeze
      | readCounters | unfreezeCounters | resetCounters | resetCounterSelect =>
    match body, h with
    | [], h =>
      cases h
      exact ⟨⟨_, rfl, fun _ => rfl⟩, rfl, fun _ => rfl⟩
  case readProbe | readProfile | bedSet | cancelSet | pourStart | detensionRequest | detensionDone
      | abandonBed | readBed | shipDispatch | readStack | readMove | readCrane | readPort
      | clearOverflow =>
    match body, h with
    | [_], h =>
      cases h
      exact ⟨⟨_, rfl, fun _ => rfl⟩, by simp [encodeBody], fun _ => by simp [Instr.wellFormed, fits_get1]⟩
  case setStackOpen | clearHold | deletePiece | readPiece | nextMove | placed | setMode | setAlertMask
      | freezeBeds =>
    match body, h with
    | [_, _], h =>
      cases h
      exact ⟨⟨_, rfl, fun _ => rfl⟩, by simp [encodeBody],
        fun _ => by simp [Instr.wellFormed, bytesFit, fits_get1, fits_get2]⟩
  case readMap | setHold | cancelMove =>
    match body, h with
    | [_, _, _], h =>
      cases h
      exact ⟨⟨_, rfl, fun _ => rfl⟩, by simp [encodeBody],
        fun _ => by simp [Instr.wellFormed, bytesFit, fits_get1, fits_get2]⟩
  case setClock | setConfig | requestMove | lifted | abortMove =>
    match body, h with
    | [_, _, _, _], h =>
      cases h
      exact ⟨⟨_, rfl, fun _ => rfl⟩, by simp [encodeBody],
        fun _ => by simp [Instr.wellFormed, bytesFit, fits_get1, fits_get2, fitsSigned_getS2, fitsSigned_getS4]⟩
  case defineStack | setLimits =>
    match body, h with
    | [_, _, _, _, _, _], h =>
      cases h
      exact ⟨⟨_, rfl, fun _ => rfl⟩, by simp [encodeBody],
        fun _ => by simp [Instr.wellFormed, bytesFit, fits_get1, fits_get2]⟩
  case defineBed | loadCrane | clearProbeTally =>
    match body, h with
    | [_, _, _, _, _, _, _, _, _], h =>
      cases h
      exact ⟨⟨_, rfl, fun _ => rfl⟩, by simp [encodeBody],
        fun _ => by simp [Instr.wellFormed, bytesFit, fits_get1, fits_get2, fits_get8]⟩
  case defineClass | setCounter =>
    match body, h with
    | [_, _, _, _, _, _, _, _, _, _], h =>
      cases h
      exact ⟨⟨_, rfl, fun _ => rfl⟩, by simp [encodeBody],
        fun _ => by simp [Instr.wellFormed, bytesFit, fits_get1, fits_get2, fits_get4]⟩
  case defineProbe =>
    match body, h with
    | [_, _, _, _, _, _, _, _, _, _, _, _], h =>
      cases h
      exact ⟨⟨_, rfl, fun _ => rfl⟩, by simp [encodeBody],
        fun _ => by simp [Instr.wellFormed, bytesFit, fits_get1, fits_get2, fitsSigned_getS2]⟩
  case setProfile =>
    match body, h with
    | [_, _, _, _, _, _, _, _, _, _, _, _, _, _, _], h =>
      cases h
      exact ⟨⟨_, rfl, fun _ => rfl⟩, by simp [encodeBody, putProfile],
        fun _ => by simp [Instr.wellFormed, Profile.fitsWire, fits_get1, fits_get2]⟩
  case loadPiece =>
    match body, h with
    | [_, _, _, _, _, _, _, _, _, _, _, _, _, _, _, _], h =>
      cases h
      exact ⟨⟨_, rfl, fun _ => rfl⟩, by simp [encodeBody],
        fun _ => by simp [Instr.wellFormed, bytesFit, fits_get1, fits_get2, fits_get4]⟩
  case pourEnd =>
    match body, h with
    | _ :: _ :: _, h =>
      obtain ⟨es, hes, rfl⟩ := Option.map_eq_some_iff.mp h
      refine ⟨⟨_, rfl, fun _ => rfl⟩, by simp [encodeBody, putEntries_eq hes], fun hbody => ?_⟩
      simp only [List.length_cons] at hbody
      simp [Instr.wellFormed, fits_get1, entriesFit_of hes (head := 2) (by omega)]
  case loadBedState =>
    match body, h with
    | _ :: _ :: _ :: _ :: _ :: _ :: _ :: _ :: _ :: _ :: _ :: _ :: _ :: _ :: _ :: _ :: _ :: _ :: _ :: _ ::
        _ :: _ :: _ :: _ :: _ :: _ :: _ :: _ :: _ :: _ :: _ :: _, h =>
      obtain ⟨es, hes, rfl⟩ := Option.map_eq_some_iff.mp h
      refine ⟨⟨_, rfl, fun _ => rfl⟩, by simp [encodeBody, putProfile, putEntries_eq hes], fun hbody => ?_⟩
      simp only [List.length_cons] at hbody
      simp [Instr.wellFormed, bytesFit, Profile.fitsWire, fits_get1, fits_get2, fits_get4, fitsSigned_getS2,
        entriesFit_of hes (head := 31) (by omega)]

/-! ### Encoding -/

/-- The body of a well-formed request decodes to it. -/
theorem decodeBody_encodeBody {i : Instr} {k : RequestKind} (hk : i.kind? = some k) (hi : i.wellFormed = true) :
    ∃ p tag, decodeBody p tag k (encodeBody i) = some i := by
  cases i <;> cases hk
  case readClock p tag | commit p tag | scanNow p tag | abortScan p tag | readScan p tag | readBudget p tag
      | readAlerts p tag | unfreeze p tag | readCounters p tag | unfreezeCounters p tag | resetCounters p tag
      | resetCounterSelect p tag => exact ⟨p, tag, rfl⟩
  case readProbe p tag _ | readProfile p tag _ | bedSet p tag _ | cancelSet p tag _ | pourStart p tag _
      | detensionRequest p tag _ | detensionDone p tag _ | abandonBed p tag _ | readBed p tag _ | shipDispatch p tag _
      | readStack p tag _ | readMove p tag _ | readCrane p tag _ | readPort p tag _ | clearOverflow p tag _ =>
    simp only [Instr.wellFormed, fits, decide_eq_true_eq] at hi
    exact ⟨p, tag, by change some _ = some _; simp [get1_put1 hi]⟩
  all_goals simp [Instr.wellFormed, bytesFit, fits, and_assoc] at hi
  case readMap p tag _ _ _ | setStackOpen p tag _ _ | nextMove p tag _ _ | placed p tag _ _ | setMode p tag _ _
      | defineStack p tag _ _ _ _ _ _ | abortMove p tag _ _ _ _ =>
    exact ⟨p, tag, by change some _ = some _; simp [get1_put1, hi]⟩
  case clearHold p tag _ | deletePiece p tag _ | readPiece p tag _ | setAlertMask p tag _ | freezeBeds p tag _ =>
    exact ⟨p, tag, by change some _ = some _; simp [get2_put2 hi]⟩
  case setHold p tag _ _ | cancelMove p tag _ _ | requestMove p tag _ _ _ | lifted p tag _ _ _ | setLimits p tag _ _ _
      | defineBed p tag _ _ _ _ _ _ _ | loadCrane p tag _ _ _ _ _ _ _ | defineClass p tag _ _ _ _ _ _ =>
    exact ⟨p, tag, by change some _ = some _; simp [get1_put1, get2_put2, hi]⟩
  case setCounter p tag _ _ _ _ _ _ _ | loadPiece p tag _ _ _ _ _ _ _ _ =>
    exact ⟨p, tag, by change some _ = some _; simp [get1_put1, get2_put2, get4_put4, hi]⟩
  case setClock p tag _ =>
    exact ⟨p, tag, by change some _ = some _; simp [getS4_putS4, hi]⟩
  case setConfig p tag _ _ _ | defineProbe p tag _ _ _ _ _ _ _ _ =>
    exact ⟨p, tag, by change some _ = some _; simp [getS2_putS2, get1_put1, get2_put2, hi]⟩
  case clearProbeTally p tag _ _ =>
    exact ⟨p, tag, by change some _ = some _; simp [get1_put1, get8_put8, hi]⟩
  case setProfile p tag _ q =>
    rw [Profile.fitsWire_iff] at hi
    exact ⟨p, tag, by change some _ = some _; simp [get1_put1, get2_put2, hi]⟩
  case pourEnd p tag _ es =>
    obtain ⟨hbed, hentries⟩ := hi
    refine ⟨p, tag, ?_⟩
    change (getEntries (put1 es.length).toNat _).map _ = _
    rw [getEntries_putEntries hentries]
    simp [get1_put1, hbed]
  case loadBedState p tag _ _ _ _ _ _ q _ _ es =>
    simp only [Profile.fitsWire_iff, and_assoc] at hi
    refine ⟨p, tag, ?_⟩
    change (getEntries (put1 es.length).toNat _).map _ = _
    rw [getEntries_putEntries (head := 31) (by simp [hi])]
    simp [get1_put1, get2_put2, get4_put4, getS2_putS2, hi]

end Sys2Proof
end

section
/-! Refusals and shared checks (O31, O36, O54). -/

namespace Sys2Proof.Machine

variable {s t u : State} {n : Nat}

/-! ### Refused requests change nothing -/

theorem requestRule_of_kind {i : Instr} {k : RequestKind} (h : i.kind? = some k) :
    ∃ rule, requestRule i = some rule := by
  cases i <;> first | exact ⟨_, rfl⟩ | cases h

theorem Result.isRefusal_iff (r : Result) : r.isRefusal = true ↔ r = .unknownKind ∨ 0x10 ≤ r.code.toNat := by
  simp [Result.isRefusal]

/-- The response of each port after a sound rule's answer. -/
theorem respond_line {x : Taken} (h : x.Sound s) (q : PortId) (tag kind : Byte) (p : PortId) :
    ((respond q tag kind x).port p).tx =
      if q = p then .formed ⟨tag, kind, x.result, x.answer⟩ else (s.port p).tx := by
  have hlines : (x.event.st.port p).tx = (s.port p).tx := congrFun h.lines p
  have hclosed : ((respond q tag kind x).port p).tx = ((x.event.st.modPort q fun y =>
      { y with tx := .formed ⟨tag, kind, x.result, x.answer⟩ }).port p).tx := by
    unfold respond
    dsimp only
    split <;> exact Event.close_tx _ p
  rw [hclosed, State.modPort_port]
  by_cases hpq : q = p
  · rw [if_pos hpq, if_pos hpq]
  · rw [if_neg hpq, if_neg hpq, hlines]

/-- A sound rule's refusal, answered. -/
theorem respond_of_refusal {x : Taken} (h : x.Sound s) (hr : x.result.isRefusal = true) (q : PortId) (tag : Byte)
    (k : RequestKind) : respond q tag k.code x = s.refused q tag k x.result x.answer := by
  have hx : x = refuseWith s x.result x.answer := by rw [refuseWith, ← h.unchanged hr]
  rw [hx]
  exact respond_refusedWith q tag k s x.result x.answer hr

/-- A request that is taken, refused by the checks or by its rule, is answered; else no response is formed. -/
theorem serve_sound {q : PortId} {tag : Byte} {k : RequestKind} {rule : State → Taken} (hrule : (rule s).Sound s) :
    (serve q tag k rule s).lines = s.lines ∨ ∃ x : Taken, x.Sound s ∧ serve q tag k rule s = respond q tag k.code x := by
  obtain h | h | ⟨r, -, h⟩ | ⟨-, h⟩ := serve_cases q tag k rule s
  · exact .inl (by rw [h])
  · refine .inl ?_
    rw [h]
    exact s.modPort_lines q fun _ => rfl
  · exact .inr ⟨_, refuse_sound s r, h⟩
  · exact .inr ⟨_, hrule, h⟩

theorem barred_loading_crane {k : RequestKind} (h : requestRoles k ≠ .any) :
    barred k .crane .loading = some .notReady := by
  simp [barred, h]

theorem mem_anyRoleKinds (k : RequestKind) : k ∈ anyRoleKinds ↔ requestRoles k = .any := by
  cases k <;> decide

theorem officeKinds_barred {k : RequestKind} (h : k ∈ officeKinds) :
    (∀ c, barred k .bedside c = some .notPermitted) ∧ barred k .crane .running = some .notPermitted := by
  have hroles : requestRoles k = .office ∧ needsRunning k = false := by
    revert h
    cases k <;> decide
  obtain ⟨hroles, hrunning⟩ := hroles
  refine ⟨fun c => ?_, ?_⟩ <;> simp [barred, hroles, hrunning, Roles.permits]

/-- A request barred by its state or its role. -/
theorem exec_barred {i : Instr} {p : PortId} {tag : Byte} {k : RequestKind} {body : List Byte} {role : Role}
    {r : Result} (hi : decodeBody p tag k body = some i) (hp : s.asks p role) (hrole : role ≠ .off)
    (hbarred : barred k role s.ctl = some r) (hr : r.isRefusal = true) :
    exec i s = .next (s.refused p tag k r .empty) := by
  obtain ⟨rule, -, hexec⟩ := (decodeBody_spells hi).serves
  obtain ⟨rfl, hidle⟩ := hp
  rw [hexec, serve_barred hrole hidle hbarred, respond_refused p tag k s r hr]

/-- Settles O54: every rule refuses without a change, and the checks before it refuse by state and role. -/
theorem refusedRequestsChangeNothing : Obligations.RefusedRequestsChangeNothing := by
  unfold Obligations.RefusedRequestsChangeNothing
  refine ⟨fun i k p s t r hk hidle ht hformed hrefusal => ?_, fun p tag k body i s hi => ⟨?_, ?_⟩⟩
  · obtain ⟨rule, hrule⟩ := requestRule_of_kind hk
    obtain ⟨q, tag, k', hk', hexec⟩ := exec_request hrule
    obtain rfl := Option.some.inj (hk.symm.trans hk')
    rw [hexec s] at ht
    cases ht
    obtain hlines | ⟨x, hx, hserve⟩ := serve_sound (q := q) (tag := tag) (k := k) (requestRule_sound hrule s)
    · exact absurd (hformed.symm.trans ((congrFun hlines p).trans hidle)) (by simp)
    · rw [hserve, respond_line hx] at hformed
      split at hformed
      · next hpq =>
        subst hpq
        cases hformed
        rw [hserve]
        exact respond_of_refusal hx ((Result.isRefusal_iff _).mpr hrefusal) q tag k
      · exact absurd (hformed.symm.trans hidle) (by simp)
  · intro hloading hp hk
    rw [mem_anyRoleKinds] at hk
    exact exec_barred hi hp (by decide) (hloading ▸ barred_loading_crane hk) rfl
  · intro hk hrole
    obtain ⟨hbedside, hcrane⟩ := officeKinds_barred hk
    obtain hp | ⟨hp, hrunning⟩ := hrole
    · exact exec_barred hi hp (by decide) (hbedside s.ctl) rfl
    · exact exec_barred hi hp (by decide) (hrunning ▸ hcrane) rfl

end Sys2Proof.Machine
end

section
/-! Holds, the shared checks of beds and cranes, and the counters (O31, O36, O55, O56). -/

namespace Sys2Proof.Machine

variable {s t u : State} {n : Nat}

/-! ### Holds -/

theorem idInRange_iff (id : Nat) : idInRange id = true ↔ 1 ≤ id ∧ id ≤ 65535 := by
  simp [idInRange, between]

theorem withPiece_badValue {id : Nat} (h : id = 0 ∨ 65535 < id) (rule : Piece → State → Taken) :
    withPiece id rule s = refuse s .badValue := by
  have hid : ¬ idInRange id = true := by
    rw [idInRange_iff]
    omega
  rw [withPiece, if_pos hid]

theorem withPiece_noSuch {id : Nat} (h1 : 1 ≤ id) (h2 : id ≤ 65535) (h : s.piece id = none)
    (rule : Piece → State → Taken) : withPiece id rule s = refuse s .noSuch := by
  rw [withPiece, if_neg (not_not.mpr ((idInRange_iff id).mpr ⟨h1, h2⟩)), h]

theorem withPiece_some {id : Nat} {x : Piece} (h1 : 1 ≤ id) (h2 : id ≤ 65535) (h : s.piece id = some x)
    (rule : Piece → State → Taken) : withPiece id rule s = rule x s := by
  rw [withPiece, if_neg (not_not.mpr ((idInRange_iff id).mpr ⟨h1, h2⟩)), h]

/-- A piece changed by its id, as a change of the list. -/
theorem State.modPiece_eq (s : State) (id : Nat) (f : Piece → Piece) :
    s.modPiece id f = { s with pieces := s.pieces.map fun y => if y.id = id then f y else y } := by
  simp only [State.modPiece, beq_iff_eq]

/-- Settles O36. -/
theorem holdsAreWrittenOnOnePiece : Obligations.HoldsAreWrittenOnOnePiece := by
  unfold Obligations.HoldsAreWrittenOnOnePiece
  intro p tag id reason s hp put
  have hset : s.takes p .setHold := hp.office rfl rfl
  have hclear : s.takes p .clearHold := hp.office rfl rfl
  refine ⟨fun hid => ⟨?_, ?_⟩, fun h1 h2 hnone => ⟨?_, ?_⟩, fun x h1 h2 hx => ⟨?_, ?_⟩⟩
  · exact hset.refuses (withPiece_badValue hid _) rfl
  · exact hclear.refuses (withPiece_badValue hid _) rfl
  · exact hset.refuses (withPiece_noSuch h1 h2 hnone _) rfl
  · exact hclear.refuses (withPiece_noSuch h1 h2 hnone _) rfl
  · refine hset.accepts ((withPiece_some h1 h2 hx _).trans ?_) rfl
    rw [State.modPiece_eq]
  · refine hclear.accepts ((withPiece_some h1 h2 hx _).trans ?_) rfl
    rw [State.modPiece_eq]

/-! ### The shared checks -/

/-- A request of a kind, with the checks of its rule, barred by its state or its role. -/
theorem serve_barred_refused {p : PortId} {tag : Byte} {k : RequestKind} {rule : State → Taken} {r : Result}
    (hp : s.hears p) (hbarred : barred k (s.port p).role s.ctl = some r) (hr : r.isRefusal = true := by rfl) :
    serve p tag k rule s = s.refused p tag k r .empty := by
  obtain ⟨hoff, hidle⟩ := hp
  rw [serve_barred hoff hidle hbarred, respond_refused p tag k s r hr]

/-- A request of a kind that LOADING refuses is barred there, and in RUNNING by the port's role alone. -/
theorem barred_loading {k : RequestKind} (h : needsRunning k = true) (r : Role) :
    barred k r .loading = some .notReady := by
  simp [barred, h]

theorem barred_running (k : RequestKind) (r : Role) :
    barred k r .running = if (requestRoles k).permits r then none else some .notPermitted := by
  cases h : (requestRoles k).permits r <;> simp [barred, h]

theorem Instr.bedRequest_serves {i : Instr} {p : PortId} {tag : Byte} {k : RequestKind} {n : Nat}
    (h : i.bedRequest? = some (p, tag, k, n)) : needsRunning k = true ∧
      (requestRoles k = if k = .abandonBed then .office else .officeBedside) ∧
      ∃ rule, ∀ s, exec i s = .next (serve p tag k (bedRequest p n rule) s) := by
  cases i <;> cases h
  all_goals exact ⟨rfl, rfl, _, fun _ => rfl⟩

theorem Instr.craneRequest_serves {i : Instr} {p : PortId} {tag : Byte} {k : RequestKind} {n slot : Nat}
    (h : i.craneRequest? = some (p, tag, k, n, slot)) : needsRunning k = true ∧ requestRoles k = .crane ∧
      ∃ rule : CraneId → Enrolment → State → Taken,
        (∀ s, exec i s = .next (serve p tag k (withCrane p n rule) s)) ∧
        ∀ c e s, 64 ≤ slot → rule c e s = refuse s .badValue := by
  cases i <;> cases h
  case nextMove => exact ⟨rfl, rfl, _, fun _ => rfl, fun _ _ _ hslot => by omega⟩
  all_goals
    refine ⟨rfl, rfl, _, fun _ => rfl, fun _ _ _ hslot => ?_⟩
    rw [slot?_none hslot]

/-- The checks of a bed request in their order (R98). -/
theorem bedRequest_noSlot {p : PortId} {n : Nat} (h : 16 ≤ n) (rule : BedId → Bed → State → Taken) :
    bedRequest p n rule s = refuse s .badValue := by
  rw [bedRequest, slot?_none h]

theorem bedRequest_undefined {p : PortId} {b : BedId} (h : s.bed b = none) (rule : BedId → Bed → State → Taken) :
    bedRequest p b rule s = refuse s .noSuch := by
  rw [bedRequest, slot?_val]
  dsimp only
  rw [h]

theorem bedRequest_notBound {p : PortId} {b : BedId} {x : Bed} (h : s.bed b = some x)
    (hrole : (s.port p).role = .bedside) (hbound : x.defn.bound ≠ some p) (rule : BedId → Bed → State → Taken) :
    bedRequest p b rule s = refuseWith s .notBound (.cycle x.cycle.state) := by
  rw [bedRequest, slot?_val]
  dsimp only
  rw [h]
  exact if_pos ⟨hrole, hbound⟩

/-- The checks of a crane's request in their order (R177). -/
theorem withCrane_noSlot {p : PortId} {n : Nat} (h : 4 ≤ n) (rule : CraneId → Enrolment → State → Taken) :
    withCrane p n rule s = refuse s .badValue := by
  rw [withCrane, slot?_none h]

theorem withCrane_notEnrolled {p : PortId} {k : CraneId} (h : (s.crane k).enrolment = none)
    (rule : CraneId → Enrolment → State → Taken) : withCrane p k rule s = refuse s .noSuch := by
  rw [withCrane, slot?_val]
  dsimp only
  rw [h]

theorem withCrane_notBound {p : PortId} {k : CraneId} {e : Enrolment} (h : (s.crane k).enrolment = some e)
    (hbound : e.bound ≠ p) (rule : CraneId → Enrolment → State → Taken) :
    withCrane p k rule s = refuse s .notBound := by
  rw [withCrane, slot?_val]
  dsimp only
  rw [h]
  exact if_pos hbound

theorem withCrane_own {p : PortId} {k : CraneId} {e : Enrolment} (h : (s.crane k).enrolment = some e)
    (hbound : e.bound = p) (rule : CraneId → Enrolment → State → Taken) :
    withCrane p k rule s = rule k e s := by
  rw [withCrane, slot?_val]
  dsimp only
  rw [h]
  exact if_neg (not_not.mpr hbound)

theorem bedRequest_permits {k : RequestKind} {r : Role} (hroles : requestRoles k =
      if k = .abandonBed then .office else .officeBedside) (hr : r ≠ .off) :
    (requestRoles k).permits r = true ↔ ¬ (r = .crane ∨ (r = .bedside ∧ k = .abandonBed)) := by
  rw [hroles]
  by_cases hk : k = .abandonBed
  · cases r <;> simp_all [Roles.permits]
  · cases r <;> simp_all [Roles.permits]

theorem crane_permits (r : Role) : Roles.permits .crane r = true ↔ r = .crane := by
  cases r <;> decide

theorem Ctl.running_of_not_loading {c : Ctl} (h : c ≠ .loading) : c = .running := by
  cases c with
  | loading => exact absurd rfl h
  | running => rfl

/-- Settles O31: the checks of `barred`, then of `bedRequest` and `withCrane`, one after the other. -/
theorem bedAndCraneRequestsShareTheirChecks : Obligations.BedAndCraneRequestsShareTheirChecks := by
  unfold Obligations.BedAndCraneRequestsShareTheirChecks
  intro i p tag k n slot s hp stop role
  have hstop : ∀ {rule : State → Taken} {r : Result}, (∀ s, exec i s = .next (serve p tag k rule s)) →
      barred k role s.ctl = some r → r.isRefusal = true → stop r .empty := fun hexec hbarred hr =>
    (hexec s).trans (congrArg _ (serve_barred_refused hp hbarred hr))
  refine ⟨fun hi => ?_, fun hi => ?_⟩
  · obtain ⟨hneeds, hroles, rule, hexec⟩ := Instr.bedRequest_serves hi
    have hpermits := bedRequest_permits hroles hp.1
    split
    · next hctl => exact hstop hexec (hctl ▸ barred_loading hneeds role) rfl
    next hctl =>
    have hbarred := barred_running k role
    rw [← Ctl.running_of_not_loading hctl] at hbarred
    split
    · next hrole => exact hstop hexec (hbarred.trans (if_neg fun h => hpermits.mp h hrole)) rfl
    next hrole =>
    have htakes : s.takes p k := ⟨hp.2, hbarred.trans (if_pos (hpermits.mpr hrole))⟩
    split
    · next hn => exact htakes.refuses (bedRequest_noSlot hn rule) (hexec s)
    · rintro b rfl
      exact ⟨fun hnone => htakes.refuses (bedRequest_undefined hnone rule) (hexec s), fun x hx hbedside hbound =>
        htakes.refusesWith (bedRequest_notBound hx hbedside hbound rule) (hexec s)⟩
  · obtain ⟨hneeds, hroles, rule, hexec, hslot⟩ := Instr.craneRequest_serves hi
    split
    · next hctl => exact hstop hexec (hctl ▸ barred_loading hneeds role) rfl
    next hctl =>
    have hbarred := barred_running k role
    rw [← Ctl.running_of_not_loading hctl, hroles] at hbarred
    split
    · next hrole => exact hstop hexec (hbarred.trans (if_neg fun h => hrole ((crane_permits role).mp h))) rfl
    next hrole =>
    have htakes : s.takes p k := ⟨hp.2, hbarred.trans (if_pos ((crane_permits role).mpr (not_not.mp hrole)))⟩
    split
    · next hn => exact htakes.refuses (withCrane_noSlot hn rule) (hexec s)
    · rintro j rfl
      refine ⟨fun hnone => htakes.refuses (withCrane_notEnrolled hnone rule) (hexec s), fun e he => ⟨fun hbound =>
        htakes.refuses (withCrane_notBound he hbound rule) (hexec s), fun hbound hn => ?_⟩⟩
      exact htakes.refuses ((withCrane_own he hbound rule).trans (hslot j e s hn)) (hexec s)

end Sys2Proof.Machine
end

section
/-! The Activity Counters (O55, O56). -/

namespace Sys2Proof.Machine

variable {s t u : State} {n : Nat}

/-! ### What an event brings -/

/-- The selection that counts a happening (R185). -/
def Happening.own : Happening → Selection
  | .scanDone => .scanDone
  | .scanOverrun => .scanOverrun
  | .probeFault _ => .probeFault
  | .moveEntered _ => .moveEntered
  | .moveMerged _ => .moveMerged
  | .moveGranted _ _ => .moveGranted
  | .offMode _ _ => .offMode
  | .moveRevoked _ _ => .moveRevoked
  | .moveCompleted _ _ => .moveCompleted
  | .modeSwitch => .modeSwitch
  | .curtailment _ => .curtailment
  | .powerWait _ => .powerWait
  | .frameReject _ => .frameReject
  | .requestRefused _ => .requestRefused
  | .queuedMoves _ => .queuedMoves
  | .grantedHeat _ => .grantedHeat

theorem Happening.amount_other {h : Happening} {sel : Selection} (hsel : sel ≠ h.own) (f : Filter) :
    h.amount sel f = 0 := by
  cases h <;> cases sel <;> first | rfl | exact absurd rfl hsel

/-- A happening that its own selection counts as 1 under the filters it carries. -/
theorem Happening.amount_counts {h : Happening} {f : Filter} {carried : List Filter}
    (hown : h.amount h.own f = if f = .any ∨ f ∈ carried then 1 else 0) (sel : Selection) :
    h.amount sel f = if sel = h.own ∧ (f = .any ∨ f ∈ carried) then 1 else 0 := by
  by_cases hsel : sel = h.own
  · simp only [hsel, true_and]
    exact hown
  · simp only [hsel, false_and, if_false]
    exact Happening.amount_other hsel f

theorem total_filtered (v : Vector Nat 16) (f : Filter) :
    (∑ b : BedId, if f = .any ∨ f = .bed b then v[b] else 0) = match f with
      | .any => total v
      | .bed b => v[b]
      | .crane _ => 0
      | .port _ => 0 := by
  cases f with
  | any => simp [total_eq_sum]
  | bed b => simp
  | crane k => simp
  | port p => simp

theorem Happening.amount_worth (h : Happening) (sel : Selection) (f : Filter) : h.worth sel f (h.amount sel f) := by
  cases h
  case queuedMoves m =>
    by_cases hsel : sel = .queuedMoves
    · subst hsel
      simp [Happening.worth, Happening.amount]
    · exact (Happening.amount_other (h := .queuedMoves m) hsel f).trans (if_neg fun h => hsel h.1).symm
  case grantedHeat v =>
    by_cases hsel : sel = .grantedHeat
    · subst hsel
      change _ = if _ then _ else _
      rw [if_pos rfl, total_filtered]
      cases f <;> rfl
    · exact (Happening.amount_other (h := .grantedHeat v) hsel f).trans (if_neg hsel).symm
  case probeFault b =>
    cases b with
    | none => exact Happening.amount_counts (by simp [Happening.own, Happening.amount]) sel
    | some b => exact Happening.amount_counts (by simp [Happening.own, Happening.amount, eq_comm]) sel
  all_goals exact Happening.amount_counts (by simp [Happening.own, Happening.amount]) sel

/-! ### The end of an event -/

theorem Counter.add_value (c : Counter) (l : List Happening) :
    (c.add l).value.toNat = (c.value.toNat + c.gain l) % 4294967296 := by
  simp [Counter.add]

theorem Counter.wraps_iff (c : Counter) (l : List Happening) :
    c.wraps l = true ↔ 4294967295 < c.value.toNat + c.gain l := by
  simp only [Counter.wraps, decide_eq_true_eq]
  omega

theorem Counter.add_overflow (c : Counter) (l : List Happening) : (c.add l).overflow = true ↔
    c.overflow = true ∨ 4294967295 < c.value.toNat + c.gain l := by
  rw [Counter.add, Bool.or_eq_true, Counter.wraps_iff]

/-- A freeze-enabled counter of the bank wraps. -/
theorem CounterBank.freezes_iff (v : Vector Counter 8) (l : List Happening) :
    (v.toList.any fun c => c.freezeEnable && c.wraps l) = true ↔
      ∃ i : Fin 8, v[i].freezeEnable = true ∧ 4294967295 < v[i].value.toNat + v[i].gain l := by
  simp only [List.any_eq_true, Bool.and_eq_true, Counter.wraps_iff]
  constructor
  · rintro ⟨c, hc, hwraps⟩
    obtain ⟨i, hi, rfl⟩ := List.getElem_of_mem hc
    exact ⟨⟨i, by simpa using hi⟩, by simpa using hwraps⟩
  · rintro ⟨i, hwraps⟩
    exact ⟨v[i], by simp, hwraps⟩

theorem join_counterOverflow (p : PortId) (x : Port) : Port.join .counterOverflow .everyPort p x =
    if x.role ≠ .off ∧ x.mask.getLsbD 14 = true then { x with alerts := x.alerts ||| 0x4000#16 } else x := by
  simp only [Port.join, Bool.and_eq_true, everyPort_sees]
  rfl

/-- Settles O55: the amounts happening by happening, and the bank counter by counter. -/
theorem countersTakeAnEventsAmounts : Obligations.CountersTakeAnEventsAmounts := by
  unfold Obligations.CountersTakeAnEventsAmounts
  refine ⟨Happening.amount_worth, fun e => ⟨e.close, rfl, ?_, fun hfrozen => ?_, fun hrunning => ?_⟩⟩
  · exact e.close_eq
  · exact if_pos hfrozen
  · obtain ⟨hfrozen, -⟩ | ⟨-, hclose⟩ := e.close_cases
    · exact absurd (hfrozen.symm.trans hrunning) (by decide)
    intro sum wraps
    have hcounter := fun i => e.close_counter hrunning i
    have hfroze : e.close.counters.frozen =
        e.st.counters.counters.toList.any fun c => c.freezeEnable && c.wraps e.seen := by
      rw [hclose, State.raiseIf_counters]
    refine ⟨fun i => ?_, ?_, fun hz => ?_, fun hz p => ?_⟩
    · rw [hcounter]
      exact ⟨Counter.add_value _ _, Counter.add_overflow _ _, rfl, rfl, rfl⟩
    · rw [hfroze]
      exact CounterBank.freezes_iff _ _
    · rw [hfroze] at hz
      rw [hclose, hz]
      rfl
    · rw [hfroze] at hz
      rw [hclose, hz, State.raiseIf_port, if_pos rfl]
      exact join_counterOverflow p _

end Sys2Proof.Machine
end

section
/-! The counter requests (O56). -/

namespace Sys2Proof.Machine

variable {s t u : State} {n : Nat}

theorem selection?_num (sel : Fin 17) : selection? sel = some selections[sel] := by
  revert sel
  decide

theorem selection?_none {sel : Nat} (h : 17 ≤ sel) : selection? sel = none := by
  unfold selection?
  split
  case h_18 => rfl
  all_goals omega

theorem carries_iff (sel : Fin 17) (f : Filter) : selections[sel].carries f = true ↔ filterFits sel f := by
  cases f
  case any => exact iff_of_true rfl trivial
  all_goals
    simp only [Selection.carries, filterFits]
    revert sel
    decide

/-- The code and number that give a filter. -/
def Filter.given (f : Filter) (kind number : Nat) : Prop :=
  match f with
  | .any => kind = 0
  | .bed b => kind = 1 ∧ number = b
  | .crane c => kind = 2 ∧ number = c
  | .port q => kind = 3 ∧ number = q

theorem filter?_given {f : Filter} {kind number : Nat} (h : f.given kind number) :
    filter? kind number = some f := by
  cases f
  case any =>
    obtain rfl : kind = 0 := h
    rfl
  all_goals
    obtain ⟨rfl, rfl⟩ := h
    simp [filter?]

theorem filter?_none {kind number : Nat} (h : 4 ≤ kind ∨ (kind = 1 ∧ 16 ≤ number) ∨ (2 ≤ kind ∧ 4 ≤ number)) :
    filter? kind number = none := by
  unfold filter?
  split
  case h_5 => rfl
  case h_1 => omega
  all_goals
    rw [Option.map_eq_none_iff]
    exact slot?_none (by omega)

/-- A preload given or not (R188). -/
theorem preload_given (v : Option Word32) :
    optional? (if v.isSome then 1 else 0) ((v.map BitVec.toNat).getD 0) = some (v.map BitVec.toNat) := by
  cases v <;> rfl

/-- SET_COUNTER with a number out of range is not judged further (R188). -/
theorem counterSetting?_none {c sel kind number en given v : Nat} (h : 8 ≤ c ∨ 17 ≤ sel ∨ 4 ≤ kind ∨
      (kind = 1 ∧ 16 ≤ number) ∨ (2 ≤ kind ∧ 4 ≤ number) ∨ 2 ≤ en ∨ 2 ≤ given) :
    counterSetting? c sel kind number en given v = none := by
  unfold counterSetting?
  split
  · next hc hsel hf hen hv =>
    exfalso
    have hfilter := fun h => Option.some_ne_none _ (hf.symm.trans (filter?_none h))
    have hcounter : ¬ 8 ≤ c := fun h => Option.some_ne_none _ (hc.symm.trans (slot?_none h))
    have hselection : ¬ 17 ≤ sel := fun h => Option.some_ne_none _ (hsel.symm.trans (selection?_none h))
    have henable : ¬ 2 ≤ en := fun h => Option.some_ne_none _ (hen.symm.trans (flag?_none h))
    have hgiven : ¬ 2 ≤ given := fun h => Option.some_ne_none _ (hv.symm.trans (optional?_none h _))
    tauto
  · rfl

/-- Settles O56: the judged setting, and each request's one write. -/
theorem counterRequestsWriteWhatTheyName : Obligations.CounterRequestsWriteWhatTheyName := by
  unfold Obligations.CounterRequestsWriteWhatTheyName
  intro p tag s
  refine ⟨fun hp i sel f kind number en v hf => ?_, fun hp c sel kind number en given v hbad => ?_,
    fun hp => ?_, fun hp => ?_⟩
  · have htakes : s.takes p .setCounter := hp.office rfl rfl
    intro run
    have hsetting : counterSetting? i sel kind number (if en then 1 else 0) (if v.isSome then 1 else 0)
        ((v.map BitVec.toNat).getD 0) = if selections[sel].carries f then
          some ⟨i, selections[sel], f, en, v.map BitVec.toNat⟩ else none := by
      simp only [counterSetting?, slot?_val, selection?_num, filter?_given hf, flag?_ofBool, preload_given]
    refine ⟨fun hfits => ?_, fun hfits => ?_⟩
    · rw [if_neg ((carries_iff sel f).not.mpr hfits)] at hsetting
      exact htakes.refuses (by rw [takeSetCounter, hsetting]) rfl
    · rw [if_pos ((carries_iff sel f).mpr hfits)] at hsetting
      have hrule : takeSetCounter i sel kind number (if en then 1 else 0) (if v.isSome then 1 else 0)
          ((v.map BitVec.toNat).getD 0) s = accept (s.modCounters fun j c =>
            if j = i then c.settle ⟨i, selections[sel], f, en, v.map BitVec.toNat⟩ else c) .empty := by
        rw [takeSetCounter, hsetting]
      refine ⟨_, htakes.accepts hrule rfl, ?_, fun j hj => ?_⟩
      · rw [onEach_get, if_pos rfl]
        cases v <;> simp [Counter.settle]
      · rw [onEach_get, if_neg hj]
  · exact (hp.office rfl rfl : s.takes p .setCounter).refuses
      (by rw [takeSetCounter, counterSetting?_none hbad]) rfl
  · exact (State.hears_takes hp rfl rfl).accepts (rule := takeReadCounters) rfl rfl
  · intro done old z
    refine ⟨(hp.office rfl rfl).accepts (rule := takeUnfreezeCounters) rfl rfl, fun mask =>
      ⟨_, (hp.office rfl rfl).accepts (rule := takeClearOverflow mask) rfl rfl, fun i => (onEach_get _ _ i).trans ?_⟩,
      ⟨_, (hp.office rfl rfl).accepts (rule := takeResetCounters) rfl rfl, fun i => onEach_get _ _ i⟩,
      ⟨_, (hp.office rfl rfl).accepts (rule := takeResetCounterSelect) rfl rfl, fun i => onEach_get _ _ i⟩⟩
    rw [inMask]
    cases hbit : mask.testBit i <;> simp [old]

end Sys2Proof.Machine
end

section
/-! Snapshots, receivers and frames (O50, O51, O52). -/

namespace Sys2Proof.Machine

variable {s t u : State} {n : Nat}

/-! ### Snapshots -/

theorem State.namesUndefined_iff (s : State) (mask : Nat) : s.namesUndefined mask = true ↔
    ∃ b : BedId, mask.testBit b = true ∧ s.bed b = none := by
  simp [State.namesUndefined, inMask]

theorem State.modPort_congr {p : PortId} {f g : Port → Port} (h : f (s.port p) = g (s.port p)) :
    s.modPort p f = s.modPort p g := by
  rw [State.port] at h
  rw [State.modPort, State.modPort, h]

/-- A list of reports, one for each id of a list whose records all exist. -/
theorem filterMap_map_all {α β : Type} {l : List Nat} {f : Nat → Option α} (g : Nat → α → β)
    (h : ∀ id ∈ l, (f id).isSome) :
    (l.filterMap fun id => (f id).map (g id)).length = l.length ∧
      ∀ (n : Nat) id x, l[n]? = some id → f id = some x →
        (l.filterMap fun id => (f id).map (g id))[n]? = some (g id x) := by
  induction l with
  | nil => simp
  | cons id l ih =>
    obtain ⟨x, hx⟩ := Option.isSome_iff_exists.mp (h id List.mem_cons_self)
    obtain ⟨hlength, hget⟩ := ih fun j hj => h j (List.mem_cons_of_mem id hj)
    rw [List.filterMap_cons_some (b := g id x) (by rw [hx]; rfl)]
    refine ⟨congrArg (· + 1) hlength, fun n j y hj hy => ?_⟩
    cases n with
    | zero =>
      obtain rfl := Option.some.inj hj
      obtain rfl := Option.some.inj (hx.symm.trans hy)
      rfl
    | succ n => exact hget n j y hj hy

/-- The pieces of a report when every piece of the list is registered. -/
theorem State.bedPieces_all {x : Bed} (h : ∀ id ∈ x.cycle.pieces, (s.piece id).isSome) :
    (s.bedPieces x).length = x.cycle.pieces.length ∧
      ∀ (n : Nat) id y, x.cycle.pieces[n]? = some id → s.piece id = some y →
        (s.bedPieces x)[n]? = some (id, y.state) :=
  filterMap_map_all (fun (id : Nat) (y : Piece) => (id, y.state)) h

/-- Settles O50: each request's rule on the snapshot set of its port. -/
theorem snapshotsAreFrozenReadOnceAndEmptied : Obligations.SnapshotsAreFrozenReadOnceAndEmptied := by
  unfold Obligations.SnapshotsAreFrozenReadOnceAndEmptied
  intro p tag s hp
  have hfreeze : s.takes p .freezeBeds := State.hears_takes hp rfl rfl
  have hread : s.takes p .readBed := State.hears_takes hp rfl rfl
  refine ⟨fun mask => ⟨fun hundefined => ?_, fun hdefined => ?_⟩, ?_, fun b => ⟨fun r hr => ?_, fun hnone hb => ?_,
    fun x hnone hx => ?_⟩, fun n hn => ?_, fun b x => ?_⟩
  · exact hfreeze.refuses (if_pos ((s.namesUndefined_iff mask).mpr hundefined)) rfl
  · have hnames : ¬ s.namesUndefined mask = true := fun h => by
      obtain ⟨b, hbit, hnone⟩ := (s.namesUndefined_iff mask).mp h
      exact hdefined b hbit hnone
    refine ⟨s.freeze mask (s.port p).snapshots, ?_, fun b => ?_⟩
    · refine hfreeze.accepts ((if_neg hnames).trans ?_) rfl
      exact congrArg (accept · (.scanNumber s.scan.number)) (State.modPort_congr rfl)
    · rw [State.freeze, onEach_get, inMask]
  · refine ⟨Vector.replicate 16 none, fun b => vector_replicate_get _ b, ?_⟩
    exact (State.hears_takes hp rfl rfl).accepts (rule := takeUnfreeze p) rfl rfl
  · refine hread.accepts (rule := takeReadBed p b) ?_ rfl
    rw [takeReadBed, slot?_val]
    dsimp only
    rw [hr]
    exact congrArg (accept · (.bed (s.bedReply true r))) (State.modPort_congr rfl)
  · refine hread.refuses (rule := takeReadBed p b) ?_ rfl
    rw [takeReadBed, slot?_val]
    dsimp only
    rw [hnone, hb]
  · refine hread.accepts (rule := takeReadBed p b) ?_ rfl
    rw [takeReadBed, slot?_val]
    dsimp only
    rw [hnone, hx]
    rfl
  · exact hread.refuses (by rw [takeReadBed, slot?_none hn]) rfl
  · exact ⟨rfl, rfl, rfl, rfl, rfl, rfl, s.bedPieces_all⟩

end Sys2Proof.Machine
end

section
/-! Receivers, responses and completed frames (O51, O52). -/

namespace Sys2Proof.Machine

variable {s t u : State} {n : Nat} {p : PortId}

theorem State.modPort_self {f : Port → Port} (h : f (s.port p) = s.port p) : s.modPort p f = s := by
  rw [State.port] at h
  rw [State.modPort, h, Fin.getElem_fin, Vector.set_getElem_self]

theorem State.modPort_modPort (s : State) (p : PortId) (f g : Port → Port) :
    (s.modPort p f).modPort p g = s.modPort p fun x => g (f x) := by
  simp [State.modPort]

theorem gainTally_eq (n : Nat) : gainTally n = if n < 65535 then n + 1 else 65535 := by
  rw [gainTally, maxTally]
  split <;> omega

theorem rejectFrame_setRx (s : State) (p : PortId) : rejectFrame p (s.setRx p .hunt) = s.discards p := by
  rw [rejectFrame, State.setRx, State.modPort_modPort, State.discards]
  simp only [gainTally_eq]
  rfl

theorem getCheck_eq (hi lo : Byte) : getCheck hi lo = hi ++ lo := by
  rw [getCheck, get2]
  apply BitVec.eq_of_toNat_eq
  rw [BitVec.toNat_append, BitVec.toNat_ofNat, ← Nat.shiftLeft_add_eq_or_of_lt lo.isLt, Nat.shiftLeft_eq]
  omega

/-- The last check byte completes the frame that the kept bytes spell (R174, R175). -/
theorem completeKept_eq (p : PortId) (tag kind hi lo : Byte) (body : List Byte) (s : State) :
    completeKept p (body.length + 2) (tag :: kind :: (body ++ [hi]) ++ [lo]) s =
      completeFrame p tag kind body (hi ++ lo) s := by
  simp [completeKept, getCheck_eq]

/-- A byte, a silence, a break and a frame change nothing at an OFF port. -/
theorem off_takes_nothing (h : (s.port p).role = .off) (b : Byte) :
    exec (.byteReceived p b) s = .next s ∧ exec (.characterSilenceTimeout p) s = .next s ∧
      exec (.breakEnd p) s = .next s ∧
      ∀ tag kind body check, exec (.frameCompletion p tag kind body check) s = .next s :=
  ⟨if_pos h, if_pos h, if_pos h, fun _ _ _ _ => if_pos h⟩

theorem exec_byte_hunt (h : (s.port p).role ≠ .off) (hr : (s.port p).rx = .hunt) (b : Byte) :
    exec (.byteReceived p b) s = .next (if b = startByte then s.setRx p .length else s) := by
  refine (if_neg h).trans ?_
  rw [hr]

theorem exec_byte_length (h : (s.port p).role ≠ .off) (hr : (s.port p).rx = .length) (b : Byte) :
    exec (.byteReceived p b) s =
      .next (if 2 ≤ b.toNat ∧ b.toNat ≤ 242 then s.setRx p (.collect b.toNat []) else s.discards p) := by
  refine (if_neg h).trans ?_
  rw [hr]
  simp only [takeLength, between, Bool.and_eq_true, decide_eq_true_eq, rejectFrame_setRx]

theorem exec_byte_collect {len : Nat} {kept : List Byte} (h : (s.port p).role ≠ .off)
    (hr : (s.port p).rx = .collect len kept) (b : Byte) :
    exec (.byteReceived p b) s = .next (takeKept p b len kept s) := by
  refine (if_neg h).trans ?_
  rw [hr]

theorem exec_silence_hunt (h : (s.port p).role ≠ .off) (hr : (s.port p).rx = .hunt) :
    exec (.characterSilenceTimeout p) s = .next s := by
  refine (if_neg h).trans ?_
  rw [hr]

theorem exec_silence_frame (h : (s.port p).role ≠ .off) (hr : (s.port p).rx ≠ .hunt) :
    exec (.characterSilenceTimeout p) s = .next (s.discards p) := by
  refine (if_neg h).trans ?_
  rw [← rejectFrame_setRx]
  split <;> first | contradiction | rfl

/-- A byte before the last check byte is kept. -/
theorem takeKept_short {len : Nat} {kept : List Byte} (h : kept.length < len + 1) (b : Byte) :
    takeKept p b len kept s = s.setRx p (.collect len (kept ++ [b])) :=
  if_pos (by simp; omega)

/-- The last check byte is taken as the frame's completion. -/
theorem exec_byte_last (h : (s.port p).role ≠ .off) {tag kind hi : Byte} {body : List Byte}
    (hr : (s.port p).rx = .collect (body.length + 2) (tag :: kind :: (body ++ [hi]))) (b : Byte) :
    exec (.byteReceived p b) s = exec (.frameCompletion p tag kind body (hi ++ b)) s := by
  have hframe : exec (.frameCompletion p tag kind body (hi ++ b)) s =
      .next (completeFrame p tag kind body (hi ++ b) (s.setRx p .hunt)) := if_neg h
  rw [exec_byte_collect h hr, hframe, ← completeKept_eq]
  exact congrArg Host.Outcome.next (if_neg (by simp))

theorem exec_breakEnd (h : (s.port p).role ≠ .off) :
    exec (.breakEnd p) s = .next (s.modPort p Port.breakReset) := if_neg h

/-! ### The response -/

theorem exec_responseSent (p : PortId) (s : State) :
    exec (.responseSent p) s = .next (s.modPort p fun x => { x with tx := x.tx.finish }) := rfl

theorem exec_lineTurnaround (p : PortId) (s : State) :
    exec (.lineTurnaround p) s = .next (s.modPort p fun x => { x with tx := x.tx.begin }) := rfl

/-- A change of the transmitter to a known state. -/
theorem State.modPort_tx {f : Transmit → Transmit} {x : Transmit} (h : f (s.port p).tx = x) :
    (s.modPort p fun y => { y with tx := f y.tx }) = s.modPort p fun y => { y with tx := x } :=
  State.modPort_congr (congrArg (fun v => { s.port p with tx := v }) h)

theorem State.modPort_tx_self {f : Transmit → Transmit} (h : f (s.port p).tx = (s.port p).tx) :
    (s.modPort p fun y => { y with tx := f y.tx }) = s :=
  State.modPort_self (congrArg (fun v => { s.port p with tx := v }) h)

theorem Transmit.sending_iff (x : Transmit) : x.sending = true ↔ x ≠ .idle := by
  cases x <;> simp [Transmit.sending]

theorem Receiver.state_hunt (r : Receiver) : r.state = .hunt ↔ r = .hunt := by
  cases r <;> simp [Receiver.state]

theorem Receiver.state_length (r : Receiver) : r.state = .length ↔ r = .length := by
  cases r <;> simp [Receiver.state]

/-- Settles O51: the receiver, the transmitter and READ_PORT, state by state. -/
theorem receiversAndResponsesFollowTheirStates : Obligations.ReceiversAndResponsesFollowTheirStates := by
  unfold Obligations.ReceiversAndResponsesFollowTheirStates
  intro p q tag b s rx tx byte silence
  refine ⟨fun hoff => ?_, fun hon => ⟨fun hr => ⟨exec_byte_hunt hon hr b, exec_silence_hunt hon hr⟩,
    fun hr => ⟨?_, exec_byte_length hon hr b⟩, fun len kept hr => ⟨?_, fun hshort => ?_, ?_⟩, ?_⟩,
    fun r hr => ⟨?_, ?_⟩, fun r hr => ⟨?_, ?_⟩, fun hr => ⟨?_, ?_⟩, fun hp => ?_, fun hp n hn => ?_⟩
  · obtain ⟨hbyte, hsilence, hbreak, hframe⟩ := off_takes_nothing hoff b
    exact ⟨hbyte, hsilence, hbreak, fun kind body check => hframe tag kind body check⟩
  · exact exec_silence_frame hon (by simp [hr])
  · exact exec_silence_frame hon (by simp [hr])
  · exact (exec_byte_collect hon hr b).trans (congrArg Host.Outcome.next (takeKept_short hshort b))
  · rintro kind body hi rfl rfl
    exact exec_byte_last hon hr b
  · refine (exec_breakEnd hon).trans (congrArg Host.Outcome.next (State.modPort_congr ?_))
    rw [Port.breakReset]
    cases (s.port p).tx <;> rfl
  · exact (exec_lineTurnaround p s).trans (congrArg _ (State.modPort_tx (by rw [hr]; rfl)))
  · exact (exec_responseSent p s).trans (congrArg _ (State.modPort_tx_self (by rw [hr]; rfl)))
  · exact (exec_responseSent p s).trans (congrArg _ (State.modPort_tx (by rw [hr]; rfl)))
  · exact (exec_lineTurnaround p s).trans (congrArg _ (State.modPort_tx_self (by rw [hr]; rfl)))
  · exact (exec_responseSent p s).trans (congrArg _ (State.modPort_tx_self (by rw [hr]; rfl)))
  · exact (exec_lineTurnaround p s).trans (congrArg _ (State.modPort_tx_self (by rw [hr]; rfl)))
  · refine ⟨s.portReport p q, (State.hears_takes hp rfl rfl).accepts (rule := takeReadPort p q) ?_ rfl, rfl,
      Receiver.state_hunt _, Receiver.state_length _, ?_, rfl, fun m => ?_⟩
    · rw [takeReadPort, slot?_val]
    · simp [State.portReport, Transmit.sending_iff]
    · simp [State.portReport, Option.isSome_iff_ne_none]
  · exact (State.hears_takes hp rfl rfl).refuses (rule := takeReadPort p n) (by rw [takeReadPort, slot?_none hn]) rfl

/-! ### Completed frames -/

theorem RequestKind.ofCode_code (k : RequestKind) : RequestKind.ofCode k.code = some k := by
  cases k <;> rfl

theorem RequestKind.ofCode_none {c : Byte} (h : ∀ k : RequestKind, k.code ≠ c) : RequestKind.ofCode c = none := by
  simp [RequestKind.ofCode, h]

theorem requestCheck_eq (tag kind : Byte) (body : List Byte) : requestCheck tag kind body =
    checkSequence (BitVec.ofNat 8 (body.length + 2) :: tag :: kind :: body) := rfl

/-- A frame whose kind or length is refused is answered with the kind it came with. -/
theorem respond_echo (p : PortId) (tag kind : Byte) (s : State) {r : Result} (hr : r.isRefusal = true) :
    respond p tag kind (refuse s r) = Event.close
      ⟨s.modPort p fun x => { x with tx := .formed ⟨tag, kind, r, .empty⟩ }, [.requestRefused p]⟩ := by
  rw [respond, refuse]
  dsimp only
  rw [if_pos hr]
  rfl

/-- A request's body is taken as the request at this event. -/
theorem takeFrame_spelled {tag : Byte} {k : RequestKind} {body : List Byte} {i : Instr}
    (hi : decodeBody p tag k body = some i) (s : State) :
    exec i s = .next (arrive p tag k.code (takeFrame p tag k.code body) s) := by
  obtain ⟨rule, hrule, hexec⟩ := (decodeBody_spells hi).serves
  have htake : takeFrame p tag k.code body = screened p k rule := by
    funext s
    simp only [takeFrame, RequestKind.ofCode_code, hi, Option.bind_some, hrule]
  rw [hexec, htake, serve]

/-- Settles O52: the check, the port's transmitter and the catalogue decide what a frame does. -/
theorem completedFramesAreTakenAsTheirRequests : Obligations.CompletedFramesAreTakenAsTheirRequests := by
  unfold Obligations.CompletedFramesAreTakenAsTheirRequests
  intro p tag kind body check s hon run u good echo
  have hu : u = s.setRx p .hunt := rfl
  have hport : u.port p = { s.port p with rx := .hunt } := by
    rw [hu, State.setRx, State.modPort_port, if_pos rfl]
  have hrun : run = .next (completeFrame p tag kind body check u) := if_neg hon
  have hgood : check = good → run = .next (arrive p tag kind (takeFrame p tag kind body) u) := fun h => by
    rw [hrun, completeFrame, if_pos (h.trans (requestCheck_eq tag kind body).symm)]
  have hon' : ¬ (u.port p).role = .off := by rw [hport]; exact hon
  have htaken : check = good → (s.port p).tx = .idle →
      run = .next (respond p tag kind (takeFrame p tag kind body u)) := fun h hidle => by
    have hsending : ¬ (u.port p).tx.sending = true := by simp [hport, hidle, Transmit.sending]
    rw [hgood h, arrive, if_neg hon', if_neg hsending]
  refine ⟨fun hbad => ?_, fun h hbusy => ?_, fun h hidle => ⟨fun hk => ?_, fun k hk => ⟨fun hlength => ?_,
    fun i hi => ?_⟩⟩⟩
  · rw [hrun, completeFrame, if_neg (fun h => hbad (h.trans (requestCheck_eq tag kind body))), hu,
      rejectFrame_setRx]
  · have hsending : (u.port p).tx.sending = true := by
      rw [hport]
      exact (Transmit.sending_iff _).mpr hbusy
    rw [hgood h, arrive, if_neg hon', if_pos hsending, overrunAt]
    simp only [gainTally_eq]
  · have htake : takeFrame p tag kind body u = refuse u .unknownKind := by
      rw [takeFrame, RequestKind.ofCode_none hk]
    exact (htaken h hidle).trans (congrArg _ (by rw [htake, respond_echo p tag kind u rfl]))
  · have htake : takeFrame p tag kind body u = refuse u .badLength := by
      subst hk
      simp only [takeFrame, RequestKind.ofCode_code, hlength, Option.bind_none]
    exact (htaken h hidle).trans (congrArg _ (by rw [htake, respond_echo p tag kind u rfl]))
  · subst hk
    rw [hgood h, takeFrame_spelled hi]

end Sys2Proof.Machine
end

section
/-! The check sequence and the layout of the replies (O53). -/

namespace Sys2Proof

/-! ### The check sequence, bit by bit -/

/-- The register joined with pending bits, shifted once: the top pending bit goes through the check register. -/
theorem crcShift_xor (r d : BitVec 16) : crcShift (r ^^^ d) = checkBit r d.msb ^^^ (d <<< 1) := by
  have hmsb : (r ^^^ d).msb = (r.getLsbD 15 ^^ d.msb) := by simp [BitVec.msb_eq_getLsbD_last]
  rw [crcShift, checkBit, hmsb, BitVec.shiftLeft_xor_distrib]
  split
  · rw [BitVec.xor_assoc, BitVec.xor_assoc, BitVec.xor_comm (d <<< 1)]
  · rfl

/-- The eight bits of a byte go through the check register, most significant first (R175). -/
theorem crcByte_eq (r : BitVec 16) (b : Byte) : crcByte r b =
    [b.getLsbD 7, b.getLsbD 6, b.getLsbD 5, b.getLsbD 4, b.getLsbD 3, b.getLsbD 2, b.getLsbD 1,
      b.getLsbD 0].foldl checkBit r := by
  have hout : b.zeroExtend 16 <<< 16 = 0#16 := BitVec.shiftLeft_eq_zero (by omega)
  simp only [crcByte, crcShift_xor, List.foldl_cons, List.foldl_nil, ← BitVec.shiftLeft_add]
  simp [hout, BitVec.msb_eq_getLsbD_last, -BitVec.truncate_eq_setWidth]

theorem checkSequence_concat (l : List Byte) (b : Byte) :
    checkSequence (l ++ [b]) = crcByte (checkSequence l) b := by
  simp [checkSequence]

theorem putCheck_spells (c : BitVec 16) : ∃ hi lo, putCheck c = [hi, lo] ∧ hi ++ lo = c := by
  refine ⟨_, _, rfl, ?_⟩
  apply BitVec.eq_of_toNat_eq
  rw [BitVec.toNat_append, ← Nat.shiftLeft_add_eq_or_of_lt (put1 c.toNat).isLt, Nat.shiftLeft_eq, put1_toNat,
    put1_toNat]
  have hc := c.isLt
  omega

/-! ### Fields of a body -/

/-- A number read inside one of the runs of bytes a body is made of. -/
theorem fieldAt_flatten {cs : List (List Byte)} {k : Nat} {c : List Byte} (hk : cs[k]? = some c) {off n : Nat}
    (hn : off + n ≤ c.length) :
    fieldAt cs.flatten ((cs.take k).flatten.length + off) n = fieldAt c off n := by
  obtain ⟨hlt, hc⟩ := List.getElem?_eq_some_iff.mp hk
  have hcs : cs.flatten = (cs.take k).flatten ++ (c ++ (cs.drop (k + 1)).flatten) := by
    conv_lhs => rw [← List.take_append_drop k cs, List.drop_eq_getElem_cons hlt, hc]
    simp
  rw [fieldAt, fieldAt, hcs, List.drop_append, List.drop_of_length_le (by omega), List.nil_append,
    Nat.add_sub_cancel_left, List.drop_append_of_le_length (by omega), List.take_append_of_le_length (by simp; omega)]

theorem fieldAt_put1 (n : Nat) (rest : List Byte) : fieldAt (put1 n :: rest) 0 1 = n % 256 := by
  simp [fieldAt, put1_toNat]

theorem fieldAt_put2 (n : Nat) (rest : List Byte) : fieldAt (put2 n ++ rest) 0 2 = n % 65536 := by
  simp [fieldAt, put2, put1_toNat]
  omega

theorem fieldAt_put4 (n : Nat) : fieldAt (put4 n) 0 4 = n % 4294967296 := by
  simp [fieldAt, put4, put1_toNat]
  omega

section
variable {cs : List (List Byte)} {k off : Nat}

theorem fieldAt_whole {c : List Byte} (hk : cs[k]? = some c) (hoff : (cs.take k).flatten.length = off) {n : Nat}
    (hn : n ≤ c.length) : fieldAt cs.flatten off n = fieldAt c 0 n := by
  rw [← hoff]
  exact fieldAt_flatten (off := 0) hk (by omega)

theorem holdsNumber_put1 {x : Option Nat} (hk : cs[k]? = some [put1 (x.getD 0)])
    (hoff : (cs.take k).flatten.length = off) : holdsNumber cs.flatten off 1 x := by
  rw [holdsNumber, fieldAt_whole hk hoff (by simp), fieldAt_put1, Nat.pow_one]

theorem holdsNumber_put2 {x : Option Nat} (hk : cs[k]? = some (put2 (x.getD 0)))
    (hoff : (cs.take k).flatten.length = off) : holdsNumber cs.flatten off 2 x := by
  rw [holdsNumber, fieldAt_whole hk hoff (by simp [put2]), ← List.append_nil (put2 _), fieldAt_put2]
  rfl

theorem holdsNumber_put4 {x : Option Nat} (hk : cs[k]? = some (put4 (x.getD 0)))
    (hoff : (cs.take k).flatten.length = off) : holdsNumber cs.flatten off 4 x := by
  rw [holdsNumber, fieldAt_whole hk hoff (by simp [put4]), fieldAt_put4]
  rfl

theorem holdsSigned_putS2 {x : Option Int} (hk : cs[k]? = some (putS2 (x.getD 0)))
    (hoff : (cs.take k).flatten.length = off) : holdsSigned cs.flatten off 2 x := by
  rw [holdsSigned, fieldAt_whole hk hoff (by simp [putS2, put2]), putS2, ← List.append_nil (put2 _), fieldAt_put2,
    BitVec.toNat_ofInt]
  omega

theorem holdsSigned_putS4 {x : Option Int} (hk : cs[k]? = some (putS4 (x.getD 0)))
    (hoff : (cs.take k).flatten.length = off) : holdsSigned cs.flatten off 4 x := by
  rw [holdsSigned, fieldAt_whole hk hoff (by simp [putS4, put4]), putS4, fieldAt_put4, BitVec.toNat_ofInt]
  omega

end

namespace Machine

theorem flagByte_lt (l : List Bool) : flagByte l < 2 ^ l.length := by
  induction l with
  | nil => simp [flagByte]
  | cons c rest ih =>
    rw [flagByte, List.length_cons, Nat.pow_succ]
    split <;> omega

theorem flagByte_testBit (l : List Bool) (n : Nat) : (flagByte l).testBit n = l.getD n false := by
  induction l generalizing n with
  | nil => simp [flagByte]
  | cons c rest ih =>
    cases n with
    | zero => cases c <;> simp [flagByte]
    | succ n =>
      rw [Nat.testBit_succ, List.getD_cons_succ, ← ih n, flagByte]
      congr 1
      split <;> omega

section
variable {cs : List (List Byte)} {k off : Nat} {l : List Bool}

theorem fieldAt_flags (hk : cs[k]? = some [put1 (flagByte l)]) (hoff : (cs.take k).flatten.length = off)
    (hl : l.length ≤ 8) : fieldAt cs.flatten off 1 = flagByte l := by
  have hlt : flagByte l < 256 := (flagByte_lt l).trans_le (Nat.pow_le_pow_right (by decide) hl)
  rw [fieldAt_whole hk hoff (by simp), fieldAt_put1, Nat.mod_eq_of_lt hlt]

end

theorem Result.code_mem (r : Result) : (r, r.code) ∈ resultCodes := by
  cases r <;> simp [resultCodes, Result.code]

theorem CycleState.code_eq (x : CycleState) : x.code =
    ([.empty, .set, .casting, .curing, .releasable, .detensioning, .stripping] : List CycleState).idxOf x := by
  cases x <;> rfl

theorem Phase.code_eq (x : Phase) : x.code = ([.off, .preset, .ramp, .hold, .cool] : List Phase).idxOf x := by
  cases x <;> rfl

theorem AggStatus.code_eq (x : AggStatus) : x.code = ([.live, .held, .blind] : List AggStatus).idxOf x := by
  cases x <;> rfl

theorem PieceState.code_eq (x : PieceState) : x.code = pieceStates.idxOf x := by
  cases x <;> rfl

theorem MoveState.code_eq (x : MoveState) : x.code = ([.queued, .granted, .lifted] : List MoveState).idxOf x := by
  cases x <;> rfl

theorem MoveKind.code_eq (x : MoveKind) : x.code = ([.strip, .restack, .load, .ret] : List MoveKind).idxOf x := by
  cases x <;> rfl

theorem responseFrame_layout (tag kind : Byte) (r : Result) (body : List Byte) : ∃ code hi lo,
    let checked := BitVec.ofNat 8 (body.length + 3) :: tag :: kind :: code :: body
    (r, code) ∈ resultCodes ∧ hi ++ lo = checkSequence checked ∧
    responseFrame tag kind r body = 0xC3 :: (checked ++ [hi, lo]) := by
  obtain ⟨hi, lo, hput, hcheck⟩ :=
    putCheck_spells (checkSequence (put1 (body.length + 3) :: tag :: kind :: r.code :: body))
  refine ⟨r.code, hi, lo, r.code_mem, hcheck, ?_⟩
  rw [responseFrame, hput]
  rfl

/-! ### The replies of READ_BED and READ_PIECE -/

/-- The bytes of a listed piece: its id and the code of its state. -/
def pieceBytes (y : Nat × PieceState) : List Byte := put2 y.1 ++ [put1 (pieceStates.idxOf y.2)]

theorem pieceBytes_eq : pieceBytes = fun y => put2 y.1 ++ [put1 y.2.code] :=
  funext fun y => by rw [pieceBytes, PieceState.code_eq]

theorem pieceBytes_length (y : Nat × PieceState) : (pieceBytes y).length = 3 := rfl

/-- The fields of a READ_BED reply before its pieces, as section 10.6 tables them. -/
def BedReply.head (r : BedReply) : List (List Byte) :=
  [[put1 r.bed], [put1 (if r.snapshot then 1 else 0)],
    [put1 (([.empty, .set, .casting, .curing, .releasable, .detensioning, .stripping] :
      List CycleState).idxOf r.cycle)],
    [put1 (([.off, .preset, .ramp, .hold, .cool] : List Phase).idxOf r.phase)],
    [put1 (([.live, .held, .blind] : List AggStatus).idxOf r.status)], [put1 r.held],
    [put1 (flagByte [r.tmin.isSome, r.setpoint.isSome, r.lastStamp.isSome, r.target.isSome, r.releaseStamp.isSome])],
    [put1 (flagByte [r.frost, r.overheat, r.curtailed, r.gap])],
    putS2 (r.tmin.getD 0), putS2 (r.tmax.getD 0), putS2 (r.setpoint.getD 0),
    put2 r.base, put2 r.requested, put2 r.granted, [put1 r.level], [put1 r.gapCount],
    put4 r.count, put4 (r.count / 600), putStamp r.lastStamp, put2 (r.target.getD 0), put2 (r.minAge.getD 0),
    putStamp r.pourEndStamp, putStamp r.releaseStamp, putS4 (r.age.getD 0), put4 r.scanNumber.toNat,
    [put1 r.pieces.length]]

def BedReply.fields (r : BedReply) : List (List Byte) := r.head ++ r.pieces.map pieceBytes

theorem BedReply.bytes_eq (r : BedReply) : r.bytes = r.fields.flatten := by
  delta BedReply.bytes
  simp only [List.append_assoc]
  simp only [BedReply.fields, BedReply.head, List.cons_append, List.nil_append, List.flatten_cons,
    CycleState.code_eq, Phase.code_eq, AggStatus.code_eq, pieceBytes_eq]

theorem pieceBytes_flatten_length (l : List (Nat × PieceState)) : (l.map pieceBytes).flatten.length = 3 * l.length := by
  simp [List.length_flatten, Function.comp_def, pieceBytes_length, Nat.mul_comm]

theorem BedReply.head_length (r : BedReply) : r.head.flatten.length = 55 := rfl

/-- The run of a listed piece within a READ_BED reply. -/
theorem BedReply.piece_run (r : BedReply) {n : Nat} {y : Nat × PieceState} (h : r.pieces[n]? = some y) :
    r.fields[26 + n]? = some (pieceBytes y) ∧ (r.fields.take (26 + n)).flatten.length = 55 + 3 * n := by
  have hlen : r.head.length = 26 := rfl
  obtain ⟨hlt, -⟩ := List.getElem?_eq_some_iff.mp h
  rw [BedReply.fields]
  constructor
  · rw [List.getElem?_append_right (by omega), hlen, Nat.add_sub_cancel_left, List.getElem?_map, h, Option.map_some]
  · rw [List.take_append, hlen, Nat.add_sub_cancel_left, List.take_of_length_le (by omega), ← List.map_take,
      List.flatten_append, List.length_append, r.head_length, pieceBytes_flatten_length, List.length_take]
    omega

theorem BedReply.bytes_laidOut (r : BedReply) : r.laidOut r.bytes := by
  rw [r.bytes_eq]
  have hflags : fieldAt r.fields.flatten 6 1 = _ := fieldAt_flags (k := 6) rfl rfl (by simp)
  have hstate : fieldAt r.fields.flatten 7 1 = _ := fieldAt_flags (k := 7) rfl rfl (by simp)
  refine ⟨?_, holdsNumber_put1 (k := 0) rfl rfl, holdsNumber_put1 (k := 1) rfl rfl, holdsNumber_put1 (k := 2) rfl rfl,
    holdsNumber_put1 (k := 3) rfl rfl, holdsNumber_put1 (k := 4) rfl rfl, holdsNumber_put1 (k := 5) rfl rfl,
    ?_, ?_, ?_, ?_, ?_, ?_, ?_, ?_, ?_, ?_, ?_,
    holdsSigned_putS2 (k := 8) rfl rfl, holdsSigned_putS2 (k := 9) rfl rfl, holdsSigned_putS2 (k := 10) rfl rfl,
    holdsNumber_put2 (k := 11) rfl rfl, holdsNumber_put2 (k := 12) rfl rfl, holdsNumber_put2 (k := 13) rfl rfl,
    holdsNumber_put1 (k := 14) rfl rfl, holdsNumber_put1 (k := 15) rfl rfl, holdsNumber_put4 (k := 16) rfl rfl,
    holdsNumber_put4 (k := 17) rfl rfl, holdsNumber_put4 (k := 18) rfl rfl, holdsNumber_put2 (k := 19) rfl rfl,
    holdsNumber_put2 (k := 20) rfl rfl, holdsNumber_put4 (k := 21) rfl rfl, holdsNumber_put4 (k := 22) rfl rfl,
    holdsSigned_putS4 (k := 23) rfl rfl, holdsNumber_put4 (k := 24) rfl rfl, holdsNumber_put1 (k := 25) rfl rfl,
    fun n id st hn => ?_⟩
  case refine_1 =>
    rw [BedReply.fields, List.flatten_append, List.length_append, r.head_length, pieceBytes_flatten_length]
  case refine_7 => rw [hflags]; exact flagByte_lt _
  case refine_12 => rw [hstate]; exact flagByte_lt _
  case refine_13 =>
    obtain ⟨hrun, hoff⟩ := r.piece_run hn
    constructor
    · rw [holdsNumber, fieldAt_whole hrun hoff (by simp [pieceBytes_length]), pieceBytes, fieldAt_put2]
      rfl
    · have hlast := fieldAt_flatten (off := 2) (n := 1) hrun (by rw [pieceBytes_length])
      rw [hoff] at hlast
      rw [holdsNumber, show 57 + 3 * n = 55 + 3 * n + 2 by omega, hlast]
      exact fieldAt_put1 _ []
  case refine_2 | refine_3 | refine_4 | refine_5 | refine_6 => rw [holdsBit, hflags, flagByte_testBit]; rfl
  all_goals rw [holdsBit, hstate, flagByte_testBit]; rfl

/-- The fields of a READ_PIECE reply, as section 10.6 tables them. -/
def PieceReply.fields (r : PieceReply) : List (List Byte) :=
  [put2 r.id, [put1 r.cls], [put1 (pieceStates.idxOf r.state)], put2 r.mass, [put1 r.place.codes.1],
    [put1 r.place.codes.2.1], [put1 r.place.codes.2.2],
    [put1 (flagByte [r.hold.isSome, r.shipReady, r.gap, r.move.isSome, r.lastStamp.isSome])],
    [put1 (r.hold.getD 0)], put4 r.castStamp.toNat, putS4 r.age, put2 r.shipTarget, put2 r.shipAge, put4 r.count,
    put4 (r.count / 600), putStamp r.lastStamp, [put1 ((r.move.map fun m => m.slot.val).getD 0)],
    [put1 ((r.move.map fun m => ([.queued, .granted, .lifted] : List MoveState).idxOf m.state).getD 0)],
    [put1 ((r.move.map fun m => ([.strip, .restack, .load, .ret] : List MoveKind).idxOf m.kind).getD 0)],
    [put1 ((r.move.map fun m => m.dest.val).getD 0)], [put1 ((r.move.map PendingReport.craneCode).getD 0)]]

theorem PieceReply.bytes_eq (r : PieceReply) : r.bytes = r.fields.flatten := by
  rw [PieceReply.bytes, PieceState.code_eq]
  simp only [PieceReply.fields, List.flatten_cons, List.flatten_nil, List.append_assoc, List.cons_append,
    List.nil_append]
  cases r.move with
  | none => rfl
  | some m =>
    dsimp only
    rw [MoveState.code_eq, MoveKind.code_eq]
    rfl

/-- The location's three bytes: its kind, its number and its position. -/
theorem PieceReply.place_laidOut (r : PieceReply) :
    holdsNumber r.fields.flatten 6 1 (some r.place.codes.1) ∧ holdsNumber r.fields.flatten 7 1 (some r.place.codes.2.1) ∧
      holdsNumber r.fields.flatten 8 1 (some r.place.codes.2.2) :=
  ⟨holdsNumber_put1 (k := 4) rfl rfl, holdsNumber_put1 (k := 5) rfl rfl, holdsNumber_put1 (k := 6) rfl rfl⟩

theorem PieceReply.bytes_laidOut (r : PieceReply) : r.laidOut r.bytes := by
  rw [r.bytes_eq]
  have hflags : fieldAt r.fields.flatten 9 1 = _ := fieldAt_flags (k := 7) rfl rfl (by simp)
  have hcrane : holdsNumber r.fields.flatten 39 1 (r.move.map PendingReport.craneCode) :=
    holdsNumber_put1 (k := 20) rfl rfl
  refine ⟨rfl, holdsNumber_put2 (k := 0) rfl rfl, holdsNumber_put1 (k := 1) rfl rfl, holdsNumber_put1 (k := 2) rfl rfl,
    holdsNumber_put2 (k := 3) rfl rfl, ?_, ?_, ?_, ?_, ?_, ?_, ?_, holdsNumber_put1 (k := 8) rfl rfl,
    holdsNumber_put4 (k := 9) rfl rfl, holdsSigned_putS4 (k := 10) rfl rfl, holdsNumber_put2 (k := 11) rfl rfl,
    holdsNumber_put2 (k := 12) rfl rfl, holdsNumber_put4 (k := 13) rfl rfl, holdsNumber_put4 (k := 14) rfl rfl,
    holdsNumber_put4 (k := 15) rfl rfl, holdsNumber_put1 (k := 16) rfl rfl, holdsNumber_put1 (k := 17) rfl rfl,
    holdsNumber_put1 (k := 18) rfl rfl, holdsNumber_put1 (k := 19) rfl rfl, ?_⟩
  case refine_1 =>
    have hplace := r.place_laidOut
    cases hr : r.place <;> rw [hr] at hplace <;> exact hplace
  case refine_7 => rw [hflags]; exact flagByte_lt _
  case refine_8 =>
    refine (congrArg (holdsNumber r.fields.flatten 39 1) (Option.map_congr fun m _ => ?_)).mpr hcrane
    rw [PendingReport.craneCode]
    cases m.crane <;> rfl
  all_goals rw [holdsBit, hflags, flagByte_testBit]; rfl

/-- Settles O53: the bodies both ways, the check bit by bit, and the layouts. -/
theorem requestBodiesDecodeToWhatWasEncoded : Obligations.RequestBodiesDecodeToWhatWasEncoded := by
  unfold Obligations.RequestBodiesDecodeToWhatWasEncoded
  refine ⟨fun i k => decodeBody_encodeBody, fun p tag k body i hlen hi => ?_, responseFrame_layout, rfl,
    fun l b => (checkSequence_concat l b).trans (crcByte_eq _ b), fun tag kind result => ⟨rfl, fun r => ?_, fun r => ?_⟩⟩
  · have hspells := decodeBody_spells hi
    exact ⟨hspells.body_eq, decodeBody_kind hi, hspells.wellFormed hlen⟩
  · exact ⟨r.bytes, rfl, r.bytes_laidOut⟩
  · exact ⟨r.bytes, rfl, r.bytes_laidOut⟩

end Machine
end Sys2Proof
end

section
/-! Counting the table, the checks of eligibility and the mode switch in the statements' words. -/

namespace Sys2Proof.Machine

variable {s t u : State} {n : Nat} {k : CraneId} {e : Enrolment} {bay : Nat} {i : SlotId} {m : Move}

/-! ### Counting -/

theorem finRange_filter_length {n : Nat} (f : Fin n → Bool) :
    ((List.finRange n).filter f).length = (Finset.univ.filter fun i => f i = true).card := by
  rw [← List.toFinset_card_of_nodup ((List.nodup_finRange n).filter _)]
  congr 1
  ext i
  simp

/-- The moves of the table of a kind, counted in the list and by their slots. -/
theorem State.moveList_count (s : State) (f : Move → Bool) :
    (s.moveList.filter fun x => f x.2).length =
      (Finset.univ.filter fun i : SlotId => (s.move i).any f = true).card := by
  rw [← finRange_filter_length, ← List.countP_eq_length_filter, ← List.countP_eq_length_filter, State.moveList,
    List.countP_filterMap]
  refine List.countP_congr fun i _ => ?_
  cases s.move i <;> simp

theorem State.moveList_length (s : State) :
    s.moveList.length = (Finset.univ.filter fun i : SlotId => (s.move i).isSome = true).card := by
  have hall := s.moveList_count fun _ => true
  rw [List.filter_true] at hall
  rw [hall]
  congr 1

theorem Move.isQueued_eq (m : Move) : m.isQueued = decide (m.progress = .queued) := by
  rw [Bool.eq_iff_iff, Move.isQueued_iff, decide_eq_true_eq]

theorem State.queued_count (s : State) (f : Move → Bool) :
    (s.queued.filter fun x => f x.2).length = (Finset.univ.filter fun i : SlotId =>
      (s.move i).any (fun m => decide (m.progress = .queued) && f m) = true).card := by
  simp only [State.queued, List.filter_filter, ← Move.isQueued_eq, Bool.and_comm (f _)]
  exact s.moveList_count fun m => m.isQueued && f m

theorem State.queued_length (s : State) : s.queued.length =
    (Finset.univ.filter fun i : SlotId => ((s.move i).any fun m => m.progress = .queued) = true).card := by
  have hcount := s.queued_count fun _ => true
  simpa only [List.filter_true, Bool.and_true] using hcount

/-- The moves that count for a class (R166). -/
theorem ServiceMode.counts_iff (mode : ServiceMode) (c : MoveKind) : mode.counts c = true ↔
    if mode = .strip then c = .strip else c = .load ∨ c = .ret := by
  cases mode <;> cases c <;> decide

theorem State.waiting_eq (s : State) (mode : ServiceMode) : s.waiting mode = s.line mode := by
  have hcounts : (fun m : Move => decide (m.progress = .queued) && mode.counts m.kind) = fun m => decide
      (m.progress = .queued ∧ if mode = .strip then m.kind = .strip else m.kind = .load ∨ m.kind = .ret) :=
    funext fun m => by rw [Bool.eq_iff_iff]; simp [ServiceMode.counts_iff]
  rw [State.waiting, s.queued_count fun m => mode.counts m.kind, hcounts, State.line]

theorem ServiceMode.serves_iff (mode : ServiceMode) (c : MoveKind) :
    mode.serves c = true ↔ servedIn mode c := by
  unfold servedIn
  cases mode <;> cases c <;> decide

/-! ### The mode switch -/

theorem State.switches_iff (s : State) : s.switches = true ↔ s.arbiter.lock = false ∧
    (s.line s.arbiter.mode ≤ s.settings.low s.arbiter.mode ∨
      s.settings.starveLimit ≤ s.arbiter.starve s.arbiter.mode.other) ∧ 0 < s.line s.arbiter.mode.other := by
  simp [State.switches, State.waiting_eq, and_assoc]

theorem State.turned_eq (s : State) :
    s.turned = if s.switches then s.arbiter.turn s.arbiter.mode.other else s.arbiter := by
  unfold State.turned
  simp only [s.switches_iff]
  cases hlock : s.arbiter.lock
  case true => rfl
  case false =>
    cases s.arbiter.mode <;> simp only [true_and, Bool.false_eq_true, if_false, ServiceMode.other, Settings.low,
      Arbiter.starve, Arbiter.turn, Arbiter.setStarve, hlock]

/-- The mode switch of a NEXT_MOVE: the arbiter turned, and the switch seen (R167). -/
theorem evaluateSwitch_eq (s : State) : evaluateSwitch s.event =
    ⟨{ s with arbiter := s.turned }, if s.turned.mode = s.arbiter.mode then [] else [.modeSwitch]⟩ := by
  have hother : (s.arbiter.turn s.arbiter.mode.other).mode ≠ s.arbiter.mode := by
    change s.arbiter.mode.other ≠ s.arbiter.mode
    cases s.arbiter.mode <;> decide
  rw [evaluateSwitch, s.turned_eq]
  by_cases h : s.switches = true
  · rw [if_pos h, if_pos (show s.event.st.switches = true from h), if_neg hother]
    rfl
  · rw [if_neg h, if_neg (show ¬ s.event.st.switches = true from h), if_pos rfl]
    rfl

/-! ### Eligibility -/

theorem State.sourceSpan_iff (src : Source) (a b : Nat) : s.sourceSpan src = some (a, b) ↔ s.sourceBays src a b := by
  cases src <;> simp [State.sourceSpan, State.sourceBays, eq_comm]

/-- The span of a move whose source and destination stand (R162). -/
theorem State.spanOf_eq {a b : Nat} {y : Stack} (hsource : s.sourceBays m.source a b) (hdest : s.stack m.dest = some y) :
    s.spanOf bay m = (min (min bay y.defn.bay) (min a b), max (max bay y.defn.bay) (max a b)) := by
  rw [State.spanOf, (State.sourceSpan_iff _ a b).mpr hsource, hdest]
  simp only [Option.getD_some, Option.map_some, Prod.mk.injEq]
  omega

theorem State.runsOver_iff {a b : Nat} {y : Stack} (hsource : s.sourceBays m.source a b)
    (hdest : s.stack m.dest = some y) {lo hi : Nat} :
    s.runsOver bay m lo hi ↔ s.spanOf bay m = (lo, hi) := by
  rw [State.spanOf_eq hsource hdest]
  constructor
  · rintro ⟨a', b', y', hsource', hdest', rfl, rfl⟩
    obtain rfl := Option.some.inj (hdest.symm.trans hdest')
    have hspan := ((State.sourceSpan_iff m.source a b).mpr hsource).symm.trans
      ((State.sourceSpan_iff m.source a' b').mpr hsource')
    obtain ⟨rfl, rfl⟩ := Prod.mk.inj (Option.some.inj hspan)
    rfl
  · intro h
    obtain ⟨rfl, rfl⟩ := Prod.mk.inj h
    exact ⟨a, b, y, hsource, hdest, rfl, rfl⟩

theorem State.accessible_bed {b : BedId} (h : m.source = .bed b) :
    s.accessible m = true ↔ ∃ x, s.bed b = some x ∧ x.cycle.state = .stripping := by
  simp [State.accessible, h, Option.any_eq_true]

theorem State.accessible_stack {i : StackId} (h : m.source = .stack i) :
    s.accessible m = true ↔ (∃ x, s.stack i = some x ∧ x.contents.getLast? = some m.piece) ∧
      (m.kind = .load → ∃ y, s.piece m.piece = some y ∧ y.shipReady = true ∧ y.hold = none) := by
  simp [State.accessible, h, Option.any_eq_true, Stack.topIs, imp_iff_not_or]

theorem between_iff (low high n : Nat) : between low high n = true ↔ low ≤ n ∧ n ≤ high := by
  simp [between]

/-- The destination stands, open and with room, and the crane reaches it. -/
theorem State.destFits_iff : (s.destReady m = true ∧ ((s.stack m.dest).any fun x => between e.low e.high x.defn.bay) = true) ↔
    ∃ y, s.stack m.dest = some y ∧ y.defn.isOpen = true ∧
      y.contents.length + y.incoming < y.defn.tierLimit ∧ e.low ≤ y.defn.bay ∧ y.defn.bay ≤ e.high := by
  cases hdest : s.stack m.dest <;> simp [State.destReady, hdest, Stack.hasRoom, between_iff, and_assoc]

theorem State.sourceFits_iff : ((s.sourceSpan m.source).any fun w =>
      between e.low e.high w.1 && between e.low e.high w.2) = true ↔
    ∃ a b, s.sourceBays m.source a b ∧ e.low ≤ a ∧ a ≤ e.high ∧ e.low ≤ b ∧ b ≤ e.high := by
  simp [Option.any_eq_true, between_iff, and_assoc, State.sourceSpan_iff]

theorem State.workable_iff : s.workable e m = true ↔ s.suits e m := by
  have hsplit : s.workable e m = true ↔ s.accessible m = true ∧
      (s.destReady m = true ∧ ((s.stack m.dest).any fun x => between e.low e.high x.defn.bay) = true) ∧
      ((s.sourceSpan m.source).any fun w => between e.low e.high w.1 && between e.low e.high w.2) = true ∧
      ((s.piece m.piece).any fun y => y.mass ≤ e.capacity) = true := by
    simp only [State.workable, State.reaches, Bool.and_eq_true]
    tauto
  rw [hsplit, State.destFits_iff, State.sourceFits_iff, Option.any_eq_true, State.suits]
  simp only [decide_eq_true_eq]
  refine and_congr_left fun _ => ?_
  cases hsource : m.source
  case bed b => exact State.accessible_bed hsource
  case stack i => exact State.accessible_stack hsource

/-- The interlock for a move whose source and destination stand (R162). -/
theorem State.spanClear_iff_clearOf (h : s.suits e m) : s.spanClear k bay m = true ↔ s.clearOf k bay m := by
  obtain ⟨-, ⟨y, hdest, -⟩, ⟨a, b, hsource, -⟩, -⟩ := h
  rw [State.spanClear_iff]
  constructor
  · intro hclear lo hi j n g hruns hn hg hk
    have hspan := (State.runsOver_iff hsource hdest).mp hruns
    have hapart := hclear j n g hn hg hk
    rw [hspan] at hapart
    rw [← widenedMeet_iff]
    exact Bool.eq_false_iff.mp hapart
  · intro hclear j n g hn hg hk
    rw [Bool.eq_false_iff, ne_eq, widenedMeet_iff]
    exact hclear _ _ j n g ((State.runsOver_iff hsource hdest).mpr rfl) hn hg hk

theorem State.powerFits_iff : s.powerFits e.rating = true ↔ s.affords e := by
  rw [State.powerFits, decide_eq_true_eq, State.heatBudget_eq, s.guardSum_eq_sum, State.affords]

/-- A move eligible for the crane at the bay, with its slot (R160 to R162). -/
theorem State.mem_eligibleMoves : (i, m) ∈ s.eligibleMoves k e bay ↔ s.offers k e bay i m := by
  simp only [State.eligibleMoves, List.mem_filter, State.mem_queued, Move.isQueued_iff, State.eligible,
    Bool.and_eq_true, State.workable_iff, State.powerFits_iff, State.offers, and_assoc]
  refine and_congr_right fun _ => and_congr_right fun _ => and_congr_right fun hsuits => ?_
  rw [State.spanClear_iff_clearOf hsuits]

end Sys2Proof.Machine
end

section
/-! NEXT_MOVE answered without a grant (O46). -/

namespace Sys2Proof.Machine

variable {s t u : State} {n : Nat} {p : PortId} {k : CraneId} {e : Enrolment} {bay : Nat} {i : SlotId} {m : Move}

/-- A crane's own port in RUNNING takes every crane request. -/
theorem State.drives.takes (h : s.drives p k e) {c : RequestKind} (hroles : requestRoles c = .crane) :
    s.takes p c := by
  obtain ⟨hrunning, ⟨hrole, hidle⟩, -, -⟩ := h
  refine ⟨hidle, ?_⟩
  rw [hrunning, barred_running, hroles, hrole]
  rfl

/-- The rule of a crane's own request, past the shared checks. -/
theorem State.drives.withCrane (h : s.drives p k e) (rule : CraneId → Enrolment → State → Taken) :
    withCrane p k rule s = rule k e s := by
  obtain ⟨-, -, henrolled, hbound⟩ := h
  exact withCrane_own henrolled hbound rule

/-- A request answered at the end of an event, with a result that is no refusal. -/
theorem respond_event (p : PortId) (tag : Byte) (c : RequestKind) (ev : Event) (a : Answer) {r : Result}
    (hr : r.isRefusal = false := by rfl) :
    respond p tag c.code ⟨ev, r, a⟩ = Event.close ⟨ev.st.answered p tag c r a, ev.seen⟩ := by
  rw [respond, hr, if_neg (by decide)]
  rfl

theorem State.modCrane_reservations {f : Crane → Crane} (h : ∀ c, (f c).reservation = c.reservation) :
    (s.modCrane k f).reservations = s.reservations := by
  refine Finset.sum_congr rfl fun j _ => ?_
  rw [State.modCrane_crane]
  by_cases hj : k = j
  · subst hj
    rw [if_pos rfl, h]
  · rw [if_neg hj]

/-! ### The reason of NONE -/

/-- A QUEUED move passes the first three checks and a further one (R160, R165). -/
def State.ready (s : State) (e : Enrolment) (why : Move → Prop) : Prop :=
  ∃ i m, s.move i = some m ∧ m.progress = .queued ∧ s.suits e m ∧ why m

theorem State.ready_any {why : Move → Prop} {f : Move → Bool} (hf : ∀ m, s.suits e m → (f m = true ↔ why m)) :
    ((s.queued.filter fun x => s.workable e x.2).any fun x => f x.2) = true ↔ s.ready e why := by
  simp only [List.any_eq_true, List.mem_filter, State.mem_queued, Move.isQueued_iff, State.workable_iff, Prod.exists,
    State.ready]
  constructor
  · rintro ⟨i, m, ⟨⟨hm, hq⟩, hsuits⟩, hwhy⟩
    exact ⟨i, m, hm, hq, hsuits, (hf m hsuits).mp hwhy⟩
  · rintro ⟨i, m, hm, hq, hsuits, hwhy⟩
    exact ⟨i, m, ⟨⟨hm, hq⟩, hsuits⟩, (hf m hsuits).mpr hwhy⟩

theorem State.ready.queued_ne_nil {why : Move → Prop} (h : s.ready e why) : s.queued.isEmpty = false := by
  obtain ⟨i, m, hm, hq, -, -⟩ := h
  rw [Bool.eq_false_iff, ne_eq, List.isEmpty_iff]
  exact List.ne_nil_of_mem (a := (i, m)) (State.mem_queued.mpr ⟨hm, (Move.isQueued_iff m).mpr hq⟩)

/-- The reason of NONE in the order of R165. -/
theorem State.noneReason_iff (s : State) (k : CraneId) (e : Enrolment) (bay : Nat) :
    (s.noneReason k e bay = .queueEmpty ↔ s.queued.length = 0) ∧
    (s.noneReason k e bay = .powerWait ↔ ¬ s.affords e ∧ s.ready e (s.clearOf k bay)) ∧
    (s.noneReason k e bay = .spanWait ↔ s.affords e ∧ s.ready e fun m => ¬ s.clearOf k bay m) := by
  have hclear := s.ready_any (e := e) (f := s.spanClear k bay) fun m hm => State.spanClear_iff_clearOf hm
  have hmeets := s.ready_any (e := e) (f := fun m => !s.spanClear k bay m) (why := fun m => ¬ s.clearOf k bay m)
    fun m hm => by rw [Bool.not_eq_true', ← State.spanClear_iff_clearOf hm, Bool.not_eq_true]
  rw [← State.powerFits_iff, ← hclear, ← hmeets, State.noneReason, List.length_eq_zero_iff, ← List.isEmpty_iff]
  cases hempty : s.queued.isEmpty
  case true =>
    rw [List.isEmpty_iff] at hempty
    simp [hempty]
  case false =>
    split_ifs <;> simp_all

/-! ### The state a NEXT_MOVE looks for work in -/

/-- The state with the crane's bay noted and the mode switch evaluated. -/
def State.seeking (s : State) (k : CraneId) (bay : Nat) : State :=
  { (s.modCrane k fun c => { c with lastBay := some bay }) with arbiter := s.turned }

theorem State.seeking_affords : (s.seeking k bay).affords e ↔ s.affords e := by
  have hreservations : (s.seeking k bay).reservations = s.reservations :=
    s.modCrane_reservations (k := k) (f := fun c => { c with lastBay := some bay }) fun _ => rfl
  rw [State.affords, hreservations]
  rfl

theorem State.seeking_clearOf : (s.seeking k bay).clearOf k bay = s.clearOf k bay := rfl

theorem State.seeking_suits : (s.seeking k bay).suits e m ↔ s.suits e m := Iff.rfl

theorem State.seeking_ready {why : Move → Prop} : (s.seeking k bay).ready e why ↔ s.ready e why := Iff.rfl

theorem State.seeking_offers : (s.seeking k bay).offers k e bay i m ↔ s.offers k e bay i m := by
  simp only [State.offers, State.seeking_affords, State.seeking_clearOf, State.seeking_suits]
  rfl

/-- The event in which a NEXT_MOVE of an IDLE crane looks for work (R167). -/
theorem evaluateSwitch_seeking (s : State) (k : CraneId) (bay : Nat) :
    evaluateSwitch (s.modCrane k fun c => { c with lastBay := some bay }).event =
      ⟨s.seeking k bay, if s.turned.mode = s.arbiter.mode then [] else [.modeSwitch]⟩ :=
  evaluateSwitch_eq _

theorem answerNone_eq (s : State) (l : List Happening) : answerNone k e bay ⟨s, l⟩ =
    ⟨⟨s, l ++ if s.noneReason k e bay = .powerWait then [.powerWait k] else []⟩, .noWork,
      .noMove (s.noneReason k e bay) s.arbiter.mode s.queued.length⟩ := by
  rw [answerNone]
  dsimp only
  split
  · rfl
  · rw [List.append_nil]

theorem State.select_none (h : ∀ i m, ¬ s.offers k e bay i m) : s.select k e bay = none := by
  have hnone : s.eligibleMoves k e bay = [] :=
    List.eq_nil_iff_forall_not_mem.mpr fun x hx => h x.1 x.2 (State.mem_eligibleMoves.mp hx)
  rw [State.select, hnone]
  rfl

theorem takeNextMove_offRail (hd : s.drives p k e) (h : ¬ (e.low ≤ bay ∧ bay ≤ e.high)) :
    takeNextMove p k bay s = refuse s .badValue := by
  rw [takeNextMove, hd.withCrane, if_pos (mt (between_iff _ _ _).mp h)]

theorem takeNextMove_holding (hd : s.drives p k e) (hlow : e.low ≤ bay) (hhigh : bay ≤ e.high) {h : Held}
    (hheld : (s.crane k).held = some h) :
    takeNextMove p k bay s = repeatGrant h (s.modCrane k fun c => { c with lastBay := some bay }) := by
  rw [takeNextMove, hd.withCrane, if_neg (not_not.mpr ((between_iff _ _ _).mpr ⟨hlow, hhigh⟩)), hheld]

theorem takeNextMove_idle (hd : s.drives p k e) (hlow : e.low ≤ bay) (hhigh : bay ≤ e.high)
    (hheld : (s.crane k).held = none) :
    takeNextMove p k bay s = findWork k e bay (s.modCrane k fun c => { c with lastBay := some bay }) := by
  rw [takeNextMove, hd.withCrane, if_neg (not_not.mpr ((between_iff _ _ _).mpr ⟨hlow, hhigh⟩)), hheld]

theorem Move.liftMinute_isSome {g : Grant} (h : m.grant? = some g) :
    m.liftMinute?.isSome = decide (m.progress ≠ .granted g) := by
  unfold Move.grant? at h
  unfold Move.liftMinute?
  split at h
  · cases h
  · next hg =>
    cases h
    simp [hg]
  · next hg => simp [hg]

/-- The answer to the NEXT_MOVE of the crane that holds the move (R159). -/
theorem State.grantReport_eq {h : Held} {g : Grant} {y : Stack} {z : Piece} (hg : m.grant? = some g)
    (hy : s.stack m.dest = some y) (hz : s.piece m.piece = some z) : s.grantReport h m =
      ⟨h.slot, m.seq, m.kind, m.piece, z.mass, h.source, m.dest, y.defn.bay, h.tier,
        BitVec.ofInt 32 g.minute + s.clock.offset, decide (m.progress ≠ .granted g)⟩ := by
  rw [State.grantReport, hy, hz, hg, Move.liftMinute_isSome hg]
  rfl

/-- Settles O46: off the rail, the held move again, and NONE with its reason. -/
theorem nextMoveRepeatsOrAnswersNone : Obligations.NextMoveRepeatsOrAnswersNone := by
  unfold Obligations.NextMoveRepeatsOrAnswersNone
  intro p tag k e bay s hd run u
  have htakes : s.takes p .nextMove := hd.takes rfl
  have hrun : run = .next (respond p tag RequestKind.nextMove.code (takeNextMove p k bay s)) :=
    htakes.run (rule := takeNextMove p k bay) rfl
  refine ⟨fun hoff => htakes.refuses (takeNextMove_offRail hd hoff) rfl, fun hlow hhigh => ⟨?_, ?_⟩⟩
  · intro h m g y z hheld hm hg hy hz
    have hanswer : repeatGrant h u = ⟨u.event, .repeated, .grant (u.grantReport h m)⟩ := by
      rw [repeatGrant, show u.move h.slot = some m from hm]
    rw [hrun, takeNextMove_holding hd hlow hhigh hheld, hanswer, respond_accept _ _ _ _ _ _ rfl,
      State.grantReport_eq (s := u) hg hy hz]
    rfl
  · intro hheld hnone queued
    have hselect : (s.seeking k bay).select k e bay = none :=
      State.select_none fun i m h => hnone i m (State.seeking_offers.mp h)
    have hfind : findWork k e bay u = answerNone k e bay
        ⟨s.seeking k bay, if s.turned.mode = s.arbiter.mode then [] else [.modeSwitch]⟩ := by
      rw [findWork, evaluateSwitch_seeking, hselect]
    have hqueued : (s.seeking k bay).queued.length = queued := State.queued_length _
    obtain ⟨hempty, hpower, hspan⟩ := (s.seeking k bay).noneReason_iff k e bay
    rw [State.seeking_affords] at hpower hspan
    refine ⟨(s.seeking k bay).noneReason k e bay, ?_, ?_⟩
    · rw [hrun, takeNextMove_idle hd hlow hhigh hheld, hfind, answerNone_eq, respond_event, hqueued]
      rfl
    · exact ⟨hempty.trans (by rw [hqueued]), hpower, hspan⟩

end Sys2Proof.Machine
end

section
/-! The reads of pieces, stacks, moves, cranes and scans (O48). -/

namespace Sys2Proof.Machine

variable {s t u : State} {n : Nat} {p : PortId} {k : CraneId} {i : SlotId} {m : Move} {x : Piece}

theorem findIdx_eq_id (l : List Nat) (id : Nat) :
    l.findIdx (fun y => y == id) = l.findIdx (fun y => decide (y = id)) := rfl

theorem placeIn_mem {l : List Nat} {id : Nat} (h : id ∈ l) : placeIn l id = l.findIdx (fun y => decide (y = id)) + 1 := by
  rw [placeIn, if_pos (List.contains_iff_mem.mpr h), findIdx_eq_id]

/-- The place of a piece by its location (R134). -/
theorem State.place_bed {b : BedId} {y : Bed} (hx : x.location = .bed b) (hy : s.bed b = some y)
    (hmem : x.id ∈ y.cycle.pieces) :
    s.place x = .bed b (y.cycle.pieces.findIdx (fun z => decide (z = x.id)) + 1) := by
  rw [State.place, hx]
  dsimp only
  rw [hy, Option.map_some, Option.getD_some, placeIn_mem hmem]

theorem State.place_stack {j : StackId} {y : Stack} (hx : x.location = .stack j) (hy : s.stack j = some y)
    (hmem : x.id ∈ y.contents) : s.place x = .stack j (y.contents.findIdx (fun z => decide (z = x.id)) + 1) := by
  rw [State.place, hx]
  dsimp only
  rw [hy, Option.map_some, Option.getD_some, placeIn_mem hmem]

theorem State.place_crane (hx : x.location = .crane k) : s.place x = .crane k := by
  rw [State.place, hx]

/-- The maturity a piece reports: its bed's while it is cured there, and its own elsewhere (R49). -/
theorem State.maturityOf_bed {b : BedId} {y : Bed} (hstate : x.state = .onBed ∨ x.state = .strippable)
    (hx : x.location = .bed b) (hy : s.bed b = some y) : s.maturityOf x = y.maturity := by
  have hcured : x.curedOn = some b := by
    obtain h | h := hstate <;> simp [Piece.curedOn, h, hx]
  rw [State.maturityOf, hcured]
  dsimp only
  rw [hy, Option.map_some, Option.getD_some]

theorem State.maturityOf_own (hbed : x.state ≠ .onBed) (hstrip : x.state ≠ .strippable) :
    s.maturityOf x = ⟨x.count, x.last, x.gap, 0⟩ := by
  have hcured : x.curedOn = none := by
    cases h : x.state <;> simp_all [Piece.curedOn]
  rw [State.maturityOf, hcured]

/-! ### Moves and cranes -/

theorem Move.state_eq (m : Move) : m.state = m.progress.stage := by
  unfold Move.state Progress.stage
  cases m.progress <;> rfl

theorem Move.crane_eq (m : Move) : (m.grant?.map fun g => g.crane) = m.progress.crane? := by
  unfold Move.grant? Progress.crane?
  cases m.progress <;> rfl

theorem State.moveReport_eq (s : State) (m : Move) : s.moveReport m = s.reportOf m := by
  rw [State.moveReport, State.reportOf, Move.state_eq]
  cases h : m.progress <;> simp [Move.grant?, Move.overdue?, Move.liftMinute?, h, Grant.figures, State.stamp]

theorem State.heldReport_idle (h : (s.crane k).held = none) : s.heldReport k = none := by
  simp [State.heldReport, h]

theorem State.heldReport_some {h : Held} {g : Grant} (hheld : (s.crane k).held = some h)
    (hm : s.move h.slot = some m) (hg : m.grant? = some g) :
    s.heldReport k = some ⟨m.progress.stage, g.spanLow, g.spanHigh, g.clearance⟩ := by
  simp [State.heldReport, hheld, hm, hg, Move.state_eq]

/-- The figures READ_CRANE answers with, its queue counted by the slots (R170). -/
theorem State.craneReport_eq (s : State) (k : CraneId) : s.craneReport k =
    { enrolment := (s.crane k).enrolment
      slot := (s.crane k).held.map Held.slot
      tier := (s.crane k).held.map Held.tier
      lastBay := (s.crane k).lastBay
      lastMove := (s.crane k).lastMove
      heldMove := s.heldReport k
      reservation := (s.crane k).reservation
      arbiter := s.arbiter
      queuedStrip := s.line .strip
      queuedDispatch := s.line .dispatch
      queuedRestack := (Finset.univ.filter fun i : SlotId =>
        (s.move i).any fun m => m.progress = .queued ∧ m.kind = .restack).card } := by
  have hrestack : (fun m : Move => decide (m.progress = .queued) && (m.kind == .restack)) =
      fun m => decide (m.progress = .queued ∧ m.kind = .restack) := funext fun m => by
    rw [Bool.decide_and]
    rfl
  rw [State.craneReport, State.waiting_eq, State.waiting_eq, s.queued_count fun m => m.kind == .restack, hrestack]

/-! ### Stacks and the scan unit -/

/-- The entries of a stack when every piece of it is registered. -/
theorem State.stackEntries_all {y : Stack} (h : ∀ id ∈ y.contents, (s.piece id).isSome) :
    (s.stackEntries y).length = y.contents.length ∧
      ∀ (n : Nat) id z, y.contents[n]? = some id → s.piece id = some z →
        (s.stackEntries y)[n]? = some ⟨id, z.state, z.shipReady, z.hold, z.move⟩ := by
  obtain ⟨hlength, hget⟩ := filterMap_map_all
    (fun _ (z : Piece) => (⟨z.id, z.state, z.shipReady, z.hold, z.move⟩ : StackEntry)) h
  refine ⟨hlength, fun n id z hid hz => ?_⟩
  rw [← State.piece_id hz]
  exact hget n id z hid hz

theorem State.scanSet_length (s : State) : s.scanSet.length = (Finset.univ.filter fun d : Channel =>
    s.scan.probes[d].enabled = true ∧ s.scan.probes[d].assignment ≠ .unassigned).card := by
  rw [State.scanSet, finRange_filter_length]
  simp only [State.inScanSet_iff, State.scanned]

/-- Settles O48: each request's report, field by field. -/
theorem readsOfPiecesStacksMovesCranesAndScans : Obligations.ReadsOfPiecesStacksMovesCranesAndScans := by
  unfold Obligations.ReadsOfPiecesStacksMovesCranesAndScans
  intro p tag s hp stamp
  have hpiece : s.takes p .readPiece := State.hears_takes hp rfl rfl
  have hstack : s.takes p .readStack := State.hears_takes hp rfl rfl
  have hmove : s.takes p .readMove := State.hears_takes hp rfl rfl
  have hcrane : s.takes p .readCrane := State.hears_takes hp rfl rfl
  refine ⟨fun hremaining => ?_, fun id x h1 h2 hx => ?_, fun n hn => ?_, fun n h1 h2 hnone => ?_, fun n hn => ?_,
    fun i hnone => ?_, fun n hn => ?_, fun n hn => ?_, fun i x hx => ?_, fun i => ?_, fun k => ?_⟩
  · obtain ⟨hlow, hhigh⟩ := State.minutesRemaining_bounds hremaining
    refine ⟨s.minutesRemaining, hlow, hhigh, ?_⟩
    rw [← s.scanSet_length]
    exact (State.hears_takes hp rfl rfl).accepts (rule := takeReadScan) rfl rfl
  · obtain rfl := State.piece_id hx
    refine ⟨s.pieceReply x, hpiece.accepts (rule := takeReadPiece x.id) (withPiece_some h1 h2 hx _) rfl, rfl, rfl, rfl,
      fun b y hloc hy hmem => State.place_bed hloc hy hmem, fun i y hloc hy hmem => State.place_stack hloc hy hmem,
      fun k hloc => State.place_crane hloc, fun b y hstate hloc hy => ?_, fun hbed hstrip => ?_, fun hnone => ?_,
      fun i m hi hm => ?_⟩
    · rw [State.pieceReply, State.maturityOf_bed hstate hloc hy]
      exact ⟨rfl, rfl, rfl⟩
    · rw [State.pieceReply, State.maturityOf_own hbed hstrip]
      exact ⟨rfl, rfl, rfl⟩
    · simp [State.pieceReply, State.pendingReport, hnone]
    · simp [State.pieceReply, State.pendingReport, hi, hm, Move.state_eq, Move.crane_eq]
  · exact hpiece.refuses (rule := takeReadPiece n) (withPiece_badValue hn _) rfl
  · exact hpiece.refuses (rule := takeReadPiece n) (withPiece_noSuch h1 h2 hnone _) rfl
  · exact hstack.refuses (rule := takeReadStack n) (by rw [takeReadStack, slot?_none hn]) rfl
  · refine hstack.refuses (rule := takeReadStack i) ?_ rfl
    rw [takeReadStack, slot?_val]
    dsimp only
    rw [hnone]
  · exact hmove.refuses (rule := takeReadMove n) (by rw [takeReadMove, slot?_none hn]) rfl
  · exact hcrane.refuses (rule := takeReadCrane n) (by rw [takeReadCrane, slot?_none hn]) rfl
  · refine ⟨s.stackEntries x, hstack.accepts (rule := takeReadStack i) ?_ rfl, State.stackEntries_all⟩
    rw [takeReadStack, slot?_val]
    dsimp only
    rw [hx]
    rfl
  · have hreports : s.moveReport = s.reportOf := funext s.moveReport_eq
    refine hmove.accepts (rule := takeReadMove i) ?_ rfl
    rw [takeReadMove, slot?_val, hreports, s.moveList_length]
  · refine ⟨s.heldReport k, hcrane.accepts (rule := takeReadCrane k) ?_ rfl, State.heldReport_idle,
      fun h m g => State.heldReport_some⟩
    rw [takeReadCrane, slot?_val]
    exact congrArg (fun r => accept s (.crane r)) (s.craneReport_eq k)

end Sys2Proof.Machine
end

section
/-! Pouring, detensioning and abandoning a bed (O33, O34). -/

namespace Sys2Proof.Machine

variable {s t u : State} {n : Nat} {p : PortId} {tag : Byte} {b : BedId} {x : Bed} {es : List PieceEntry}

/-! ### The captured figures -/

theorem foldl_max_le_iff (l : List Nat) (a n : Nat) : l.foldl max a ≤ n ↔ a ≤ n ∧ ∀ y ∈ l, y ≤ n := by
  induction l generalizing a with
  | nil => simp
  | cons y l ih => simp [ih, and_assoc]

theorem foldl_max_mem (l : List Nat) (a : Nat) : l.foldl max a = a ∨ l.foldl max a ∈ l := by
  induction l generalizing a with
  | nil => exact .inl rfl
  | cons y l ih =>
    obtain h | h := ih (max a y)
    · rw [List.foldl_cons, h]
      obtain hmax | hmax := max_choice a y <;> rw [hmax]
      · exact .inl rfl
      · exact .inr List.mem_cons_self
    · exact .inr (List.mem_cons_of_mem y h)

/-- The largest figure of a list whose classes are defined (R103). -/
theorem State.largest_largestOf (f : ProductClass → Nat) (hes : es ≠ [])
    (hclasses : ∀ y ∈ es, (s.classOf y).isSome) : s.largestOf f es (s.largest f es) := by
  have hle : ∀ y ∈ es, ∀ c, s.classOf y = some c → f c ≤ s.largest f es := fun y hy c hc => by
    refine ((foldl_max_le_iff _ 0 _).mp (le_refl (s.largest f es))).2 (f c) (List.mem_map.mpr ⟨y, hy, ?_⟩)
    rw [hc]
    rfl
  have hat : ∃ y ∈ es, ((s.classOf y).map f).getD 0 = s.largest f es := by
    obtain h | h := foldl_max_mem (es.map fun y => ((s.classOf y).map f).getD 0) 0
    · obtain ⟨y, hy⟩ := List.exists_mem_of_ne_nil es hes
      obtain ⟨c, hc⟩ := Option.isSome_iff_exists.mp (hclasses y hy)
      have hzero : s.largest f es = 0 := h
      have hc0 := hle y hy c hc
      exact ⟨y, hy, by rw [hc, Option.map_some, Option.getD_some]; omega⟩
    · obtain ⟨y, hy, heq⟩ := List.mem_map.mp h
      exact ⟨y, hy, heq⟩
  obtain ⟨y, hy, heq⟩ := hat
  obtain ⟨c, hc⟩ := Option.isSome_iff_exists.mp (hclasses y hy)
  rw [hc] at heq
  exact ⟨⟨y, hy, c, hc, heq⟩, hle⟩

/-! ### POUR_END -/

/-- The checks of R102 in their order. -/
theorem pourCasting_eq (b : BedId) (x : Bed) (es : List PieceEntry) (s : State) : pourCasting b x es s =
    if ¬ castable es then refuseWith s .badValue (.cycle x.cycle.state)
    else if ¬ ∀ y ∈ es, (s.classOf y).isSome then refuseWith s .noSuch (.cycle x.cycle.state)
    else if ¬ ((es.map PieceEntry.id).Nodup ∧ ∀ y ∈ es, s.piece y.id = none) then
      refuseWith s .duplicate (.cycle x.cycle.state)
    else if 1024 < s.pieces.length + es.length then refuseWith s .full (.cycle x.cycle.state)
    else acceptPour b x es s := by
  have hfull : ¬ recordsFree s es.length = true ↔ 1024 < s.pieces.length + es.length := by
    rw [recordsFree, maxPieces, decide_eq_true_iff]
    omega
  simp only [pourCasting, hfull, classesDefined_iff, idsFree_iff, castable_iff]

theorem castable.ne_nil (h : castable es) : es ≠ [] := by
  rintro rfl
  obtain ⟨hlength, -⟩ := h
  simp at hlength

theorem rulePourEnd_casting (h : x.cycle.state = .casting) : rulePourEnd es b x s = pourCasting b x es s := by
  rw [rulePourEnd, h]

theorem rulePourEnd_curing {f : PourFigures} (h : x.cycle.state = .curing) (hf : x.cycle.figures = some f) :
    rulePourEnd es b x s =
      if es.map PieceEntry.id = x.cycle.pieces then
        ⟨s.event, .repeated, .poured .curing (s.stamp f.pourEnd) f.target f.minAge⟩
      else wrongCycle x s := by
  rw [rulePourEnd, h]
  dsimp only
  rw [pourResend, hf, h]

theorem rulePourEnd_other (hcasting : x.cycle.state ≠ .casting) (hcuring : x.cycle.state ≠ .curing) :
    rulePourEnd es b x s = wrongCycle x s := by
  unfold rulePourEnd
  split
  · next h => exact absurd h hcasting
  · next h => exact absurd h hcuring
  · rfl

theorem State.tends.run (h : s.tends p b x) {k : RequestKind} {i : Instr} {rule : BedId → Bed → State → Taken}
    (hk : requestRoles k = .officeBedside) (hi : exec i s = .next (serve p tag k (bedRequest p b rule) s)) :
    exec i s = .next (respond p tag k.code (rule b x s)) := by
  rw [hi, serve_bedRequest_tends h hk]

/-- Settles O33: the checks of R102, the resend of R105, and every other state. -/
theorem pourEndCastsOnceAndRepeats : Obligations.PourEndCastsOnceAndRepeats := by
  unfold Obligations.PourEndCastsOnceAndRepeats
  intro p tag b x es s hx run stop stamp
  have htakes : s.takes p .pourEnd := hx.takes rfl
  have hrule : bedRequest p b (rulePourEnd es) s = rulePourEnd es b x s := bedRequest_tends hx _
  refine ⟨fun hcasting => ?_, fun f hcuring hf => ?_, fun hcasting hcuring => ?_⟩
  · replace hrule := (hrule.trans (rulePourEnd_casting hcasting)).trans (pourCasting_eq b x es s)
    refine htakes.refusesIf hrule rfl fun hcastable hrule => htakes.refusesIf hrule rfl fun hclasses hrule =>
      htakes.refusesIf hrule rfl fun _ hrule => htakes.refusesIf hrule rfl fun _ hrule => ?_
    have hne := castable.ne_nil (not_not.mp hcastable)
    have hdefined := not_not.mp hclasses
    refine ⟨_, _, (castPieces b s.now es s).pieces, State.largest_largestOf _ hne hdefined,
      State.largest_largestOf _ hne hdefined, castPieces_perm b _ es s, htakes.accepts ?_ rfl⟩
    rw [hrule, acceptPour]
    dsimp only
    rw [State.pourFigures, castPieces_eq]
    rfl
  · replace hrule := hrule.trans (rulePourEnd_curing hcuring hf)
    split
    · next h =>
      rw [if_pos h] at hrule
      exact (htakes.run rfl).trans (by rw [hrule, respond_accept _ _ _ _ _ _ rfl]; rfl)
    · next h => exact htakes.refusesWith (hrule.trans (if_neg h)) rfl
  · exact htakes.refusesWith (hrule.trans (rulePourEnd_other hcasting hcuring)) rfl

/-! ### DETENSION_REQUEST and DETENSION_DONE -/

theorem Bed.emptied_eq (x : Bed) : x.emptied = x.cleared := rfl

theorem returnToEmpty_eq (h : s.bed b = some x) : returnToEmpty b s = s.setBed b (some x.cleared) := by
  rw [returnToEmpty, State.modBed, h]
  rfl

/-- In RUNNING an event's allocation is answered as one taken at that event (R85 to R88). -/
theorem respond_allocateRunning {e : Event} (hctl : e.st.ctl = .running) (p : PortId) (tag : Byte) (k : RequestKind)
    (a : Answer) : (e.st.answered p tag k .ok a).allocatesTo
      (respond p tag k.code (acceptEvent (allocateRunning e) a)) := by
  rw [allocateRunning_running hctl]
  exact respond_allocate e p tag k a

/-- A bed's return to EMPTY as a whole event, answered (R114). -/
theorem respond_returnToEmpty (hctl : s.ctl = .running) (hx : s.bed b = some x) (p : PortId) (tag : Byte)
    (k : RequestKind) (a : Answer) : ((s.setBed b (some x.cleared)).answered p tag k .ok a).allocatesTo
      (respond p tag k.code (acceptEvent (allocateRunning (returnToEmpty b s).event) a)) := by
  rw [returnToEmpty_eq hx]
  exact respond_allocateRunning hctl p tag k a

/-- The pieces of a list changed, by membership. -/
theorem State.modPieces_eq (s : State) (ids : List Nat) (f : Piece → Piece) : s.modPieces ids f =
    { s with pieces := s.pieces.map fun y => if y.id ∈ ids then f y else y } := by
  simp only [State.modPieces, List.contains_iff_mem]

/-- Settles O34: the checks of R108, then DETENSION_DONE in its three cases. -/
theorem bedsAreDetensioned : Obligations.BedsAreDetensioned := by
  unfold Obligations.BedsAreDetensioned
  intro p tag b x s hx ask stop did
  obtain ⟨hctl, -, hbed, -⟩ := id hx
  have hask : s.takes p .detensionRequest := hx.takes rfl
  have hdid : s.takes p .detensionDone := hx.takes rfl
  have hrequest : bedRequest p b ruleDetensionRequest s = ruleDetensionRequest b x s := bedRequest_tends hx _
  have hdone : bedRequest p b ruleDetensionDone s = ruleDetensionDone b x s := bedRequest_tends hx _
  constructor
  · refine hask.refusesIf hrequest rfl fun _ hrule => hask.refusesIf hrule rfl fun _ hrule =>
      hask.refusesIf hrule rfl fun _ hrule => fun tmax yard htmax hyard => ?_
    rw [htmax, hyard] at hrule
    simp only [tooWarm, Option.getD_some, decide_eq_true_eq] at hrule
    exact hask.refusesIf hrule rfl fun _ hrule => hask.accepts hrule rfl
  · refine hdid.refusesIf hdone rfl fun _ hrule => ?_
    split
    · next hempty =>
      rw [hempty] at hrule
      refine ⟨_, hdid.run rfl, ?_⟩
      rw [hrule]
      exact respond_returnToEmpty hctl hbed p tag .detensionDone (.cycle .empty)
    · next hne =>
      rw [if_neg (by rwa [List.isEmpty_iff])] at hrule
      refine hdid.accepts ?_ rfl
      rw [hrule, State.modPieces_eq]

end Sys2Proof.Machine
end

section
/-! Dropped moves: what taking the QUEUED moves of pieces out of the table leaves (R146). -/

namespace Sys2Proof.Machine

variable {s t u : State} {n id : Nat} {i : SlotId} {m : Move} {ids jds : List Nat}

/-- A QUEUED move of one of these pieces. -/
def Move.dropsWith (m : Move) (ids : List Nat) : Prop := m.progress = .queued ∧ m.piece ∈ ids

/-- `u` is `s` with the QUEUED moves of these pieces dropped. -/
structure State.Dropped (s : State) (ids : List Nat) (u : State) : Prop where
  frame : u = { s with pieces := u.pieces, moves := u.moves, ports := u.ports }
  gone : ∀ i m, s.move i = some m → m.dropsWith ids → u.move i = none
  kept : ∀ i m, s.move i = some m → ¬ m.dropsWith ids → u.move i = some m
  free : ∀ i, s.move i = none → u.move i = none
  piece : ∀ id, ∃ g : Piece → Option SlotId, u.piece id = (s.piece id).map fun z => { z with move := g z }
  other : ∀ id, id ∉ ids → u.piece id = s.piece id
  rings : ∃ R, Rings 11 R s u ∧
    ∀ i m, s.move i = some m → m.dropsWith ids → (s.port m.requester).role ≠ .off → R m.requester
  links : u.linksSafe

theorem State.Dropped.refl (hlinks : s.linksSafe) (h : ∀ i m, s.move i = some m → ¬ m.dropsWith ids) :
    s.Dropped ids s where
  frame := rfl
  gone i m hm hdrops := absurd hdrops (h i m hm)
  kept _ _ hm _ := hm
  free _ hm := hm
  piece id := ⟨fun z => z.move, by cases s.piece id <;> rfl⟩
  other _ _ := rfl
  rings := ⟨_, Quiet.refl s, fun i m hm hdrops => absurd hdrops (h i m hm)⟩
  links := hlinks

theorem Move.dropsWith_append : m.dropsWith (ids ++ jds) ↔ m.dropsWith ids ∨ m.dropsWith jds := by
  simp only [Move.dropsWith, List.mem_append]
  tauto

theorem State.Dropped.trans (h : s.Dropped ids t) (h' : t.Dropped jds u) : s.Dropped (ids ++ jds) u where
  frame := h'.frame.trans
    (congrArg (fun v : State => { v with pieces := u.pieces, moves := u.moves, ports := u.ports }) h.frame)
  gone i m hm hdrops := by
    by_cases hfirst : m.dropsWith ids
    · exact h'.free i (h.gone i m hm hfirst)
    · exact h'.gone i m (h.kept i m hm hfirst) ((Move.dropsWith_append.mp hdrops).resolve_left hfirst)
  kept i m hm hdrops := by
    rw [Move.dropsWith_append, not_or] at hdrops
    exact h'.kept i m (h.kept i m hm hdrops.1) hdrops.2
  free i hm := h'.free i (h.free i hm)
  piece id := by
    obtain ⟨g, hg⟩ := h.piece id
    obtain ⟨g', hg'⟩ := h'.piece id
    exact ⟨fun z => g' { z with move := g z }, by rw [hg', hg, Option.map_map]; rfl⟩
  other id hid := by
    rw [List.mem_append, not_or] at hid
    rw [h'.other id hid.2, h.other id hid.1]
  rings := by
    obtain ⟨R, hR, hreach⟩ := h.rings
    obtain ⟨R', hR', hreach'⟩ := h'.rings
    refine ⟨_, hR.trans hR', fun i m hm hdrops hrole => ?_⟩
    by_cases hfirst : m.dropsWith ids
    · exact .inl (hreach i m hm hfirst hrole)
    · refine .inr (hreach' i m (h.kept i m hm hfirst) ((Move.dropsWith_append.mp hdrops).resolve_left hfirst) ?_)
      rw [hR.role]
      exact hrole
  links := h'.links

/-! ### One piece -/

theorem leaveTable_piece (i : SlotId) (m : Move) (s : State) (id : Nat) : (leaveTable i m s).piece id =
    if id = m.piece then (s.piece m.piece).map fun x => { x with move := none } else s.piece id :=
  State.modPiece_piece _ (f := fun x => { x with move := none }) (fun _ => rfl) m.piece id

theorem leaveTable_frame (i : SlotId) (m : Move) (s : State) : leaveTable i m s =
    { s with pieces := (leaveTable i m s).pieces, moves := (leaveTable i m s).moves } := rfl

theorem State.raise_frame (s : State) (k : AlertKind) (w : Toward) :
    s.raise k w = { s with ports := (s.raise k w).ports } := rfl

/-- The move of a piece, when the table and the registry name each other. -/
theorem State.linksSafe.move_of_piece (h : s.linksSafe) {x : Piece} (hx : s.piece id = some x)
    (hi : x.move = some i) : ∃ m, s.move i = some m ∧ m.piece = id :=
  (h.2 id x i hx).mp hi

theorem State.linksSafe.piece_of_move (h : s.linksSafe) (hm : s.move i = some m) :
    ∃ x, s.piece m.piece = some x ∧ x.move = some i := by
  obtain ⟨x, hx⟩ := Option.isSome_iff_exists.mp (h.1 i m hm)
  exact ⟨x, hx, (h.2 _ x i hx).mpr ⟨m, hm, rfl⟩⟩

theorem leaveTable_links (h : s.linksSafe) (hm : s.move i = some m) : (leaveTable i m s).linksSafe := by
  obtain ⟨x₀, hx₀, hi₀⟩ := h.piece_of_move hm
  constructor
  · intro j m' hm'
    rw [leaveTable_move] at hm'
    split at hm'
    · cases hm'
    · rw [leaveTable_piece]
      split
      · rw [hx₀]
        rfl
      · exact h.1 j m' hm'
  · intro id x j hx
    simp only [leaveTable_move]
    rw [leaveTable_piece] at hx
    split at hx
    · next hid =>
      subst hid
      rw [hx₀] at hx
      cases hx
      refine ⟨nofun, fun ⟨m', hm', hpiece⟩ => ?_⟩
      split at hm'
      · cases hm'
      · next hij =>
        have hj := (h.2 _ x₀ j hx₀).mpr ⟨m', hm', hpiece⟩
        exact absurd (Option.some.inj (hi₀.symm.trans hj)) hij
    · next hid =>
      rw [h.2 id x j hx]
      refine exists_congr fun m' => and_congr_left fun hpiece => ?_
      split
      · next hij =>
        subst hij
        refine ⟨fun hm' => ?_, nofun⟩
        obtain rfl := Option.some.inj (hm.symm.trans hm')
        exact absurd hpiece.symm hid
      · rfl

theorem State.linksSafe.congr (h : s.linksSafe) (hmoves : u.moves = s.moves) (hpieces : u.pieces = s.pieces) :
    u.linksSafe := by
  have hmove : ∀ i, u.move i = s.move i := fun i => by rw [State.move, State.move, hmoves]
  have hpiece : ∀ id, u.piece id = s.piece id := fun id => by rw [State.piece, State.piece, hpieces]
  simpa only [State.linksSafe, hmove, hpiece] using h

/-- A port that is not OFF sees the alerts of the moves it requested (R178). -/
theorem towardMove_requester (s : State) (m : Move) {r : Role} (hr : r ≠ .off) :
    (s.towardMove m).sees m.requester r = true := by
  cases r
  case off => exact absurd rfl hr
  all_goals simp [State.towardMove, Toward.sees]

/-- A QUEUED move leaves the table with its alert. -/
theorem dropped_one (hlinks : s.linksSafe) (hm : s.move i = some m) (hq : m.progress = .queued) :
    s.Dropped [m.piece] ((leaveTable i m s).raise .moveDropped (s.towardMove m)) := by
  obtain ⟨x₀, hx₀, hi₀⟩ := hlinks.piece_of_move hm
  have hpiece : ∀ id, ((leaveTable i m s).raise .moveDropped (s.towardMove m)).piece id =
      if id = m.piece then (s.piece m.piece).map fun x => { x with move := none } else s.piece id :=
    leaveTable_piece i m s
  have hmove : ∀ j, ((leaveTable i m s).raise .moveDropped (s.towardMove m)).move j =
      if i = j then none else s.move j := fun j => leaveTable_move i j m s
  have hsame : ∀ j m', s.move j = some m' → m'.piece = m.piece → i = j := fun j m' hm' hpiece =>
    Option.some.inj (hi₀.symm.trans ((hlinks.2 _ x₀ j hx₀).mpr ⟨m', hm', hpiece⟩))
  constructor
  case frame => rw [State.raise_frame, leaveTable_frame]
  case gone =>
    intro j m' hm' hdrops
    rw [hmove, if_pos (hsame j m' hm' (List.mem_singleton.mp hdrops.2))]
  case kept =>
    intro j m' hm' hdrops
    rw [hmove, if_neg, hm']
    rintro rfl
    obtain rfl := Option.some.inj (hm.symm.trans hm')
    exact hdrops ⟨hq, List.mem_singleton_self _⟩
  case free =>
    intro j hnone
    rw [hmove, hnone, ite_self]
  case piece =>
    intro id
    rw [hpiece]
    split
    · next hid =>
      subst hid
      exact ⟨fun _ => none, rfl⟩
    · exact ⟨fun z => z.move, by cases s.piece id <;> rfl⟩
  case other =>
    intro id hid
    rw [hpiece, if_neg (by simpa using hid)]
  case rings =>
    refine ⟨_, (Quiet.of_eq rfl).rings (raise_rings (leaveTable i m s) .moveDropped (s.towardMove m)),
      fun j m' hm' hdrops hrole => ?_⟩
    obtain rfl := hsame j m' hm' (List.mem_singleton.mp hdrops.2)
    obtain rfl := Option.some.inj (hm.symm.trans hm')
    exact towardMove_requester s m hrole
  case links => exact (leaveTable_links hlinks hm).congr rfl rfl

theorem dropMoveOf_dropped (hlinks : s.linksSafe) (id : Nat) : s.Dropped [id] (dropMoveOf id s) := by
  have hnone : (∀ j m', s.move j = some m' → ¬ m'.dropsWith [id]) → s.Dropped [id] s := State.Dropped.refl hlinks
  unfold dropMoveOf
  split
  · next h =>
    refine hnone fun j m' hm' hdrops => ?_
    obtain ⟨x, hx, hj⟩ := hlinks.piece_of_move hm'
    rw [List.mem_singleton.mp hdrops.2] at hx
    rw [hx] at h
    exact absurd (h.symm.trans hj) nofun
  · next i h =>
    obtain ⟨x, hx, hi⟩ := Option.bind_eq_some_iff.mp h
    obtain ⟨m, hm, rfl⟩ := hlinks.move_of_piece hx hi
    rw [dropMove, hm]
    dsimp only
    split
    · next hq => exact dropped_one hlinks hm ((Move.isQueued_iff m).mp hq)
    · next hq =>
      refine hnone fun j m' hm' hdrops => hq ((Move.isQueued_iff m).mpr ?_)
      have hj := (hlinks.2 _ x j hx).mpr ⟨m', hm', List.mem_singleton.mp hdrops.2⟩
      obtain rfl := Option.some.inj (hi.symm.trans hj)
      obtain rfl := Option.some.inj (hm.symm.trans hm')
      exact hdrops.1

theorem dropMoves_dropped (hlinks : s.linksSafe) (ids : List Nat) :
    s.Dropped ids (ids.foldl (fun s id => dropMoveOf id s) s) := by
  induction ids generalizing s with
  | nil => exact .refl hlinks fun _ _ _ hdrops => absurd hdrops.2 List.not_mem_nil
  | cons id ids ih =>
    have hone := dropMoveOf_dropped hlinks id
    exact hone.trans (ih hone.links)

end Sys2Proof.Machine
end

section
/-! Pieces freed and beds abandoned (O35, O37, O38). -/

namespace Sys2Proof.Machine

variable {s t u : State} {n id : Nat} {p : PortId} {tag : Byte} {i : StackId} {m : Move} {ids : List Nat} {x : Piece}

/-! ### What an answered event leaves -/

section
variable (h : u.Settled t)
include h

theorem State.Settled.moves : t.moves = u.moves := (congrArg State.moves h.frame :)
theorem State.Settled.pieces : t.pieces = u.pieces := (congrArg State.pieces h.frame :)
theorem State.Settled.beds : t.beds = u.beds := (congrArg State.beds h.frame :)
theorem State.Settled.budget : t.budget = u.budget := (congrArg State.budget h.frame :)
theorem State.Settled.piles : t.stackSlots = u.stackSlots := (congrArg State.stackSlots h.frame :)

theorem State.Settled.move (i : SlotId) : t.move i = u.move i := by rw [State.move, h.moves, State.move]
theorem State.Settled.piece (id : Nat) : t.piece id = u.piece id := by rw [State.piece, h.pieces, State.piece]
theorem State.Settled.bed (b : BedId) : t.bed b = u.bed b := by rw [State.bed, h.beds, State.bed]
theorem State.Settled.stack (i : StackId) : t.stack i = u.stack i := by rw [State.stack, h.piles, State.stack]

end

theorem State.answered_settled (s : State) (p : PortId) (tag : Byte) (k : RequestKind) (r : Result) (a : Answer) :
    s.Settled (s.answered p tag k r a) := ⟨rfl, fun _ _ => answered_quiet s p tag k r a⟩

/-- Drops seen from a later state with the same table and no further MOVE_DROPPED. -/
theorem State.Dropped.dropsTo (h : s.Dropped ids u) (hmoves : ∀ i, t.move i = u.move i) (hquiet : Quiet 11 u t) :
    s.dropsTo t ids := by
  obtain ⟨R, hR, hreach⟩ := h.rings
  intro i m hm
  refine ⟨fun hdrops => ⟨(hmoves i).trans (h.gone i m hm hdrops), fun hrole => ?_⟩,
    fun hkeeps => (hmoves i).trans (h.kept i m hm hkeeps)⟩
  exact (hR.quiet hquiet).alertedAt (hreach i m hm hdrops hrole)

/-! ### SHIP_DISPATCH -/

theorem State.inMotion_iff (s : State) (x : Piece) : s.inMotion x = true ↔ s.moving x := by
  unfold State.inMotion State.moveOf State.moving
  cases x.move with
  | none => simp
  | some i =>
    cases hm : s.move i with
    | none => simp [hm]
    | some m => simp [hm, Move.isQueued_eq]

theorem State.stackInMotion_iff (s : State) (y : Stack) :
    s.stackInMotion y = true ↔ ∃ id ∈ y.contents, ∃ x, s.piece id = some x ∧ s.moving x := by
  simp only [State.stackInMotion, List.any_eq_true]
  refine exists_congr fun id => and_congr_right fun _ => ?_
  cases s.piece id <;> simp [State.inMotion_iff]

theorem foldl_freePiece_piece (ids : List Nat) (s : State) (id : Nat) :
    (ids.foldl State.freePiece s).piece id = if id ∈ ids then none else s.piece id := by
  induction ids generalizing s with
  | nil => simp
  | cons a ids ih =>
    rw [List.foldl_cons, ih, State.freePiece_piece]
    by_cases hmem : id ∈ ids <;> by_cases ha : id = a <;> simp [hmem, ha]

theorem foldl_freePiece_frame (ids : List Nat) (s : State) :
    ids.foldl State.freePiece s = { s with pieces := (ids.foldl State.freePiece s).pieces } := by
  induction ids generalizing s with
  | nil => rfl
  | cons a ids ih => exact ih (s.freePiece a)

/-- What a shipment leaves: beds and heat, and the stack empty (R132). -/
theorem shipStack_fields (i : StackId) (y : Stack) (h : s.Dropped y.contents u)
    (hu : y.contents.foldl (fun s id => dropMoveOf id s) s = u) :
    (shipStack i y s).beds = s.beds ∧ (shipStack i y s).budget = s.budget ∧
      (shipStack i y s).stackSlots = s.stackSlots.set i (some { y with contents := [] }) ∧
      (shipStack i y s).moves = u.moves ∧ (shipStack i y s).ports = u.ports ∧
      ∀ id, (shipStack i y s).piece id = if id ∈ y.contents then none else u.piece id := by
  have hfree := foldl_freePiece_frame y.contents u
  have hship : shipStack i y s = (y.contents.foldl State.freePiece u).setStack i (some { y with contents := [] }) := by
    rw [shipStack, hu]
  rw [hship]
  have hpiles : (y.contents.foldl State.freePiece u).stackSlots = s.stackSlots :=
    (congrArg State.stackSlots hfree :).trans (congrArg State.stackSlots h.frame :)
  refine ⟨(congrArg State.beds hfree :).trans (congrArg State.beds h.frame :),
    (congrArg State.budget hfree :).trans (congrArg State.budget h.frame :), ?_, (congrArg State.moves hfree :),
    (congrArg State.ports hfree :), foldl_freePiece_piece y.contents u⟩
  rw [State.setStack, hpiles]

theorem takeShipDispatch_some {y : Stack} (hy : s.stack i = some y) : takeShipDispatch i s =
    if y.defn.kind ≠ .dispatch then refuse s .badValue
    else if y.incoming ≠ 0 ∨ s.stackInMotion y then refuse s .busy
    else accept (shipStack i y s) (.shipped y.contents) := by
  rw [takeShipDispatch, slot?_val]
  dsimp only
  rw [hy]

/-- Settles O38: the checks of R132, then a shipment. -/
theorem shipDispatchFreesAWholeStack : Obligations.ShipDispatchFreesAWholeStack := by
  unfold Obligations.ShipDispatchFreesAWholeStack
  intro p tag i s hp hlinks run stop
  have htakes : s.takes p .shipDispatch := hp.office rfl rfl
  refine ⟨fun hnone => ?_, ?_, fun n hn => ?_⟩
  · refine htakes.refuses (rule := takeShipDispatch i) ?_ rfl
    rw [takeShipDispatch, slot?_val]
    dsimp only
    rw [hnone]
  · intro y hy busy
    have hrule := takeShipDispatch_some hy
    have hbusy_iff : (y.incoming ≠ 0 ∨ s.stackInMotion y = true) ↔ busy := or_congr_right (s.stackInMotion_iff y)
    refine ⟨fun hkind => ?_, fun hkind hbusy => ?_, fun hkind hfree => ?_⟩
    · exact htakes.refuses (hrule.trans (if_pos (by simp [hkind]))) rfl
    · rw [if_neg (not_not.mpr hkind), if_pos (hbusy_iff.mpr hbusy)] at hrule
      exact htakes.refuses hrule rfl
    · rw [if_neg (not_not.mpr hkind), if_neg (mt hbusy_iff.mp hfree)] at hrule
      have hdrop := dropMoves_dropped hlinks y.contents
      obtain ⟨hbeds, hbudget, hpiles, hmoves, hports, hpiece⟩ := shipStack_fields i y hdrop rfl
      have hsettled := State.answered_settled (shipStack i y s) p tag .shipDispatch .ok (.shipped y.contents)
      refine ⟨_, htakes.accepts hrule rfl, hdrop.dropsTo (fun j => ?_) ?_, ?_, hsettled.piles.trans hpiles,
        fun id hid => ?_, fun id hid => ?_, hsettled.beds.trans hbeds, hsettled.budget.trans hbudget⟩
      · rw [hsettled.move, State.move, hmoves, State.move]
      · exact Rings.rings (.of_eq hports) (answered_quiet _ p tag _ _ _)
      · rw [State.answered, State.modPort_port, if_pos rfl]
        rfl
      · rw [hsettled.piece, hpiece, if_pos hid]
      · rw [hsettled.piece, hpiece, if_neg hid, hdrop.other id hid]
  · exact htakes.refuses (rule := takeShipDispatch n) (by rw [takeShipDispatch, slot?_none hn]) rfl

/-! ### DELETE_PIECE -/

theorem State.buried_iff (s : State) (x : Piece) : s.buried x = true ↔
    ¬ ∀ i, x.location = .stack i → ∃ y, s.stack i = some y ∧ y.contents.getLast? = some x.id := by
  rw [State.buried]
  cases hloc : x.location
  case bed b => simp
  case crane k => simp
  case stack j => cases hy : s.stack j <;> simp [hy, Stack.topIs]

theorem takeDeletePiece_some (h1 : 1 ≤ id) (h2 : id ≤ 65535) (hx : s.piece id = some x) : takeDeletePiece id s =
    if s.inMotion x then refuse s .inMotion
    else if s.buried x then refuse s .notTop
    else acceptEvent (erasePiece x s) (.deleted x.state (s.place x)) :=
  withPiece_some h1 h2 hx _

/-- What a deletion leaves of a state whose queued move of the piece is dropped, by the piece's place. -/
theorem erasePiece_stack {i : StackId} (hloc : x.location = .stack i) :
    erasePiece x s = ((pullPiece i x.id (dropMoveOf x.id s)).freePiece x.id).event := by
  rw [erasePiece, hloc]

theorem erasePiece_bed {b : BedId} (hloc : x.location = .bed b) :
    erasePiece x s = settleBed b ((unlistPiece b x.id (dropMoveOf x.id s)).freePiece x.id).event := by
  rw [erasePiece, hloc]

theorem erasePiece_crane {k : CraneId} (hloc : x.location = .crane k) :
    erasePiece x s = ((dropMoveOf x.id s).freePiece x.id).event := by
  rw [erasePiece, hloc]

/-! ### A bed settled after a piece has left it -/

/-- The settling of a bed writes the beds, the heat and the ports. -/
theorem settleBed_frame (b : BedId) (e : Event) : (settleBed b e).st =
    { e.st with
      beds := (settleBed b e).st.beds, budget := (settleBed b e).st.budget, ports := (settleBed b e).st.ports } := by
  obtain ⟨-, h⟩ | ⟨-, h⟩ := settleBed_cases b e <;> rw [h]
  cases hctl : e.st.ctl with
  | loading =>
    rw [allocateRunning_loading (show (e.upd (returnToEmpty b)).st.ctl = .loading from hctl)]
    rfl
  | running =>
    rw [allocateRunning_running (show (e.upd (returnToEmpty b)).st.ctl = .running from hctl)]
    exact allocate_frame (e.upd (returnToEmpty b))

theorem settleBed_quiet (b : BedId) (e : Event) (hn : n ≠ 8) : Quiet n e.st (settleBed b e).st := by
  obtain ⟨-, h⟩ | ⟨-, h⟩ := settleBed_cases b e <;> rw [h]
  · exact .refl _
  · unfold allocateRunning
    split
    · exact .of_eq rfl
    · exact Rings.rings (.of_eq rfl) (allocate_quiet (e.upd (returnToEmpty b)) hn)

theorem State.emptiesNow_iff {b : BedId} {y : Bed} (hy : s.bed b = some y) :
    s.emptiesNow b = true ↔ y.cycle.state = .stripping ∧ y.cycle.pieces = [] := by
  simp [State.emptiesNow, hy]

theorem settleBed_stays {b : BedId} {e : Event} {y : Bed} (hy : e.st.bed b = some y)
    (h : ¬ (y.cycle.state = .stripping ∧ y.cycle.pieces = [])) : settleBed b e = e :=
  if_neg (mt (State.emptiesNow_iff hy).mp h)

theorem Bed.markCurtailed_cleared (g : Nat) (y : Bed) : y.cleared.markCurtailed g = y.cleared := by
  simp [Bed.markCurtailed, Bed.cleared]

/-- A STRIPPING bed without pieces returns to EMPTY, with an allocation in RUNNING (R114). -/
theorem settleBed_empties {b : BedId} {e : Event} {y : Bed} (hy : e.st.bed b = some y)
    (hstripping : y.cycle.state = .stripping) (hpieces : y.cycle.pieces = []) :
    (settleBed b e).st.bed b = some y.cleared ∧
      (e.st.ctl = .running → (settleBed b e).st.budget.lastAllocation = some e.st.now) := by
  have hempties : settleBed b e = allocateRunning (e.upd (returnToEmpty b)) :=
    if_pos ((State.emptiesNow_iff hy).mpr ⟨hstripping, hpieces⟩)
  have hbed : (e.upd (returnToEmpty b)).st.bed b = some y.cleared := by
    change (returnToEmpty b e.st).bed b = _
    rw [returnToEmpty_eq hy, State.setBed_bed, if_pos rfl]
  rw [hempties]
  cases hctl : e.st.ctl with
  | loading =>
    rw [allocateRunning_loading (show (e.upd (returnToEmpty b)).st.ctl = .loading from hctl)]
    exact ⟨hbed, nofun⟩
  | running =>
    rw [allocateRunning_running (show (e.upd (returnToEmpty b)).st.ctl = .running from hctl), allocate_bed, hbed,
      Option.map_some, Bed.markCurtailed_cleared]
    exact ⟨rfl, fun _ => allocate_lastAllocation _⟩

/-! ### The state a deletion leaves -/

/-- The table, the registry and MOVE_DROPPED after a deletion, whatever the piece's place. -/
theorem erasePiece_drops (x : Piece) (s : State) :
    (erasePiece x s).st.moves = (dropMoveOf x.id s).moves ∧
      (erasePiece x s).st.pieces = ((dropMoveOf x.id s).freePiece x.id).pieces ∧
      Quiet 11 (dropMoveOf x.id s) (erasePiece x s).st := by
  cases hloc : x.location with
  | crane k =>
    rw [erasePiece_crane hloc]
    exact ⟨rfl, rfl, .of_eq rfl⟩
  | stack j =>
    rw [erasePiece_stack hloc]
    exact ⟨rfl, rfl, .of_eq rfl⟩
  | bed b =>
    rw [erasePiece_bed hloc]
    have hframe := settleBed_frame b ((unlistPiece b x.id (dropMoveOf x.id s)).freePiece x.id).event
    exact ⟨(congrArg State.moves hframe :), (congrArg State.pieces hframe :),
      Rings.rings (.of_eq rfl) (settleBed_quiet b _ (by decide))⟩

theorem filter_bne (l : List Nat) (id : Nat) : (l.filter fun y => y != id) = l.filter (· ≠ id) :=
  List.filter_congr fun y _ => by by_cases h : y = id <;> simp [h]

theorem State.modStack_stack (s : State) (i j : StackId) (f : Stack → Stack) :
    (s.modStack i f).stack j = (s.stack j).map fun y => if i = j then f y else y := by
  rw [State.modStack, State.setStack_stack]
  split
  · next h => rw [h]
  · cases s.stack j <;> rfl

theorem erasePiece_stack_eq (h : s.Dropped [x.id] (dropMoveOf x.id s)) (j : StackId) :
    (erasePiece x s).st.stack j = (s.stack j).map fun y =>
      if x.location = .stack j then { y with contents := y.contents.filter (· ≠ x.id) } else y := by
  have hpiles : (dropMoveOf x.id s).stackSlots = s.stackSlots := (congrArg State.stackSlots h.frame :)
  have hstack : ∀ j, (dropMoveOf x.id s).stack j = s.stack j := fun j => by rw [State.stack, hpiles, State.stack]
  have hstays : (erasePiece x s).st.stackSlots = s.stackSlots → (∀ i, x.location ≠ .stack i) →
      (erasePiece x s).st.stack j = (s.stack j).map fun y =>
        if x.location = .stack j then { y with contents := y.contents.filter (· ≠ x.id) } else y := fun hv hloc => by
    rw [State.stack, hv, ← State.stack]
    cases s.stack j <;> simp [hloc j]
  cases hloc : x.location with
  | crane k =>
    rw [← hloc]
    refine hstays ?_ fun i => by simp [hloc]
    rw [erasePiece_crane hloc]
    exact hpiles
  | bed b =>
    rw [← hloc]
    refine hstays ?_ fun i => by simp [hloc]
    rw [erasePiece_bed hloc, settleBed_frame]
    exact hpiles
  | stack i =>
    rw [erasePiece_stack hloc]
    change (pullPiece i x.id (dropMoveOf x.id s)).stack j = _
    rw [pullPiece, State.modStack_stack, hstack]
    simp only [filter_bne, Location.stack.injEq]

theorem unlistPiece_beds {b : BedId} {y : Bed} (hy : s.bed b = some y) (id : Nat) : (unlistPiece b id s).beds =
    s.beds.set b (some { y with cycle := { y.cycle with pieces := y.cycle.pieces.filter (· ≠ id) } }) := by
  rw [unlistPiece, State.modBed, hy, Option.map_some, filter_bne]
  rfl

/-- The beds and the heat after the settling of a bed whose list has become `l` (R113, R114). -/
theorem settleBed_unlisted {e : Event} {b : BedId} {y : Bed} {l : List Nat}
    (hbeds : e.st.beds = s.beds.set b (some { y with cycle := { y.cycle with pieces := l } }))
    (hbudget : e.st.budget = s.budget) (hnow : e.st.now = s.now) (hctl : e.st.ctl = s.ctl) :
    if y.cycle.state = .stripping ∧ l = [] then
      (settleBed b e).st.bed b = some y.cleared ∧
        (s.ctl = .running → (settleBed b e).st.budget.lastAllocation = some s.now)
    else (settleBed b e).st.beds = s.beds.set b (some { y with cycle := { y.cycle with pieces := l } }) ∧
      (settleBed b e).st.budget = s.budget := by
  have hbed : e.st.bed b = some { y with cycle := { y.cycle with pieces := l } } := by
    rw [State.bed, hbeds]
    simp
  split
  · next hempty =>
    obtain ⟨hcleared, hallocated⟩ := settleBed_empties hbed hempty.1 hempty.2
    exact ⟨hcleared, fun h => (hallocated (hctl.trans h)).trans (congrArg some hnow)⟩
  · next hstays =>
    rw [settleBed_stays hbed hstays]
    exact ⟨hbeds, hbudget⟩

/-- The beds and the heat after a deletion from a bed (R113, R114, R131). -/
theorem erasePiece_bed_eq (h : s.Dropped [x.id] (dropMoveOf x.id s)) {b : BedId} {y : Bed}
    (hloc : x.location = .bed b) (hy : s.bed b = some y) :
    let l := y.cycle.pieces.filter (· ≠ x.id)
    if y.cycle.state = .stripping ∧ l = [] then
      (erasePiece x s).st.bed b = some y.cleared ∧
        (s.ctl = .running → (erasePiece x s).st.budget.lastAllocation = some s.now)
    else (erasePiece x s).st.beds = s.beds.set b (some { y with cycle := { y.cycle with pieces := l } }) ∧
      (erasePiece x s).st.budget = s.budget := by
  have hbeds : (dropMoveOf x.id s).beds = s.beds := (congrArg State.beds h.frame :)
  have hy' : (dropMoveOf x.id s).bed b = some y := by rw [State.bed, hbeds, ← State.bed, hy]
  rw [erasePiece_bed hloc]
  refine settleBed_unlisted ?_ (congrArg State.budget h.frame :) (congrArg (fun v : State => v.now) h.frame :)
    (congrArg State.ctl h.frame :)
  exact (unlistPiece_beds hy' x.id).trans (by rw [hbeds])

theorem erasePiece_offBed (h : s.Dropped [x.id] (dropMoveOf x.id s)) (hloc : ∀ b, x.location ≠ .bed b) :
    (erasePiece x s).st.beds = s.beds ∧ (erasePiece x s).st.budget = s.budget := by
  have hkeeps : (dropMoveOf x.id s).beds = s.beds ∧ (dropMoveOf x.id s).budget = s.budget :=
    ⟨(congrArg State.beds h.frame :), (congrArg State.budget h.frame :)⟩
  cases hx : x.location with
  | bed b => exact absurd hx (hloc b)
  | stack i =>
    rw [erasePiece_stack hx]
    exact hkeeps
  | crane k =>
    rw [erasePiece_crane hx]
    exact hkeeps

/-- Settles O37: the checks of R130, then a deletion by the piece's place. -/
theorem deletePieceFreesOneRecord : Obligations.DeletePieceFreesOneRecord := by
  unfold Obligations.DeletePieceFreesOneRecord
  intro p tag id s hp hlinks run stop top
  have htakes : s.takes p .deletePiece := hp.office rfl rfl
  refine ⟨fun hid => htakes.refuses (rule := takeDeletePiece id) (withPiece_badValue hid _) rfl,
    fun h1 h2 hnone => htakes.refuses (rule := takeDeletePiece id) (withPiece_noSuch h1 h2 hnone _) rfl,
    fun x h1 h2 hx => ?_⟩
  have hrule := takeDeletePiece_some h1 h2 hx
  obtain rfl := State.piece_id hx
  have hmotion := s.inMotion_iff x
  have hburied := s.buried_iff x
  refine ⟨fun hmoving => ?_, fun hrest htop => ?_, fun hrest htop => ?_⟩
  · exact htakes.refuses (hrule.trans (if_pos (hmotion.mpr hmoving))) rfl
  · rw [if_neg (mt hmotion.mp hrest), if_pos (hburied.mpr htop)] at hrule
    exact htakes.refuses hrule rfl
  · rw [if_neg (mt hmotion.mp hrest), if_neg (mt hburied.mp (not_not.mpr htop))] at hrule
    have hdrop := dropMoveOf_dropped hlinks x.id
    obtain ⟨hmoves, hpieces, hquiet⟩ := erasePiece_drops x s
    have hsettled := respond_settled p tag .deletePiece (erasePiece x s) (.deleted x.state (s.place x))
    have hpiece : ∀ n, (erasePiece x s).st.piece n = if n = x.id then none else s.piece n := fun n => by
      rw [State.piece, hpieces, ← State.piece, State.freePiece_piece]
      split
      · rfl
      · next hn => rw [hdrop.other n (by simpa using hn)]
    rw [← hrule] at hsettled
    refine ⟨_, htakes.run (rule := takeDeletePiece x.id) rfl, hdrop.dropsTo (fun i => ?_)
      (hquiet.quiet (hsettled.quiet 11 (by decide))), ?_, ?_, fun n hn => ?_, fun i => ?_, fun b y hloc hy => ?_,
      fun hloc => ?_⟩
    · rw [hsettled.move, State.move, hmoves, State.move]
    · rw [hrule, respond_tx]
      rfl
    · rw [hsettled.piece, hpiece, if_pos rfl]
    · rw [hsettled.piece, hpiece, if_neg hn]
    · rw [hsettled.stack]
      exact erasePiece_stack_eq hdrop i
    · rw [hsettled.bed, hsettled.beds, hsettled.budget]
      exact erasePiece_bed_eq hdrop hloc hy
    · rw [hsettled.beds, hsettled.budget]
      exact erasePiece_offBed hdrop hloc

end Sys2Proof.Machine
end

section
/-! ABANDON_BED (O35). -/

namespace Sys2Proof.Machine

variable {s t u : State} {n id : Nat} {p : PortId} {tag : Byte} {b : BedId} {m : Move} {ids : List Nat} {x : Bed}

theorem Piece.scrapped_id (now : Int) (m : Maturity) (z : Piece) : (z.scrapped now m).id = z.id := by
  unfold Piece.scrapped
  split <;> rfl

theorem State.modPieces_piece (s : State) (ids : List Nat) {f : Piece → Piece} (hf : ∀ z, (f z).id = z.id) (id : Nat) :
    (s.modPieces ids f).piece id = (s.piece id).map fun z => if id ∈ ids then f z else z := by
  have hkeeps : ∀ z : Piece, (if ids.contains z.id then f z else z).id = z.id := fun z => by
    split
    · exact hf z
    · rfl
  rw [State.piece, State.modPieces, find?_map_keepsId hkeeps, ← State.piece]
  cases hz : s.piece id with
  | none => rfl
  | some z =>
    have hid := State.piece_id hz
    simp [hid]

/-- What an answered allocation leaves of the state it was taken in. -/
theorem State.Settled.allocated {w : State} (h : (allocate w.event).st.Settled t) :
    t.moves = w.moves ∧ t.pieces = w.pieces ∧ (∀ n, n ≠ 8 → n ≠ 14 → Quiet n w t) ∧
      t.budget.lastAllocation = some w.now ∧
      ∀ b, t.bed b = (w.bed b).map (Bed.markCurtailed t.budget.granted[b]) := by
  have hframe := allocate_frame w.event
  refine ⟨h.moves.trans (congrArg State.moves hframe :), h.pieces.trans (congrArg State.pieces hframe :),
    fun n h8 h14 => (allocate_quiet w.event h8).quiet (h.quiet n h14), ?_, fun b => ?_⟩
  · rw [h.budget, allocate_lastAllocation]
    rfl
  · rw [h.bed, h.budget, allocate_bed, allocate_granted]
    rfl

/-- The state an abandoned bed with pieces brings to its allocation (R111). -/
def State.abandoned (s : State) (b : BedId) (x : Bed) : State :=
  ((x.cycle.pieces.foldl (fun s id => dropMoveOf id s) s).modPieces x.cycle.pieces
    (Piece.scrapped s.now x.maturity)).setBed b (some x.abandon)

theorem abandonLoaded_eq (b : BedId) (x : Bed) (s : State) :
    abandonLoaded b x s = allocateRunning (s.abandoned b x).event := rfl

theorem State.abandoned_drops (h : s.Dropped x.cycle.pieces u)
    (hu : x.cycle.pieces.foldl (fun s id => dropMoveOf id s) s = u) :
    (s.abandoned b x).moves = u.moves ∧ (s.abandoned b x).ports = u.ports ∧
      (s.abandoned b x).bed b = some x.abandon ∧ (s.abandoned b x).now = s.now ∧ (s.abandoned b x).ctl = s.ctl ∧
      ∀ id, (s.abandoned b x).piece id =
        (u.piece id).map fun z => if id ∈ x.cycle.pieces then z.scrapped s.now x.maturity else z := by
  rw [State.abandoned, hu]
  refine ⟨rfl, rfl, ?_, (congrArg (fun v : State => v.now) h.frame :), (congrArg State.ctl h.frame :),
    u.modPieces_piece _ (Piece.scrapped_id _ _)⟩
  rw [State.setBed_bed, if_pos rfl]

theorem Bed.abandon_heat (x : Bed) (g : Nat) : (x.abandon.markCurtailed g).heat =
    { x.heat with
      phase := .off
      carry := 0
      base := 0
      requested := if x.heat.overheat then 0 else if x.heat.frost then x.defn.guard else 0
      curtailed := decide (g < (x.abandon.markCurtailed g).heat.requested) } := by
  simp only [Bed.markCurtailed, Bed.abandon, demandOf, Nat.zero_max]

/-- A piece of an abandoned bed (R111). -/
theorem Piece.scrapped_eq (now : Int) (m : Maturity) (z : Piece) : (z.scrapped now m).state = .scrap ∧
    (z.scrapped now m).location = z.location ∧ (z.scrapped now m).hold = z.hold ∧
    (z.scrapped now m).shipReady = z.shipReady ∧
    (z.state ≠ .scrap → (z.scrapped now m).count = m.count ∧ (z.scrapped now m).gap = m.gap ∧
      (z.scrapped now m).last = some now) ∧
    (z.state = .scrap → (z.scrapped now m).count = z.count ∧ (z.scrapped now m).gap = z.gap ∧
      (z.scrapped now m).last = z.last) := by
  unfold Piece.scrapped
  split
  · next h => exact ⟨h, rfl, rfl, rfl, fun hne => absurd h hne, fun _ => ⟨rfl, rfl, rfl⟩⟩
  · next h => exact ⟨rfl, rfl, rfl, rfl, fun _ => ⟨rfl, rfl, rfl⟩, fun heq => absurd heq h⟩

theorem State.tends.takesAbandon (h : s.tends p b x) (hrole : (s.port p).role = .office) : s.takes p .abandonBed := by
  obtain ⟨hctl, hidle, -, -⟩ := h
  refine ⟨hidle, ?_⟩
  rw [hctl, barred_running, hrole]
  rfl

/-- Settles O35: the empty list and the loaded bed, each with its allocation. -/
theorem abandonBedScrapsItsPieces : Obligations.AbandonBedScrapsItsPieces := by
  unfold Obligations.AbandonBedScrapsItsPieces
  intro p tag b x s hx hrole hlinks run
  have htakes := hx.takesAbandon hrole
  have hrule : bedRequest p b ruleAbandonBed s = ruleAbandonBed b x s := bedRequest_tends hx _
  obtain ⟨hctl, -, hbed, -⟩ := hx
  refine htakes.refusesIf hrule rfl fun _ hrule => ?_
  split
  · next hempty =>
    rw [if_pos (by simpa [List.isEmpty_iff] using hempty)] at hrule
    refine ⟨_, htakes.run rfl, ?_⟩
    rw [hrule]
    exact respond_returnToEmpty hctl hbed p tag .abandonBed (.cycle .empty)
  · next hloaded =>
    rw [if_neg (by simpa [List.isEmpty_iff] using hloaded), abandonLoaded_eq] at hrule
    have hdrop := dropMoves_dropped hlinks x.cycle.pieces
    obtain ⟨hmoves, hports, hbed', hnow, hctl', hpiece⟩ := State.abandoned_drops (b := b) hdrop rfl
    generalize x.cycle.pieces.foldl (fun s id => dropMoveOf id s) s = u at hdrop hmoves hports hpiece
    generalize s.abandoned b x = w at hrule hmoves hports hbed' hnow hctl' hpiece
    rw [allocateRunning_running (show w.event.st.ctl = .running from hctl'.trans hctl)] at hrule
    have hsettled := respond_settled p tag .abandonBed (allocate w.event) (.cycle .stripping)
    have htx := respond_tx p tag .abandonBed (allocate w.event) (.cycle .stripping)
    have hrun : run = .next (respond p tag RequestKind.abandonBed.code
        (acceptEvent (allocate w.event) (.cycle .stripping))) := (htakes.run rfl).trans (by rw [hrule])
    generalize respond p tag RequestKind.abandonBed.code (acceptEvent (allocate w.event) (.cycle .stripping)) = t
      at hsettled htx hrun
    obtain ⟨htmoves, htpieces, htquiet, htlast, htbed⟩ := hsettled.allocated
    have hmove : ∀ i, t.move i = u.move i := fun i => by rw [State.move, htmoves, hmoves, State.move]
    have hpiece' : ∀ id, t.piece id =
        (u.piece id).map fun z => if id ∈ x.cycle.pieces then z.scrapped s.now x.maturity else z := fun id => by
      rw [State.piece, htpieces, ← State.piece, hpiece]
    have hdrops := hdrop.dropsTo hmove (Rings.rings (.of_eq hports) (htquiet 11 (by decide) (by decide)))
    refine ⟨t, x.abandon.markCurtailed t.budget.granted[b], hrun, htx, htlast.trans (congrArg some hnow), ?_, rfl, rfl,
      rfl, rfl, Bed.abandon_heat x _, fun i m hm hq hmem => (hdrops i m hm).1 ⟨hq, hmem⟩,
      fun i m hm hstays => (hdrops i m hm).2 ?_, fun id z hz hmem => ?_, fun id hmem => ?_⟩
    · rw [htbed, hbed', Option.map_some]
    · rintro ⟨hq, hmem⟩
      exact hstays.elim (fun h => h hq) fun h => h hmem
    · obtain ⟨g, hg⟩ := hdrop.piece id
      rw [hpiece', hg, hz]
      simp only [Option.map_some, if_pos hmem]
      exact ⟨_, rfl, Piece.scrapped_eq s.now x.maturity { z with move := g z }⟩
    · rw [hpiece', hdrop.other id hmem]
      simp only [if_neg hmem, Option.map_id']

end Sys2Proof.Machine
end

section
/-! Entering and withdrawing moves (O39, O40). -/

namespace Sys2Proof.Machine

variable {s t u : State} {n id : Nat} {p : PortId} {tag : Byte} {i : SlotId} {d : StackId} {m : Move} {k : MoveKind}
  {x : Piece} {src : Source}

/-- In RUNNING an OFFICE or BEDSIDE port takes the requests granted to both. -/
theorem takes_officeBedside (hctl : s.ctl = .running) (hp : s.asks p .office ∨ s.asks p .bedside) {c : RequestKind}
    (hc : requestRoles c = .officeBedside) : s.takes p c := by
  obtain ⟨hrole, hidle⟩ | ⟨hrole, hidle⟩ := hp <;> refine ⟨hidle, ?_⟩ <;>
    rw [hctl, barred_running, hc, hrole] <;> rfl

/-! ### CANCEL_MOVE -/

theorem leaveTable_eq (i : SlotId) (m : Move) (s : State) : leaveTable i m s =
    { s with
      moves :=
        { s.moves with
          slots := s.moves.slots.set i none
          charged := s.moves.charged.set m.requester (s.moves.charged[m.requester] - 1) }
      pieces := s.pieces.map fun z => if z.id = m.piece then { z with move := none } else z } := by
  rw [leaveTable, State.modPiece_eq]
  rfl

theorem takeCancelMove_free (h1 : 1 ≤ id) (h2 : id ≤ 65535) (hm : s.move i = none) :
    takeCancelMove p i id s = refuse s .noSuch := by
  rw [takeCancelMove, slot?_val]
  dsimp only
  rw [if_neg (not_not.mpr ((idInRange_iff id).mpr ⟨h1, h2⟩)), hm]

/-- The checks of R145 past the slot, in their order. -/
theorem takeCancelMove_some (h1 : 1 ≤ id) (h2 : id ≤ 65535) (hm : s.move i = some m) : takeCancelMove p i id s =
    if m.piece ≠ id then refuse s .noSuch
    else if m.requester ≠ p ∧ (s.port p).role ≠ .office then refuse s .notPermitted
    else if m.progress ≠ .queued then refuse s .inMotion
    else accept (leaveTable i m s) .empty := by
  rw [takeCancelMove, slot?_val]
  dsimp only
  rw [if_neg (not_not.mpr ((idInRange_iff id).mpr ⟨h1, h2⟩)), hm]
  simp only [Move.isQueued_iff, ne_eq]

/-- Settles O40: the checks of R145, then the withdrawal. -/
theorem cancelMoveWithdrawsAQueuedMove : Obligations.CancelMoveWithdrawsAQueuedMove := by
  unfold Obligations.CancelMoveWithdrawsAQueuedMove
  intro p tag id s hctl hp stop
  have htakes : s.takes p .cancelMove := takes_officeBedside hctl hp rfl
  refine ⟨fun n hbad => ?_, fun i h1 h2 => ⟨fun hnone => htakes.refuses (takeCancelMove_free h1 h2 hnone) rfl,
    fun m hm => ?_⟩⟩
  · refine htakes.refuses (rule := takeCancelMove p n id) ?_ rfl
    rw [takeCancelMove]
    by_cases hn : n < 64
    · have hid : ¬ idInRange id = true := by
        rw [idInRange_iff]
        omega
      rw [show slot? 64 n = some ⟨n, hn⟩ from slot?_some.mpr rfl]
      exact if_pos hid
    · rw [slot?_none (by omega)]
  · refine htakes.refusesIf (takeCancelMove_some h1 h2 hm) rfl fun hpiece hrule => htakes.refusesIf hrule rfl
      fun _ hrule => htakes.refusesIf hrule rfl fun _ hrule => htakes.accepts ?_ rfl
    rw [hrule, leaveTable_eq, not_not.mp hpiece]

/-! ### REQUEST_MOVE -/

theorem State.sourceFor_iff (s : State) (k : MoveKind) (x : Piece) (src : Source) :
    s.sourceFor k x = some src ↔ s.movable k x ∧ x.location.isSource src := by
  cases k <;> cases hloc : x.location <;>
    simp [State.sourceFor, State.movable, Location.isSource, hloc, Option.any_eq_true, or_assoc, @eq_comm _ src]

theorem State.pieceBoundTo_iff (s : State) (p : PortId) (x : Piece) : s.pieceBoundTo p x = true ↔
    ∃ b y, x.location = .bed b ∧ s.bed b = some y ∧ y.defn.bound = some p := by
  cases hloc : x.location <;> simp [State.pieceBoundTo, hloc, Option.any_eq_true]

theorem State.freeSlot_none (h : ∀ i, s.move i ≠ none) : s.freeSlot = none := by
  simp only [State.freeSlot, List.find?_eq_none, Option.isNone_iff_eq_none]
  exact fun i _ => h i

theorem State.freeSlot_some (h : s.move i = none) (hlow : ∀ j, j < i → s.move j ≠ none) : s.freeSlot = some i := by
  rw [State.freeSlot, List.find?_eq_some_iff_getElem]
  refine ⟨by simp [h], i, by simp, by simp, fun j hj => ?_⟩
  simpa [Option.isSome_iff_ne_none] using hlow ⟨j, by omega⟩ hj

theorem moveKind?_code (k : MoveKind) : moveKind? k.code = some k := by cases k <;> rfl

theorem moveKind?_none {c : Nat} (h : 4 ≤ c) : moveKind? c = none := by
  match c, h with
  | _ + 4, _ => rfl

theorem moveKind?_strip (c : Nat) : moveKind? c = some .strip ↔ c = 0 := by
  match c with
  | 0 | 1 | 2 | 3 | _ + 4 => simp [moveKind?]

/-- A REQUEST_MOVE that its port may make, past the checks of the piece's number (R142). -/
theorem takeRequestMove_some (hallowed : (s.port p).role = .bedside → k = .strip) (h1 : 1 ≤ id) (h2 : id ≤ 65535)
    (hx : s.piece id = some x) (hrest : ¬ s.moving x) (hsource : s.sourceFor k x = some src) :
    takeRequestMove p k.code id d s =
      if (s.port p).role = .bedside ∧ ¬ s.pieceBoundTo p x then refuse s .notBound
      else placeRequest p k x src d s := by
  have hrole : ¬ ((s.port p).role = .bedside ∧ moveKind? k.code ≠ some .strip) := fun ⟨hbedside, hother⟩ =>
    hother (by rw [hallowed hbedside]; rfl)
  rw [takeRequestMove, if_neg hrole, moveKind?_code, slot?_val]
  dsimp only
  rw [withPiece_some h1 h2 hx, if_neg (mt (s.inMotion_iff x).mp hrest), hsource]

/-- What a REQUEST_MOVE comes to when its kind and its destination's number are good. -/
theorem takeRequestMove_good (hallowed : (s.port p).role = .bedside → k = .strip) :
    ∃ rule, takeRequestMove p k.code id d s = withPiece id rule s ∧
      (∀ x, s.moving x → rule x s = refuse s .inMotion) ∧
      ∀ x, ¬ s.moving x → s.sourceFor k x = none → rule x s = refuse s .wrongState := by
  have hrole : ¬ ((s.port p).role = .bedside ∧ moveKind? k.code ≠ some .strip) := fun ⟨hbedside, hother⟩ =>
    hother (by rw [hallowed hbedside]; rfl)
  rw [takeRequestMove, if_neg hrole, moveKind?_code, slot?_val]
  refine ⟨_, rfl, fun x hmoving => if_pos ((s.inMotion_iff x).mpr hmoving), fun x hrest hnone => ?_⟩
  rw [if_neg (mt (s.inMotion_iff x).mp hrest), hnone]

/-- A request's destination suits the kind of move (R142). -/
theorem destGood_iff (k : MoveKind) (y : Stack) (src : Source) (d : StackId) :
    (y.defn.kind ≠ k.destKind ∨ ¬ y.defn.isOpen = true ∨ src = .stack d) ↔
      ¬ ((y.defn.kind = .dispatch ↔ k = .load) ∧ y.defn.isOpen = true ∧ src ≠ .stack d) := by
  have hkind : y.defn.kind = k.destKind ↔ (y.defn.kind = .dispatch ↔ k = .load) := by
    cases y.defn.kind <;> cases k <;> decide
  rw [← hkind]
  tauto

theorem placeRequest_held (h : k = .load ∧ x.hold ≠ none) : placeRequest p k x src d s = refuse s .held :=
  if_pos ⟨h.1, Option.isSome_iff_ne_none.mpr h.2⟩

theorem placeRequest_free (h : ¬ (k = .load ∧ x.hold ≠ none)) (hnone : s.stack d = none) :
    placeRequest p k x src d s = refuse s .noSuch := by
  rw [placeRequest, if_neg (by rwa [Option.isSome_iff_ne_none]), hnone]

/-- A request whose piece is not held and whose destination stands: the last check, the merge or the new entry. -/
theorem placeRequest_bad (h : ¬ (k = .load ∧ x.hold ≠ none)) {y : Stack} (hy : s.stack d = some y)
    (hbad : ¬ ((y.defn.kind = .dispatch ↔ k = .load) ∧ y.defn.isOpen = true ∧ src ≠ .stack d)) :
    placeRequest p k x src d s = refuse s .badValue := by
  rw [placeRequest, if_neg (by rwa [Option.isSome_iff_ne_none]), hy]
  exact if_pos ((destGood_iff k y src d).mpr hbad)

theorem placeRequest_merges (h : ¬ (k = .load ∧ x.hold ≠ none)) {y : Stack} (hy : s.stack d = some y)
    (hgood : (y.defn.kind = .dispatch ↔ k = .load) ∧ y.defn.isOpen = true ∧ src ≠ .stack d)
    (hi : x.move = some i) (hm : s.move i = some m) :
    placeRequest p k x src d s = mergeMove p k src d i m s := by
  rw [placeRequest, if_neg (by rwa [Option.isSome_iff_ne_none]), hy]
  dsimp only
  rw [if_neg (mt (destGood_iff k y src d).mp (not_not.mpr hgood)), hi, Option.bind_some, hm, Option.map_some]

theorem placeRequest_enters (h : ¬ (k = .load ∧ x.hold ≠ none)) {y : Stack} (hy : s.stack d = some y)
    (hgood : (y.defn.kind = .dispatch ↔ k = .load) ∧ y.defn.isOpen = true ∧ src ≠ .stack d)
    (hnone : x.move = none) : placeRequest p k x src d s = newMove p k x.id src d s := by
  rw [placeRequest, if_neg (by rwa [Option.isSome_iff_ne_none]), hy]
  dsimp only
  rw [if_neg (mt (destGood_iff k y src d).mp (not_not.mpr hgood)), hnone, Option.bind_none]

/-- A new move in the table, charged to its port and named by its piece (R140, R144). -/
theorem enterMove_eq (p : PortId) (k : MoveKind) (id : Nat) (src : Source) (d : StackId) (i : SlotId) (s : State) :
    enterMove p k id src d i s =
      { s with
        moves :=
          ⟨s.moves.slots.set i (some ⟨k, id, src, d, p, s.moves.seq + 1, .queued⟩), s.moves.seq + 1,
            s.moves.charged.set p (s.moves.charged[p] + 1)⟩
        pieces := s.pieces.map fun z => if z.id = id then { z with move := some i } else z } := by
  rw [enterMove, State.modPiece_eq]
  rfl

/-- Settles O39: the checks of R142 in their order, then the merge or the new entry. -/
theorem requestMoveMergesOrEnters : Obligations.RequestMoveMergesOrEnters := by
  unfold Obligations.RequestMoveMergesOrEnters
  intro p tag k id d s hctl hp bedside run stop
  have htakes : s.takes p .requestMove := takes_officeBedside hctl hp rfl
  refine ⟨fun hbedside hkind => ?_, fun hallowed => ?_, fun c n hbad => ?_⟩
  · refine htakes.refuses (rule := takeRequestMove p k.code id d) (if_pos ⟨hbedside, ?_⟩) rfl
    rw [moveKind?_code]
    simpa using hkind
  · obtain ⟨rule, hrule, hmotion, hstate⟩ := takeRequestMove_good (id := id) (d := d) hallowed
    refine ⟨fun hid => htakes.refuses (hrule.trans (withPiece_badValue hid rule)) rfl,
      fun h1 h2 hnone => htakes.refuses (hrule.trans (withPiece_noSuch h1 h2 hnone rule)) rfl,
      fun x h1 h2 hx => ⟨fun hmoving => htakes.refuses
        (hrule.trans ((withPiece_some h1 h2 hx rule).trans (hmotion x hmoving))) rfl,
      fun hrest hunmovable => htakes.refuses (hrule.trans ((withPiece_some h1 h2 hx rule).trans
        (hstate x hrest ?_))) rfl, fun src hrest hmovable hsource => ?_⟩⟩
    · exact Option.eq_none_iff_forall_ne_some.mpr fun src hsrc => hunmovable ((s.sourceFor_iff k x src).mp hsrc).1
    intro bound heldUp
    have hplaced := takeRequestMove_some (d := d) hallowed h1 h2 hx hrest
      ((s.sourceFor_iff k x src).mpr ⟨hmovable, hsource⟩)
    have hbound : ((s.port p).role = .bedside ∧ ¬ s.pieceBoundTo p x = true) ↔ ¬ bound := by
      rw [s.pieceBoundTo_iff]
      exact Classical.not_imp.symm
    have hpast : bound → takeRequestMove p k.code id d s = placeRequest p k x src d s := fun h =>
      hplaced.trans (if_neg (mt hbound.mp (not_not.mpr h)))
    refine ⟨fun h => htakes.refuses (hplaced.trans (if_pos (hbound.mpr h))) rfl,
      fun h hheld => htakes.refuses ((hpast h).trans (placeRequest_held hheld)) rfl,
      fun h hfree hnone => htakes.refuses ((hpast h).trans (placeRequest_free hfree hnone)) rfl, ?_⟩
    intro y h hfree hy good
    refine ⟨fun hbad => htakes.refuses ((hpast h).trans (placeRequest_bad hfree hy hbad)) rfl,
      fun i m hgood hi hm => ?_, fun hgood hnone => ?_⟩
    · refine (htakes.run (rule := takeRequestMove p k.code id d) rfl).trans (congrArg _ ?_)
      rw [hpast h, placeRequest_merges hfree hy hgood hi hm, mergeMove, respond_event]
      rfl
    · have henters := (hpast h).trans (placeRequest_enters hfree hy hgood hnone)
      rw [newMove] at henters
      refine ⟨fun hcredit => htakes.refuses (henters.trans (if_pos hcredit)) rfl, fun hcredit hfull => ?_,
        fun i hcredit hi hlow => ?_⟩
      · rw [if_neg (Nat.not_le.mpr hcredit), State.freeSlot_none hfull] at henters
        exact htakes.refuses henters rfl
      · rw [if_neg (Nat.not_le.mpr hcredit), State.freeSlot_some hi hlow] at henters
        refine (htakes.run (rule := takeRequestMove p k.code id d) rfl).trans (congrArg _ ?_)
        rw [henters]
        dsimp only
        rw [respond_acceptEvent, enterMove_eq, State.piece_id hx]
        rfl
  · have hrule : takeRequestMove p c id n s =
        refuse s (if bedside ∧ c ≠ 0 then .notPermitted else .badValue) := by
      have hkind : ((s.port p).role = .bedside ∧ moveKind? c ≠ some .strip) ↔ bedside ∧ c ≠ 0 := by
        rw [ne_eq, moveKind?_strip]
      rw [takeRequestMove]
      by_cases hrole : bedside ∧ c ≠ 0
      · rw [if_pos hrole, if_pos (hkind.mpr hrole)]
      · rw [if_neg hrole, if_neg (mt hkind.mp hrole)]
        obtain hc | hn := hbad
        · rw [moveKind?_none hc]
        · rw [slot?_none hn]
          cases moveKind? c <;> rfl
    refine htakes.refuses (rule := takeRequestMove p c id n) hrule rfl ?_
    split <;> rfl

end Sys2Proof.Machine
end

section
/-! LIFTED (O41). -/

namespace Sys2Proof.Machine

variable {s t u : State} {n id : Nat} {p : PortId} {tag : Byte} {k : CraneId} {e : Enrolment} {i : SlotId} {m : Move}
  {g : Grant} {x : Piece}

/-- A report of a crane's own port, past the shared checks. -/
theorem craneReport_own (h : s.drives p k e) (rule : CraneId → SlotId → State → Taken) :
    craneReport p k i rule s = rule k i s := by
  rw [craneReport, h.withCrane, slot?_val]

/-! ### The rule -/

theorem ruleLifted_none (h : s.move i = none) : ruleLifted id k i s = refuse s .tooLate := by
  rw [ruleLifted, h]

theorem ruleLifted_queued (hm : s.move i = some m) (hg : m.grant? = none) :
    ruleLifted id k i s = refuse s .tooLate := by
  rw [ruleLifted, hm]
  unfold Move.grant? at hg
  dsimp only
  split <;> simp_all

theorem ruleLifted_other (hm : s.move i = some m) (hg : m.grant? = some g) (hk : g.crane ≠ k) :
    ruleLifted id k i s = refuse s .tooLate := by
  rw [ruleLifted, hm]
  unfold Move.grant? at hg
  dsimp only
  split <;> simp_all

theorem ruleLifted_wrongPiece (hm : s.move i = some m) (hg : m.grant? = some g) (hk : g.crane = k) (hid : m.piece ≠ id) :
    ruleLifted id k i s = refuse s .badValue := by
  rw [ruleLifted, hm]
  unfold Move.grant? at hg
  dsimp only
  split <;> simp_all

theorem ruleLifted_again (hm : s.move i = some m) (hg : m.grant? = some g) (hk : g.crane = k) (hid : m.piece = id)
    (hlifted : m.progress ≠ .granted g) : ruleLifted id k i s = ⟨s.event, .repeated, .empty⟩ := by
  rw [ruleLifted, hm]
  unfold Move.grant? at hg
  dsimp only
  split <;> simp_all

theorem ruleLifted_granted (hm : s.move i = some m) (hg : m.progress = .granted g) (hk : g.crane = k)
    (hid : m.piece = id) : ruleLifted id k i s = acceptEvent (liftMove k i m g s) .empty := by
  rw [ruleLifted, hm]
  dsimp only
  rw [hg]
  dsimp only
  rw [if_neg (not_not.mpr hk), if_neg (not_not.mpr hid)]

/-! ### The piece -/

/-- What a lift writes in the piece's record, whatever its source (R127). -/
theorem Piece.lift_kept (k : CraneId) (now : Int) (o : Option Maturity) (x : Piece) :
    (x.lift k now o).location = .crane k ∧ (x.lift k now o).move = x.move ∧ (x.lift k now o).hold = x.hold ∧
      (x.lift k now o).shipReady = x.shipReady ∧
      (x.lift k now o).state = (if x.state = .scrap then .scrap else .inTransit) := by
  unfold Piece.lift
  split <;> simp_all

/-- A piece lifted from a bed takes its bed's count and gap (R50). -/
theorem Piece.lift_bed (k : CraneId) (now : Int) (c : Maturity) (hx : x.state ≠ .scrap) :
    (x.lift k now (some c)).count = c.count ∧ (x.lift k now (some c)).last = some now ∧
      (x.lift k now (some c)).gap = (x.gap || c.gap) := by
  unfold Piece.lift
  split <;> simp_all

theorem Piece.lift_stack (k : CraneId) (now : Int) (x : Piece) :
    (x.lift k now none).count = x.count ∧ (x.lift k now none).last = x.last ∧ (x.lift k now none).gap = x.gap := by
  unfold Piece.lift
  split <;> simp_all

/-! ### The state a lift leaves -/

/-- The state of a lift before its bed is settled. -/
def State.taken (s : State) (k : CraneId) (i : SlotId) (m : Move) (g : Grant) : State :=
  (leaveSource m (s.setMove i (some { m with progress := .lifted g s.now false }))).modPiece m.piece
    (Piece.lift k s.now (s.sourceMaturity m))

theorem liftMove_eq (k : CraneId) (i : SlotId) (m : Move) (g : Grant) (s : State) :
    liftMove k i m g s = settleSource m (s.taken k i m g).event := rfl

theorem leaveSource_frame (m : Move) (s : State) : leaveSource m s =
    { s with beds := (leaveSource m s).beds, stackSlots := (leaveSource m s).stackSlots } := by
  unfold leaveSource
  split <;> rfl

theorem settleSource_frame (m : Move) (e : Event) : (settleSource m e).st =
    { e.st with
      beds := (settleSource m e).st.beds
      budget := (settleSource m e).st.budget
      ports := (settleSource m e).st.ports } := by
  unfold settleSource
  split
  · exact settleBed_frame _ e
  · rfl

theorem State.taken_frame (s : State) (k : CraneId) (i : SlotId) (m : Move) (g : Grant) : s.taken k i m g =
    { s with
      beds := (s.taken k i m g).beds, stackSlots := (s.taken k i m g).stackSlots, pieces := (s.taken k i m g).pieces
      moves := { s.moves with
        slots := s.moves.slots.set i (some { m with progress := .lifted g s.now false }) } } := by
  have hleave := leaveSource_frame m (s.setMove i (some { m with progress := .lifted g s.now false }))
  exact congrArg (fun v : State => { v with pieces := (s.taken k i m g).pieces }) hleave

theorem State.taken_piece (s : State) (k : CraneId) (i : SlotId) (m : Move) (g : Grant) (n : Nat) :
    (s.taken k i m g).piece n =
      if n = m.piece then (s.piece m.piece).map (Piece.lift k s.now (s.sourceMaturity m)) else s.piece n := by
  have hpieces : ∀ n, (leaveSource m (s.setMove i (some { m with progress := .lifted g s.now false }))).piece n =
      s.piece n := fun n => by
    rw [State.piece, leaveSource_frame]
    rfl
  rw [State.taken, State.modPiece_piece _ (Piece.lift_id _ _ _), hpieces, hpieces]

theorem leaveSource_stack (m : Move) (s : State) (n : StackId) : (leaveSource m s).stack n = (s.stack n).map fun z =>
    if m.source = .stack n then { z with contents := z.contents.filter (· ≠ m.piece) } else z := by
  cases hsource : m.source with
  | bed b =>
    have hleave : leaveSource m s = unlistPiece b m.piece s := by rw [leaveSource, hsource]
    rw [hleave]
    change s.stack n = _
    cases s.stack n <;> simp
  | stack j =>
    have hleave : leaveSource m s = pullPiece j m.piece s := by rw [leaveSource, hsource]
    rw [hleave, pullPiece, State.modStack_stack]
    simp only [filter_bne, Source.stack.injEq]

/-- The beds and the heat after a lift from a bed (R114, R148). -/
theorem liftMove_bed {b : BedId} {z : Bed} (hsource : m.source = .bed b) (hz : s.bed b = some z) :
    let l := z.cycle.pieces.filter (· ≠ m.piece)
    if z.cycle.state = .stripping ∧ l = [] then
      (liftMove k i m g s).st.bed b = some z.cleared ∧
        (s.ctl = .running → (liftMove k i m g s).st.budget.lastAllocation = some s.now)
    else (liftMove k i m g s).st.beds = s.beds.set b (some { z with cycle := { z.cycle with pieces := l } }) ∧
      (liftMove k i m g s).st.budget = s.budget := by
  have hframe := s.taken_frame k i m g
  have hsettle : liftMove k i m g s = settleBed b (s.taken k i m g).event := by
    rw [liftMove_eq, settleSource, hsource]
  have hbeds : (s.taken k i m g).beds = (unlistPiece b m.piece (s.setMove i
      (some { m with progress := .lifted g s.now false }))).beds := by
    rw [State.taken, leaveSource, hsource]
    rfl
  rw [hsettle]
  exact settleBed_unlisted (hbeds.trans (unlistPiece_beds (s := s.setMove i _) hz m.piece))
    (congrArg State.budget hframe :) (congrArg (fun v : State => v.now) hframe :) (congrArg State.ctl hframe :)

theorem liftMove_offBed (hsource : ∀ b, m.source ≠ .bed b) :
    (liftMove k i m g s).st.beds = s.beds ∧ (liftMove k i m g s).st.budget = s.budget := by
  cases hm : m.source with
  | bed b => exact absurd hm (hsource b)
  | stack j =>
    have hlift : liftMove k i m g s = (s.taken k i m g).event := by rw [liftMove_eq, settleSource, hm]
    rw [hlift]
    refine ⟨?_, (congrArg State.budget (s.taken_frame k i m g) :)⟩
    change (s.taken k i m g).beds = _
    rw [State.taken, leaveSource, hm]
    rfl

/-- The rest of what a lift leaves: the table, the cranes, the registry and the stacks. -/
theorem liftMove_rest (k : CraneId) (i : SlotId) (m : Move) (g : Grant) (s : State) :
    (liftMove k i m g s).st.moves =
        { s.moves with slots := s.moves.slots.set i (some { m with progress := .lifted g s.now false }) } ∧
      (liftMove k i m g s).st.cranes = s.cranes ∧
      (∀ n, (liftMove k i m g s).st.piece n =
        if n = m.piece then (s.piece m.piece).map (Piece.lift k s.now (s.sourceMaturity m)) else s.piece n) ∧
      ∀ n, (liftMove k i m g s).st.stack n = (s.stack n).map fun z =>
        if m.source = .stack n then { z with contents := z.contents.filter (· ≠ m.piece) } else z := by
  have hframe := s.taken_frame k i m g
  have hsettle := settleSource_frame m (s.taken k i m g).event
  rw [liftMove_eq]
  refine ⟨(congrArg State.moves hsettle :).trans (congrArg State.moves hframe :),
    (congrArg State.cranes hsettle :).trans (congrArg State.cranes hframe :), fun n => ?_, fun n => ?_⟩
  · rw [State.piece, (congrArg State.pieces hsettle :)]
    exact s.taken_piece k i m g n
  · rw [State.stack, (congrArg State.stackSlots hsettle :)]
    exact leaveSource_stack m (s.setMove i _) n

/-- Settles O41: the answers that change nothing, then the lift. -/
theorem liftedTakesThePieceOffItsSource : Obligations.LiftedTakesThePieceOffItsSource := by
  unfold Obligations.LiftedTakesThePieceOffItsSource
  intro p tag k e i id s hd run stop
  have htakes : s.takes p .lifted := hd.takes rfl
  have hrule : craneReport p k i (ruleLifted id) s = ruleLifted id k i s := craneReport_own hd _
  refine ⟨fun hnone => htakes.refuses (hrule.trans ?_) rfl, fun m g hm hg hk => ⟨fun hid =>
    htakes.refuses (hrule.trans (ruleLifted_wrongPiece hm hg hk hid)) rfl, fun hid hlifted => ?_,
    fun hid hgranted => ?_⟩⟩
  · cases hm : s.move i with
    | none => exact ruleLifted_none hm
    | some m =>
      cases hg : m.grant? with
      | none => exact ruleLifted_queued hm hg
      | some g => exact ruleLifted_other hm hg (hnone m hm g hg)
  · refine (htakes.run (rule := craneReport p k i (ruleLifted id)) rfl).trans (congrArg _ ?_)
    rw [hrule, ruleLifted_again hm hg hk hid hlifted, respond_accept _ _ _ _ _ _ rfl]
  · replace hrule := hrule.trans (ruleLifted_granted hm hgranted hk hid)
    subst hid
    have hsettled := respond_settled p tag .lifted (liftMove k i m g s) .empty
    have htx := respond_tx p tag .lifted (liftMove k i m g s) .empty
    have hrun : run = .next (respond p tag RequestKind.lifted.code (acceptEvent (liftMove k i m g s) .empty)) :=
      (htakes.run rfl).trans (by rw [hrule])
    obtain ⟨hmoves, hcranes, hpiece, hstack⟩ := liftMove_rest k i m g s
    generalize respond p tag RequestKind.lifted.code (acceptEvent (liftMove k i m g s) .empty) = t
      at hsettled htx hrun
    refine ⟨t, hrun, htx, hsettled.moves.trans hmoves, (congrArg State.cranes hsettled.frame :).trans hcranes,
      fun n hn => ?_, fun x hx => ?_, fun n => (hsettled.stack n).trans (hstack n), fun b z hsource hz => ?_,
      fun hsource => ?_⟩
    · rw [hsettled.piece, hpiece, if_neg hn]
    · obtain ⟨hloc, hmove, hhold, hready, hstate⟩ := Piece.lift_kept k s.now (s.sourceMaturity m) x
      refine ⟨x.lift k s.now (s.sourceMaturity m), ?_, hloc, hmove, hhold, hready, hstate,
        fun b z hsource hz hscrap => ?_, fun n hsource => ?_⟩
      · rw [hsettled.piece, hpiece, if_pos rfl, hx]
        rfl
      · have hmaturity : s.sourceMaturity m = some z.maturity := by
          rw [State.sourceMaturity, hsource]
          dsimp only
          rw [hz]
          rfl
        rw [hmaturity]
        exact Piece.lift_bed k s.now z.maturity hscrap
      · have hmaturity : s.sourceMaturity m = none := by rw [State.sourceMaturity, hsource]
        rw [hmaturity]
        exact Piece.lift_stack k s.now x
    · rw [hsettled.bed, hsettled.beds, hsettled.budget]
      obtain ⟨hctl, -⟩ := hd
      have hbed := liftMove_bed (k := k) (i := i) (g := g) hsource hz
      simpa only [hctl, forall_const] using hbed
    · rw [hsettled.beds, hsettled.budget]
      exact liftMove_offBed hsource

end Sys2Proof.Machine
end

section
/-! PLACED and ABORT_MOVE (O42, O43). -/

namespace Sys2Proof.Machine

variable {s t u : State} {n id : Nat} {p : PortId} {tag : Byte} {k : CraneId} {e : Enrolment} {i : SlotId} {m : Move}
  {g : Grant} {x : Piece} {onto : StackId}

theorem State.modCrane_modCrane (s : State) (k : CraneId) (f g : Crane → Crane) :
    (s.modCrane k f).modCrane k g = s.modCrane k fun c => g (f c) := by
  simp [State.modCrane]

/-- The state of a set-down piece by the kind of its stack (R128). -/
def StackKind.stage (c : StackKind) : PieceState := if c = .dispatch then .dispatchStaged else .stocked

theorem Piece.setDown_eq (i : StackId) (c : StackKind) (x : Piece) : x.setDown i c =
    { x with location := .stack i, state := if x.state = .scrap then .scrap else c.stage } := by
  cases c <;> rfl

/-- The state at the end of a move, before its allocation (R128). -/
def State.setsDown (s : State) (k : CraneId) (i : SlotId) (m : Move) (onto : StackId) (c : StackKind)
    (how : Ending) : State :=
  (idleCrane k (leaveTable i m ((pushPiece onto m.piece (fewerIncoming m.dest s)).modPiece m.piece
    (Piece.setDown onto c)))).modCrane k fun c =>
      { c with lastMove := some ⟨i, m.piece, onto, s.stackHeight onto + 1, how⟩ }

theorem endMove_eq (k : CraneId) (i : SlotId) (m : Move) (onto : StackId) (c : StackKind) (how : Ending) (s : State) :
    endMove k i m onto c how s = allocateRunning ((s.setsDown k i m onto c how).event.see (.moveCompleted k m.requester)) :=
  rfl

theorem State.setsDown_eq (s : State) (k : CraneId) (i : SlotId) (m : Move) (onto : StackId) (c : StackKind)
    (how : Ending) :
    s.setsDown k i m onto c how = s.ended k i m onto (s.stackHeight onto + 1) c.stage how := by
  have hpieces : ((s.pieces.map fun z => if z.id = m.piece then z.setDown onto c else z).map fun z =>
      if z.id = m.piece then { z with move := none } else z) = s.pieces.map fun z =>
        if z.id = m.piece then
          { z with
            location := .stack onto
            state := if z.state = .scrap then .scrap else c.stage
            move := none }
        else z := by
    rw [List.map_map]
    refine List.map_congr_left fun z _ => ?_
    by_cases hz : z.id = m.piece <;> simp [hz, Piece.setDown_eq]
  rw [State.setsDown, idleCrane, State.modCrane_modCrane, leaveTable_eq, State.modPiece_eq, State.ended, ← hpieces]
  rfl

/-- An event of RUNNING that ends in an allocation, answered with any result that is no refusal. -/
theorem respond_allocates {ev : Event} (hctl : ev.st.ctl = .running) (p : PortId) (tag : Byte) (c : RequestKind)
    (r : Result) (a : Answer) (hr : r.isRefusal = false := by rfl) :
    (ev.st.answered p tag c r a).allocatesTo (respond p tag c.code ⟨allocateRunning ev, r, a⟩) := by
  have h : respond p tag c.code ⟨allocate ev, r, a⟩ = (allocate (ev.upd fun s => s.answered p tag c r a)).close := by
    rw [respond_event _ _ _ _ _ hr, ← allocate_answered]
    rfl
  rw [allocateRunning_running hctl, h]
  exact (allocate_allocatesTo (ev.upd fun s => s.answered p tag c r a)).close

/-- The end of a move in RUNNING, answered (R128, R149, R151). -/
theorem respond_endMove (hctl : s.ctl = .running) {y : Stack} (hy : s.stack onto = some y) (c : StackKind)
    (how : Ending) (p : PortId) (tag : Byte) (q : RequestKind) (r : Result) (hr : r.isRefusal = false := by rfl) :
    ((s.ended k i m onto (y.contents.length + 1) c.stage how).answered p tag q r
        (.setDown onto (y.contents.length + 1))).allocatesTo
      (respond p tag q.code ⟨endMove k i m onto c how s, r, .setDown onto (s.stackHeight onto + 1)⟩) := by
  have hheight : s.stackHeight onto = y.contents.length := by rw [State.stackHeight, hy, Option.map_some, Option.getD_some]
  rw [endMove_eq, State.setsDown_eq, hheight]
  exact respond_allocates hctl p tag q r _ hr

/-! ### The last completed move -/

theorem repeatLast_again {l : LastMove} (hidle : (s.crane k).held = none) (hl : (s.crane k).lastMove = some l)
    (hi : l.slot = i) (r : Result) : repeatLast k i r s = ⟨s.event, .repeated, .setDown l.stack l.tier⟩ := by
  rw [repeatLast, hidle, hl]
  exact if_pos hi

theorem repeatLast_other (h : ∀ l, (s.crane k).lastMove = some l → (s.crane k).held ≠ none ∨ l.slot ≠ i) (r : Result) :
    repeatLast k i r s = refuse s r := by
  unfold repeatLast
  split
  · next l hidle hl => exact if_neg ((h l hl).resolve_left fun hheld => hheld hidle)
  · rfl

/-! ### PLACED -/

theorem rulePlaced_lifted {minute : Int} {flag : Bool} (hm : s.move i = some m)
    (hlifted : m.progress = .lifted g minute flag) (hk : g.crane = k) : rulePlaced k i s =
      acceptEvent (endMove k i m m.dest m.kind.placedAs .placed s) (.setDown m.dest (s.stackHeight m.dest + 1)) := by
  rw [rulePlaced, hm]
  dsimp only
  rw [hlifted]
  exact if_neg (not_not.mpr hk)

theorem rulePlaced_other
    (h : ∀ m g minute flag, s.move i = some m → m.progress = .lifted g minute flag → g.crane ≠ k) :
    rulePlaced k i s = repeatLast k i .wrongState s := by
  unfold rulePlaced
  split
  · rfl
  · next m hm =>
    split
    · rfl
    · rfl
    · next g minute flag hlifted => exact if_pos (h m g minute flag hm hlifted)

theorem MoveKind.placedAs_stage (c : MoveKind) :
    c.placedAs.stage = if c = .load then .dispatchStaged else .stocked := by
  cases c <;> rfl

/-- Settles O42: the end of a lifted move, or the crane's last completed move. -/
theorem placedEndsALiftedMove : Obligations.PlacedEndsALiftedMove := by
  unfold Obligations.PlacedEndsALiftedMove
  intro p tag k e i s hd run
  have htakes : s.takes p .placed := hd.takes rfl
  have hrule : craneReport p k i rulePlaced s = rulePlaced k i s := craneReport_own hd _
  refine ⟨fun m g minute flag y hm hlifted hk hy => ?_, fun hother => ⟨fun l hidle hl hi => ?_, fun hlast => ?_⟩⟩
  · refine ⟨_, htakes.run (rule := craneReport p k i rulePlaced) rfl, ?_⟩
    rw [hrule, rulePlaced_lifted hm hlifted hk, ← MoveKind.placedAs_stage]
    exact respond_endMove hd.1 hy m.kind.placedAs .placed p tag .placed .ok
  · refine (htakes.run (rule := craneReport p k i rulePlaced) rfl).trans (congrArg _ ?_)
    rw [hrule, rulePlaced_other hother, repeatLast_again hidle hl hi, respond_accept _ _ _ _ _ _ rfl]
  · exact htakes.refuses (hrule.trans ((rulePlaced_other hother).trans (repeatLast_other hlast _))) rfl

/-! ### ABORT_MOVE -/

theorem ruleAbortMove_granted (hm : s.move i = some m) (hgranted : m.progress = .granted g) (hk : g.crane = k)
    (o : Option Nat) : ruleAbortMove o k i s = handBack i m g s := by
  rw [ruleAbortMove, hm]
  dsimp only
  rw [hgranted]
  exact if_neg (not_not.mpr hk)

theorem ruleAbortMove_lifted {minute : Int} {flag : Bool} (hm : s.move i = some m)
    (hlifted : m.progress = .lifted g minute flag) (hk : g.crane = k) (o : Option Nat) :
    ruleAbortMove o k i s = divert k i m g o s := by
  rw [ruleAbortMove, hm]
  dsimp only
  rw [hlifted]
  exact if_neg (not_not.mpr hk)

theorem ruleAbortMove_other (h : ∀ m g, s.move i = some m → m.grant? = some g → g.crane ≠ k) (o : Option Nat) :
    ruleAbortMove o k i s = repeatLast k i .tooLate s := by
  unfold ruleAbortMove
  split
  · rfl
  · next m hm =>
    split
    · rfl
    · next g hg => exact if_pos (h m g hm (by rw [Move.grant?, hg]))
    · next g minute flag hg => exact if_pos (h m g hm (by rw [Move.grant?, hg]))

/-- A GRANTED move handed back in RUNNING, answered (R150). -/
theorem respond_handBack (hctl : s.ctl = .running) (hk : g.crane = k) (p : PortId) (tag : Byte) :
    ((((s.setMove i (some { m with progress := .queued })).modStack m.dest fun y =>
      { y with incoming := y.incoming - 1 }).modCrane k fun c =>
        { c with held := none, reservation := none }).answered p tag .abortMove .ok .empty).allocatesTo
      (respond p tag RequestKind.abortMove.code (handBack i m g s)) := by
  subst hk
  exact respond_allocateRunning (e := (requeue i m g s).event) hctl p tag .abortMove .empty

theorem divert_noStack {o : Option Nat} (h : ∀ n, o = some n → 96 ≤ n) : divert k i m g o s = refuse s .badValue := by
  have hnone : o.bind (slot? 96) = none := by
    cases o with
    | none => rfl
    | some n => exact slot?_none (h n rfl)
  rw [divert, hnone]

theorem divert_undefined (h : s.stack onto = none) : divert k i m g (some onto.val) s = refuse s .noSuch := by
  rw [divert, Option.bind_some, slot?_val]
  dsimp only
  rw [h]

/-- The set-down checks of R151 in their order. -/
theorem divert_some {y : Stack} (hy : s.stack onto = some y) : divert k i m g (some onto.val) s =
    if onto ≠ m.dest ∧ ¬ (y.defn.isOpen = true ∧ y.defn.kind = .stock) then refuse s .badValue
    else if onto ≠ m.dest ∧ y.defn.tierLimit ≤ y.contents.length + y.incoming then refuse s .noRoom
    else if ¬ (g.spanLow ≤ y.defn.bay ∧ y.defn.bay ≤ g.spanHigh) then refuse s .badValue
    else ⟨endMove k i m onto y.defn.kind .diverted s, .diverted, .setDown onto (s.stackHeight onto + 1)⟩ := by
  rw [divert, Option.bind_some, slot?_val]
  dsimp only
  rw [hy]
  simp only [Stack.hasRoom, between_iff, decide_eq_true_eq, Nat.not_lt]

theorem optional?_ofBool (given : Bool) (n : Nat) :
    optional? (if given then 1 else 0) n = some (if given then some n else none) := by
  cases given <;> rfl

/-- Settles O43: the grant handed back, the lift diverted, the last completed move, and the bad flag. -/
theorem abortMoveHandsBackOrDiverts : Obligations.AbortMoveHandsBackOrDiverts := by
  unfold Obligations.AbortMoveHandsBackOrDiverts
  intro p tag k e i given n s hd run stop
  have htakes : s.takes p .abortMove := hd.takes rfl
  have hrule : takeAbortMove p k i (if given then 1 else 0) n s =
      ruleAbortMove (if given then some n else none) k i s := by
    rw [takeAbortMove, craneReport_own hd, optional?_ofBool]
  refine ⟨fun m g hm hgranted hk => ?_, fun m g minute flag hm hlifted hk => ?_, fun hother =>
    ⟨fun l hidle hl hi => ?_, fun hlast => ?_⟩, fun a ha => ?_⟩
  · refine ⟨_, htakes.run (rule := takeAbortMove p k i (if given then 1 else 0) n) rfl, ?_⟩
    rw [hrule, ruleAbortMove_granted hm hgranted hk]
    exact respond_handBack hd.1 hk p tag
  · rw [ruleAbortMove_lifted hm hlifted hk] at hrule
    refine ⟨fun hbad => htakes.refuses (hrule.trans (divert_noStack fun n' hn' => ?_)) rfl, fun onto hgiven hn =>
      ⟨fun hnone => ?_, fun y hy => ?_⟩⟩
    · split at hn'
      · next h =>
        cases hn'
        exact Nat.not_lt.mp fun hlt => hbad ⟨h, hlt⟩
      · cases hn'
    · refine htakes.refuses (hrule.trans ?_) rfl
      rw [if_pos hgiven, ← hn]
      exact divert_undefined hnone
    · rw [show (if given = true then some n else none) = some onto.val by rw [if_pos hgiven, hn],
        divert_some hy] at hrule
      refine htakes.refusesIf hrule rfl fun _ hrule => htakes.refusesIf hrule rfl fun _ hrule =>
        htakes.refusesIf hrule rfl fun _ hrule => ⟨_, htakes.run rfl, ?_⟩
      rw [hrule]
      exact respond_endMove hd.1 hy y.defn.kind .diverted p tag .abortMove .diverted
  · refine (htakes.run (rule := takeAbortMove p k i (if given then 1 else 0) n) rfl).trans (congrArg _ ?_)
    rw [hrule, ruleAbortMove_other hother, repeatLast_again hidle hl hi, respond_accept _ _ _ _ _ _ rfl]
  · exact htakes.refuses (hrule.trans ((ruleAbortMove_other hother _).trans (repeatLast_other hlast _))) rfl
  · refine htakes.refuses (rule := takeAbortMove p k i a n) ?_ rfl
    rw [takeAbortMove, craneReport_own hd, optional?_none ha]

end Sys2Proof.Machine
end

section
/-! NEXT_MOVE with a grant (O45). -/

namespace Sys2Proof.Machine

variable {s t u : State} {n : Nat} {p : PortId} {k : CraneId} {e : Enrolment} {bay : Nat} {i : SlotId} {m : Move}

/-! ### Selection -/

theorem foldl_oldest_le (l : List (SlotId × Move)) (x y : SlotId × Move) (hy : y = x ∨ y ∈ l) :
    s.age y.2 ≤ s.age (l.foldl (fun a b => if s.age a.2 < s.age b.2 then b else a) x).2 := by
  induction l generalizing x y with
  | nil =>
    obtain rfl := hy.resolve_right List.not_mem_nil
    exact le_refl _
  | cons z l ih =>
    have hstep : ∀ w, w = x ∨ w = z → s.age w.2 ≤ s.age (if s.age x.2 < s.age z.2 then z else x).2 := by
      rintro w (rfl | rfl) <;> split <;> omega
    obtain rfl | hmem := hy
    · exact (hstep _ (.inl rfl)).trans (ih _ _ (.inl rfl))
    · obtain rfl | hmem := List.mem_cons.mp hmem
      · exact (hstep _ (.inr rfl)).trans (ih _ _ (.inl rfl))
      · exact ih _ _ (.inr hmem)

/-- The move older than every other of a list is its oldest. -/
theorem State.oldest_eq {l : List (SlotId × Move)} {x : SlotId × Move} (hx : x ∈ l)
    (h : ∀ y ∈ l, y ≠ x → s.age y.2 < s.age x.2) : s.oldest l = some x := by
  cases l with
  | nil => cases hx
  | cons a l =>
    obtain ⟨z, hz⟩ : ∃ z, s.oldest (a :: l) = some z := ⟨_, rfl⟩
    have hle : s.age x.2 ≤ s.age z.2 := by
      obtain rfl := Option.some.inj hz
      exact foldl_oldest_le l a x (List.mem_cons.mp hx)
    rw [hz]
    by_contra hne
    exact absurd (h z (State.oldest_mem hz) fun heq => hne (by rw [heq])) (by omega)

theorem State.offers.unique {m' : Move} (h : s.offers k e bay i m) (h' : s.offers k e bay i m') : m' = m :=
  Option.some.inj (h'.1.symm.trans h.1)

/-- Selection takes the move picked (R163). -/
theorem State.select_picks (h : s.picks k e bay s.arbiter.mode i m) : s.select k e bay = some (i, m) := by
  obtain ⟨hoffers, holder⟩ := h
  have hmem := State.mem_eligibleMoves.mpr hoffers
  have hother : ∀ y ∈ s.eligibleMoves k e bay, y ≠ (i, m) → y.1 ≠ i ∧ s.offers k e bay y.1 y.2 := by
    rintro ⟨j, n⟩ hy hne
    have hj := State.mem_eligibleMoves.mp hy
    refine ⟨fun hij => hne ?_, hj⟩
    subst hij
    rw [hoffers.unique hj]
  rw [State.select]
  by_cases hserved : servedIn s.arbiter.mode m.kind
  · have holdest : s.oldest ((s.eligibleMoves k e bay).filter fun x => s.arbiter.mode.serves x.2.kind) =
        some (i, m) := by
      refine State.oldest_eq (List.mem_filter.mpr ⟨hmem, (ServiceMode.serves_iff _ _).mpr hserved⟩) fun y hy hne => ?_
      obtain ⟨hy, hserves⟩ := List.mem_filter.mp hy
      obtain ⟨hj, hoffer⟩ := hother y hy hne
      exact (holder y.1 y.2 hoffer hj).1 hserved ((ServiceMode.serves_iff _ _).mp hserves)
    rw [holdest]
  · have hnone : (s.eligibleMoves k e bay).filter (fun x => s.arbiter.mode.serves x.2.kind) = [] := by
      refine List.filter_eq_nil_iff.mpr fun y hy hserves => ?_
      rw [ServiceMode.serves_iff] at hserves
      by_cases hne : y = (i, m)
      · subst hne
        exact hserved hserves
      · obtain ⟨hj, hoffer⟩ := hother y hy hne
        exact ((holder y.1 y.2 hoffer hj).2 hserved).1 hserves
    rw [hnone]
    refine State.oldest_eq hmem fun y hy hne => ?_
    obtain ⟨hj, hoffer⟩ := hother y hy hne
    exact ((holder y.1 y.2 hoffer hj).2 hserved).2

/-! ### The starve counts -/

/-- A grant of a move leaves the line of the class it does not count for. -/
theorem State.line_setMove {g : Grant} {mode : ServiceMode} (hm : s.move i = some m)
    (hkind : mode.counts m.kind = false) :
    (s.setMove i (some { m with progress := .granted g })).line mode = s.line mode := by
  have hnot := mt (mode.counts_iff m.kind).mpr (Bool.eq_false_iff.mp hkind)
  rw [State.line, State.line]
  refine congrArg Finset.card (Finset.filter_congr fun j _ => ?_)
  rw [State.setMove_move]
  by_cases hij : i = j
  · subst hij
    rw [if_pos rfl, hm]
    simp [hnot]
  · rw [if_neg hij]

/-- The state of a grant before the starve counts follow (R147, R164). -/
def State.grants (s : State) (k : CraneId) (e : Enrolment) (bay : Nat) (i : SlotId) (m : Move) : State :=
  ((s.setMove i (some { m with progress := .granted (s.grantOf k e bay m) })).modStack m.dest fun x =>
    { x with incoming := x.incoming + 1 }).modCrane k fun c =>
      { c with held := some (s.heldAt i m), reservation := some ⟨e.rating, i⟩ }

theorem grantMove_eq (k : CraneId) (e : Enrolment) (bay : Nat) (i : SlotId) (m : Move) (s : State) :
    grantMove k e bay i m s = starveAfter m.kind (s.grants k e bay i m) := rfl

/-- The starve counts after a grant, by the lines as they stand (R168). -/
theorem starveAfter_eq (c : MoveKind) (s : State) :
    starveAfter c s = { s with arbiter := s.starved c s.arbiter } := by
  cases c <;> simp only [starveAfter, MoveKind.cls, State.starved, State.waiting_eq, ServiceMode.other,
    Arbiter.setStarve, Arbiter.starve]
  all_goals congr 1; split <;> rfl

theorem State.grants_starved (hm : s.move i = some m) :
    (s.grants k e bay i m).starved m.kind s.arbiter = s.starved m.kind s.arbiter := by
  have hline : ∀ mode : ServiceMode, mode.counts m.kind = false → (s.grants k e bay i m).line mode = s.line mode :=
    fun mode hmode => State.line_setMove hm hmode
  cases hkind : m.kind <;> simp only [State.starved]
  case strip => rw [hline .dispatch (by rw [hkind]; rfl)]
  case load | ret => rw [hline .strip (by rw [hkind]; rfl)]

/-! ### The figures of a grant -/

theorem State.tierAt_eq {y : Stack} (hy : s.stack m.dest = some y) :
    s.tierAt m.dest = y.contents.length + y.incoming + 1 := by
  rw [State.tierAt, hy]
  rfl

theorem State.reservations_eq (s : State) : s.reservations = ∑ j : CraneId, (s.crane j).reserved := rfl

/-- The reservations after a grant to a crane that holds none (R80, R83). -/
theorem State.grants_reservations (h : (s.crane k).reservation = none) :
    (s.grants k e bay i m).reservations = s.reservations + e.rating := by
  have hterm : ∀ j : CraneId, ((s.grants k e bay i m).crane j).reserved =
      (s.crane j).reserved + if k = j then e.rating else 0 := fun j => by
    rw [State.grants, State.modCrane_crane]
    by_cases hj : k = j
    · subst hj
      rw [if_pos rfl, if_pos rfl]
      simp [Crane.reserved, h]
    · rw [if_neg hj, if_neg hj]
      rfl
  rw [State.reservations_eq, State.reservations_eq]
  simp only [hterm, Finset.sum_add_distrib, Finset.sum_ite_eq, Finset.mem_univ, if_true]

theorem State.sourceReport_bed {b : BedId} {x : Bed} (hsource : m.source = .bed b) (hx : s.bed b = some x) :
    s.sourceReport m = .bed b x.defn.firstBay x.defn.lastBay := by
  rw [State.sourceReport, hsource]
  simp [State.sourceSpan, hx]

theorem State.sourceReport_stack {j : StackId} {x : Stack} (hsource : m.source = .stack j) (hx : s.stack j = some x)
    (hmem : m.piece ∈ x.contents) :
    s.sourceReport m = .stack j x.defn.bay (x.contents.findIdx (fun y => decide (y = m.piece)) + 1) := by
  rw [State.sourceReport, hsource]
  simp [hx, placeIn_mem hmem]

/-- The source a grant answers with, by the source of the move (R164). -/
theorem State.suits.sourceReport_bed (h : s.suits e m) {b : BedId} (hm : m.source = .bed b) :
    ∃ x, s.bed b = some x ∧ s.sourceReport m = .bed b x.defn.firstBay x.defn.lastBay := by
  obtain ⟨hsource, -⟩ := h
  rw [hm] at hsource
  obtain ⟨x, hx, -⟩ := hsource
  exact ⟨x, hx, State.sourceReport_bed hm hx⟩

theorem State.suits.sourceReport_stack (h : s.suits e m) {j : StackId} (hm : m.source = .stack j) :
    ∃ x, s.stack j = some x ∧ s.sourceReport m = .stack j x.defn.bay (x.contents.findIdx (· = m.piece) + 1) := by
  obtain ⟨hsource, -⟩ := h
  rw [hm] at hsource
  obtain ⟨⟨x, hx, htop⟩, -⟩ := hsource
  exact ⟨x, hx, State.sourceReport_stack hm hx (List.mem_of_getLast? htop)⟩

/-! ### The grant's event -/

/-- What the counters see of a grant (R163, R185). -/
def Arbiter.grantSeen (a : Arbiter) (k : CraneId) (m : Move) : List Happening :=
  .moveGranted k m.requester :: if a.mode.serves m.kind then [] else [.offMode k m.requester]

theorem makeGrant_eq (k : CraneId) (e : Enrolment) (bay : Nat) (i : SlotId) (m : Move) (s : State)
    (l : List Happening) : makeGrant k e bay i m ⟨s, l⟩ =
      acceptEvent (allocateRunning ⟨grantMove k e bay i m s, l ++ s.arbiter.grantSeen k m⟩)
        (.grant ((grantMove k e bay i m s).grantReport (s.heldAt i m)
          { m with progress := .granted (s.grantOf k e bay m) })) := by
  rw [makeGrant, Arbiter.grantSeen]
  dsimp only
  split <;> simp [Event.see, Event.upd]

theorem seeking_grantOf {lo hi : Nat} (hspan : s.spanOf bay m = (lo, hi)) :
    (s.seeking k bay).grantOf k e bay m = ⟨k, s.now, e.rating, lo, hi, s.settings.clearance⟩ := by
  rw [State.grantOf, show (s.seeking k bay).spanOf bay m = (lo, hi) from hspan]
  rfl

theorem seeking_heldAt {y : Stack} (hy : s.stack m.dest = some y) :
    (s.seeking k bay).heldAt i m = ⟨i, y.contents.length + y.incoming + 1, s.sourceReport m⟩ := by
  rw [State.heldAt, State.tierAt_eq (s := s.seeking k bay) hy]
  rfl

/-- The state of a grant to an IDLE crane, field by field (R147, R158, R164). -/
theorem seeking_grant {y : Stack} {lo hi : Nat} (hm : s.move i = some m) (hy : s.stack m.dest = some y)
    (hspan : s.spanOf bay m = (lo, hi)) (hidle : (s.crane k).reservation = none) :
    (grantMove k e bay i m (s.seeking k bay)).moves = 
        { s.moves with
          slots := s.moves.slots.set i
            (some { m with progress := .granted ⟨k, s.now, e.rating, lo, hi, s.settings.clearance⟩ }) } ∧
      (grantMove k e bay i m (s.seeking k bay)).stackSlots =
        s.stackSlots.set m.dest (some { y with incoming := y.incoming + 1 }) ∧
      (grantMove k e bay i m (s.seeking k bay)).cranes = s.cranes.set k
        { s.crane k with
          held := some ⟨i, y.contents.length + y.incoming + 1, s.sourceReport m⟩
          lastBay := some bay
          reservation := some ⟨e.rating, i⟩ } ∧
      (grantMove k e bay i m (s.seeking k bay)).arbiter = s.starved m.kind s.turned ∧
      (grantMove k e bay i m (s.seeking k bay)).reservations = s.reservations + e.rating := by
  have hstarve : grantMove k e bay i m (s.seeking k bay) =
      { (s.seeking k bay).grants k e bay i m with arbiter := s.starved m.kind s.turned } := by
    rw [grantMove_eq, starveAfter_eq]
    exact congrArg (fun a => { (s.seeking k bay).grants k e bay i m with arbiter := a })
      (State.grants_starved (s := s.seeking k bay) hm)
  have hcrane : (s.seeking k bay).crane k = { s.crane k with lastBay := some bay } := by
    change (s.modCrane k fun c => { c with lastBay := some bay }).crane k = _
    rw [State.modCrane_crane, if_pos rfl]
  have hreservation : ((s.seeking k bay).crane k).reservation = none := by rw [hcrane, hidle]
  have hreservations : (s.seeking k bay).reservations = s.reservations :=
    s.modCrane_reservations (k := k) (f := fun c => { c with lastBay := some bay }) fun _ => rfl
  rw [hstarve]
  refine ⟨?_, ?_, ?_, rfl, (State.grants_reservations (s := s.seeking k bay) hreservation).trans (by rw [hreservations])⟩
  · rw [← seeking_grantOf hspan]
    rfl
  · change s.stackSlots.set m.dest ((s.stack m.dest).map _) = _
    rw [hy]
    rfl
  · have hcranes : (s.seeking k bay).cranes = s.cranes.set k { s.crane k with lastBay := some bay } := rfl
    change (s.seeking k bay).cranes.set k { (s.seeking k bay).crane k with
      held := some ((s.seeking k bay).heldAt i m), reservation := some ⟨e.rating, i⟩ } = _
    rw [seeking_heldAt hy, hcrane, hcranes, Vector.set_set]

/-- What a grant leaves as it was. -/
theorem seeking_grant_kept (k : CraneId) (e : Enrolment) (bay : Nat) (i : SlotId) (m : Move) (s : State) :
    (grantMove k e bay i m (s.seeking k bay)).pieces = s.pieces ∧
      (grantMove k e bay i m (s.seeking k bay)).beds = s.beds ∧
      (grantMove k e bay i m (s.seeking k bay)).limits = s.limits ∧
      (grantMove k e bay i m (s.seeking k bay)).budget = s.budget ∧
      (grantMove k e bay i m (s.seeking k bay)).clock = s.clock ∧
      (grantMove k e bay i m (s.seeking k bay)).ctl = s.ctl := by
  rw [grantMove_eq, starveAfter_eq]
  simp [State.grants, State.seeking]

/-- An answered allocation writes the beds, the heat, the ports and the counters. -/
theorem State.Settled.allocated_frame {ev : Event} (h : (allocate ev).st.Settled t) :
    t = { ev.st with beds := t.beds, budget := t.budget, ports := t.ports, counters := t.counters } := by
  have hframe := allocate_frame ev
  generalize (allocate ev).st = v at h hframe
  rw [h.beds, h.budget]
  exact h.frame.trans (congrArg (fun v : State => { v with ports := t.ports, counters := t.counters }) hframe)

/-- The heat of an answered allocation (R85, R86). -/
theorem State.Settled.allocated_shares {ev : Event} (h : (allocate ev).st.Settled t) :
    t.budget.lastAllocation = some ev.st.now ∧
      shares ev.st.guardAt ev.st.demandAt (ev.st.limitNow - ev.st.limits.baseLoad - ev.st.reservations)
        (fun b => t.budget.granted[b]) := by
  have hlast := allocate_lastAllocation ev
  obtain ⟨-, -, hshares, -⟩ := allocate_allocatesTo ev
  generalize (allocate ev).st = v at h hlast hshares
  rw [h.budget]
  exact ⟨hlast, hshares⟩

/-- Settles O45: selection, the grant's state, its allocation and its answer. -/
theorem nextMoveGrantsTheOldestEligibleMove : Obligations.NextMoveGrantsTheOldestEligibleMove := by
  unfold Obligations.NextMoveGrantsTheOldestEligibleMove
  intro p tag k e bay s hd hsafe hlow hhigh hheld i m y z lo hi hpicks hy hz hruns tier g
  have htakes : s.takes p .nextMove := hd.takes rfl
  obtain ⟨⟨hm, -, hsuits, -, -⟩, -⟩ := id hpicks
  have hspan : s.spanOf bay m = (lo, hi) := by
    obtain ⟨-, -, ⟨a, b, hsource, -⟩, -⟩ := id hsuits
    exact (State.runsOver_iff hsource hy).mp hruns
  have hselect : (s.seeking k bay).select k e bay = some (i, m) := by
    refine State.select_picks ⟨State.seeking_offers.mpr hpicks.1, fun j n hj hne => ?_⟩
    exact hpicks.2 j n (State.seeking_offers.mp hj) hne
  obtain ⟨hmoves, hstacks, hcranes, harbiter, hreservations⟩ :=
    seeking_grant (e := e) (i := i) hm hy hspan (hsafe.none_of_idle hheld)
  obtain ⟨hpieces, hbeds, hlimits, hbudget, hclock, hctl⟩ := seeking_grant_kept k e bay i m s
  have hrule : takeNextMove p k bay s = makeGrant k e bay i m
      ⟨s.seeking k bay, if s.turned.mode = s.arbiter.mode then [] else [.modeSwitch]⟩ := by
    rw [takeNextMove_idle hd hlow hhigh hheld, findWork, evaluateSwitch_seeking, hselect]
  have hanswer : (grantMove k e bay i m (s.seeking k bay)).grantReport ((s.seeking k bay).heldAt i m)
      { m with progress := .granted ((s.seeking k bay).grantOf k e bay m) } =
      ⟨i, m.seq, m.kind, m.piece, z.mass, s.sourceReport m, m.dest, y.defn.bay, tier,
        BitVec.ofInt 32 s.now + s.clock.offset, false⟩ := by
    rw [seeking_heldAt hy, seeking_grantOf hspan, State.grantReport_eq (g := g) (y := { y with incoming := y.incoming + 1 })
      (z := z) rfl, hclock]
    · simp [tier, g]
    · rw [State.stack, hstacks]
      simp
    · rw [State.piece, hpieces]
      exact hz
  rw [makeGrant_eq, hanswer] at hrule
  generalize (if s.turned.mode = s.arbiter.mode then [] else [.modeSwitch]) ++
    (s.seeking k bay).arbiter.grantSeen k m = seen at hrule
  clear hanswer
  generalize grantMove k e bay i m (s.seeking k bay) = w at *
  generalize hreport : (Answer.grant ⟨i, m.seq, m.kind, m.piece, z.mass, s.sourceReport m, m.dest, y.defn.bay, tier,
    BitVec.ofInt 32 s.now + s.clock.offset, false⟩) = answer at hrule
  rw [allocateRunning_running (show (⟨w, seen⟩ : Event).st.ctl = .running from hctl.trans hd.1)] at hrule
  have hsettled := respond_settled p tag .nextMove (allocate ⟨w, seen⟩) answer
  have htx := respond_tx p tag .nextMove (allocate ⟨w, seen⟩) answer
  have hrun : exec (.nextMove p tag k bay) s =
      .next (respond p tag RequestKind.nextMove.code (acceptEvent (allocate ⟨w, seen⟩) answer)) :=
    (htakes.run (rule := takeNextMove p k bay) rfl).trans (by rw [hrule])
  generalize respond p tag RequestKind.nextMove.code (acceptEvent (allocate ⟨w, seen⟩) answer) = t at hsettled htx hrun
  have hframe := hsettled.allocated_frame
  obtain ⟨hlast, hshares⟩ := hsettled.allocated_shares
  refine ⟨t, s.sourceReport m, hrun, (congrArg State.moves hframe :).trans hmoves,
    (congrArg State.stackSlots hframe :).trans hstacks, (congrArg State.cranes hframe :).trans hcranes, ?_,
    (congrArg State.arbiter hframe :).trans harbiter, (congrArg State.pieces hframe :).trans hpieces, ?_, ?_,
    hreport ▸ htx⟩
  · cases hsource : m.source with
    | bed b =>
      obtain ⟨x, hx, hreport⟩ := hsuits.sourceReport_bed hsource
      exact ⟨x, hx, hreport⟩
    | stack n =>
      obtain ⟨x, hx, hreport⟩ := hsuits.sourceReport_stack hsource
      exact ⟨x, hx, hreport⟩
  · rw [hlast]
    exact congrArg (fun c : Clock => some c.runMinute) hclock
  · have hbed : ∀ b, w.bed b = s.bed b := fun b => by rw [State.bed, hbeds, State.bed]
    have hguard : w.guardAt = s.guardAt := funext fun b => by rw [State.guardAt, hbed, State.guardAt]
    have hdemand : w.demandAt = s.demandAt := funext fun b => by rw [State.demandAt, hbed, State.demandAt]
    have hlimit : w.limitNow = s.limitNow := by rw [State.limitNow, hbudget, hlimits, State.limitNow]
    rwa [hguard, hdemand, hlimit, hlimits, hreservations, ← Nat.sub_sub] at hshares

end Sys2Proof.Machine
end

section
/-! Moves that return to QUEUED together: a fold of `requeue` over the slots of the table (R152, R156). -/

namespace Sys2Proof.Machine

variable {s t u : State} {pick : Move → Option Grant} {l : List SlotId} {i : SlotId} {m : Move} {g : Grant}

/-- The move as it stands after its slot is judged: QUEUED again when its grant is picked. -/
def Move.back (pick : Move → Option Grant) (m : Move) : Move :=
  if (pick m).isSome then { m with progress := .queued } else m

/-- The move's grant is picked and its destination is this stack. -/
def Move.lands (pick : Move → Option Grant) (n : StackId) (m : Move) : Bool := (pick m).isSome && m.dest == n

/-- A grant to this crane is picked in one of the slots of the list. -/
def State.frees (s : State) (pick : Move → Option Grant) (l : List SlotId) (k : CraneId) : Prop :=
  ∃ j ∈ l, ∃ m g, s.move j = some m ∧ pick m = some g ∧ g.crane = k

/-- `u` is `s` after the slots of the list have been judged: the picked grants have returned to QUEUED. -/
structure Requeued (pick : Move → Option Grant) (s : State) (l : List SlotId) (u : State) : Prop where
  frame : u = { s with
    moves := { s.moves with slots := u.moves.slots }
    stackSlots := u.stackSlots
    cranes := u.cranes
    ports := u.ports }
  move : ∀ j, u.move j = if j ∈ l then (s.move j).map (Move.back pick) else s.move j
  stack : ∀ n, u.stack n = (s.stack n).map fun x =>
    { x with incoming := x.incoming - (l.filter fun j => (s.move j).any (Move.lands pick n)).length }
  freed : ∀ k, s.frees pick l k → u.crane k = { s.crane k with held := none, reservation := none }
  kept : ∀ k, ¬ s.frees pick l k → u.crane k = s.crane k

theorem Requeued.nil (pick : Move → Option Grant) (s : State) : Requeued pick s [] s where
  frame := rfl
  move j := by simp
  stack n := by cases h : s.stack n <;> simp
  freed k h := by simp [State.frees] at h
  kept k _ := rfl

/-- A slot without a picked grant changes nothing. -/
theorem Requeued.stay (h : Requeued pick s l u) (hi : ∀ m, s.move i = some m → pick m = none) :
    Requeued pick s (l ++ [i]) u where
  frame := h.frame
  move j := by
    have hback : (s.move i).map (Move.back pick) = s.move i := by
      cases hm : s.move i with
      | none => rfl
      | some m => simp [Move.back, hi m hm]
    rw [h.move j]
    by_cases hj : j = i
    · subst hj
      simp [hback]
    · simp [hj]
  stack n := by
    have hlands : (s.move i).any (Move.lands pick n) = false := by
      cases hm : s.move i with
      | none => rfl
      | some m => simp [Move.lands, hi m hm]
    rw [h.stack n]
    simp [hlands]
  freed k hk := by
    refine h.freed k ?_
    obtain ⟨j, hj, m, g, hm, hg, hcrane⟩ := hk
    obtain hj | hj := List.mem_append.mp hj
    · exact ⟨j, hj, m, g, hm, hg, hcrane⟩
    · rw [List.mem_singleton.mp hj] at hm
      rw [hi m hm] at hg
      cases hg
  kept k hk := h.kept k fun ⟨j, hj, hpick⟩ => hk ⟨j, List.mem_append_left _ hj, hpick⟩

theorem requeue_frame (i : SlotId) (m : Move) (g : Grant) (s : State) : requeue i m g s =
    { s with
      moves := { s.moves with slots := (requeue i m g s).moves.slots }
      stackSlots := (requeue i m g s).stackSlots
      cranes := (requeue i m g s).cranes } := rfl

theorem requeue_stack (i : SlotId) (m : Move) (g : Grant) (s : State) (n : StackId) :
    (requeue i m g s).stack n = (s.stack n).map fun x =>
      if m.dest = n then { x with incoming := x.incoming - 1 } else x :=
  State.modStack_stack (s := s.setMove i (some { m with progress := .queued })) m.dest n _

theorem State.frees_append (s : State) (hm : s.move i = some m) (hg : pick m = some g) (k : CraneId) :
    s.frees pick (l ++ [i]) k ↔ s.frees pick l k ∨ g.crane = k := by
  constructor
  · rintro ⟨j, hj, m', g', hm', hg', hk⟩
    obtain hj | hj := List.mem_append.mp hj
    · exact .inl ⟨j, hj, m', g', hm', hg', hk⟩
    · obtain rfl := List.mem_singleton.mp hj
      obtain rfl := Option.some.inj (hm.symm.trans hm')
      obtain rfl := Option.some.inj (hg.symm.trans hg')
      exact .inr hk
  · rintro (⟨j, hj, hpick⟩ | hk)
    · exact ⟨j, List.mem_append_left _ hj, hpick⟩
    · exact ⟨i, by simp, m, g, hm, hg, hk⟩

/-- A slot with a picked grant is requeued. -/
theorem Requeued.requeue (h : Requeued pick s l u) (hm : s.move i = some m) (hg : pick m = some g) :
    Requeued pick s (l ++ [i]) (requeue i m g u) where
  frame := (requeue_frame i m g u).trans (congrArg (fun v : State => { v with
    moves := { v.moves with slots := (Machine.requeue i m g u).moves.slots }
    stackSlots := (Machine.requeue i m g u).stackSlots
    cranes := (Machine.requeue i m g u).cranes }) h.frame)
  move j := by
    rw [requeue_move, h.move j]
    by_cases hj : i = j
    · subst hj
      simp [hm, Move.back, hg]
    · simp [hj, Ne.symm hj]
  stack n := by
    rw [requeue_stack, h.stack n, Option.map_map]
    refine congrArg (fun f => (s.stack n).map f) (funext fun x => ?_)
    by_cases hn : m.dest = n <;>
      simp [hn, hm, hg, Move.lands, List.filter_append, Nat.sub_sub]
  freed k hk := by
    rw [requeue_crane]
    by_cases hl : s.frees pick l k
    · rw [h.freed k hl]
      split <;> rfl
    · rw [if_pos (((s.frees_append hm hg k).mp hk).resolve_left hl), h.kept k hl]
  kept k hk := by
    rw [s.frees_append hm hg, not_or] at hk
    rw [requeue_crane, if_neg hk.2, h.kept k hk.1]

/-- The ports are no part of it. -/
theorem Requeued.ports (h : Requeued pick s l u) (v : Vector Port 4) :
    Requeued pick s l { u with ports := v } where
  frame := congrArg (fun w : State => { w with ports := v }) h.frame
  move := h.move
  stack := h.stack
  freed := h.freed
  kept := h.kept

theorem Requeued.untouched (h : Requeued pick s l u) (hi : i ∉ l) : u.move i = s.move i := by
  rw [h.move i, if_neg hi]

theorem Requeued.enrolment (h : Requeued pick s l u) (k : CraneId) :
    (u.crane k).enrolment = (s.crane k).enrolment := by
  by_cases hk : s.frees pick l k
  · rw [h.freed k hk]
  · rw [h.kept k hk]

theorem Requeued.now_eq (h : Requeued pick s l u) : u.now = s.now := by
  rw [h.frame]
  rfl

theorem Requeued.settings_eq (h : Requeued pick s l u) : u.settings = s.settings := by rw [h.frame]

theorem Requeued.ctl_eq (h : Requeued pick s l u) : u.ctl = s.ctl := by rw [h.frame]

theorem Requeued.counters_eq (h : Requeued pick s l u) : u.counters = s.counters := by rw [h.frame]

/-- A count of moves of the table, slot by slot. -/
theorem State.countMoves_slots (s : State) (f : Move → Bool) :
    s.countMoves f = ((List.finRange 64).filter fun i => (s.move i).any f).length := by
  rw [State.countMoves, State.moveList_count, finRange_filter_length]

/-- Every slot judged, in the words of the statements. -/
theorem Requeued.all_move (h : Requeued pick s (List.finRange 64) u) (j : SlotId) :
    u.move j = (s.move j).map (Move.back pick) := by
  rw [h.move j, if_pos (List.mem_finRange j)]

theorem Requeued.all_stack (h : Requeued pick s (List.finRange 64) u) (n : StackId) :
    u.stack n = (s.stack n).map fun x =>
      { x with incoming := x.incoming - s.countMoves (Move.lands pick n) } := by
  rw [h.stack n, s.countMoves_slots]

theorem Requeued.all_freed (h : Requeued pick s (List.finRange 64) u) {j : SlotId}
    (hm : s.move j = some m) (hg : pick m = some g) :
    u.crane g.crane = { s.crane g.crane with held := none, reservation := none } :=
  h.freed g.crane ⟨j, List.mem_finRange j, m, g, hm, hg, rfl⟩

theorem Requeued.all_kept (h : Requeued pick s (List.finRange 64) u) {k : CraneId}
    (hk : ∀ j m g, s.move j = some m → pick m = some g → g.crane ≠ k) : u.crane k = s.crane k :=
  h.kept k fun ⟨j, _, m, g, hm, hg, hcrane⟩ => hk j m g hm hg hcrane

/-- With nothing picked nothing changes. -/
theorem Requeued.of_none (s : State) (l : List SlotId) : Requeued (fun _ => none) s l s := by
  induction l using List.reverseRecOn with
  | nil => exact .nil _ s
  | append_singleton l i ih => exact ih.stay fun _ _ => rfl

/-! ### The grants that a RESTART returns -/

/-- The grant of a GRANTED move. -/
def Move.granted? (m : Move) : Option Grant :=
  match m.progress with
  | .queued => none
  | .granted g => some g
  | .lifted _ _ _ => none

theorem Move.granted?_eq_some : m.granted? = some g ↔ m.progress = .granted g := by
  unfold Move.granted?
  cases m.progress <;> simp

theorem returnMove_stay (hi : ∀ m, u.move i = some m → m.granted? = none) : returnMove u i = u := by
  unfold returnMove
  cases hm : u.move i with
  | none => rfl
  | some m =>
    have hnone := hi m hm
    unfold Move.granted? at hnone
    cases hp : m.progress <;> simp_all

theorem returnMove_requeue (hm : u.move i = some m) (hg : m.granted? = some g) :
    returnMove u i = requeue i m g u := by
  rw [returnMove, hm]
  simp [Move.granted?_eq_some.mp hg]

theorem returnMove_fold (s : State) (l : List SlotId) (hl : l.Nodup) :
    Requeued Move.granted? s l (l.foldl returnMove s) ∧ (l.foldl returnMove s).ports = s.ports := by
  induction l using List.reverseRecOn with
  | nil => exact ⟨.nil _ s, rfl⟩
  | append_singleton l i ih =>
    obtain ⟨hl, -, hdisjoint⟩ := List.nodup_append.mp hl
    obtain ⟨h, hports⟩ := ih hl
    rw [List.foldl_append, List.foldl_cons, List.foldl_nil]
    generalize l.foldl returnMove s = u at h hports
    have hmove : u.move i = s.move i := h.untouched fun hi => hdisjoint i hi i (by simp) rfl
    by_cases hpick : ∃ m g, s.move i = some m ∧ m.granted? = some g
    · obtain ⟨m, g, hm, hg⟩ := hpick
      rw [returnMove_requeue (hmove.trans hm) hg]
      exact ⟨h.requeue hm hg, hports⟩
    · have hnone : ∀ m, s.move i = some m → m.granted? = none := fun m hm =>
        Option.eq_none_iff_forall_ne_some.mpr fun g hg => hpick ⟨m, g, hm, hg⟩
      rw [returnMove_stay fun m hm => hnone m (hmove ▸ hm)]
      exact ⟨h.stay hnone, hports⟩

theorem Move.back_granted? (m : Move) : m.back Move.granted? = m.afterRestart := by
  unfold Move.back Move.granted? Move.afterRestart
  cases m.progress <;> rfl

theorem Move.lands_granted? (n : StackId) : Move.lands Move.granted? n = Move.grantedTo n := by
  funext m
  unfold Move.lands Move.granted? Move.grantedTo
  cases m.progress <;> simp

end Sys2Proof.Machine
end

section
/-! RESTART (O4). -/

namespace Sys2Proof.Machine

variable {s t u : State} {n : Nat}

/-! ### The alerts of an allocation and of the end of its event -/

theorem allocate_rings (e : Event) :
    Rings 8 (fun p => (∃ b x, (allocate e).st.bed b = some x ∧ x.heat.curtailed = true) ∧
      (e.st.port p).role ≠ .off) e.st (allocate e).st := by
  have hraise : Rings 8 _ e.st _ :=
    raiseIf_rings e.st (!e.st.writeAllocation.curtailedBeds.isEmpty) .curtailed
  refine Rings.congr (R := fun p => (!e.st.writeAllocation.curtailedBeds.isEmpty) = true ∧
    (e.st.port p).role ≠ .off) (fun p => ?_) fun p => ?_
  · rw [allocate_port, ← State.raiseIf_port]
    exact hraise p
  · simp only [State.curtailedBeds_nonempty_iff, allocate_bed_eq_writeAllocation]

theorem close_rings {e : Event} (h : e.st.counters.frozen = false) :
    Rings 14 (fun p => e.close.counters.frozen = true ∧ (e.st.port p).role ≠ .off) e.st e.close := by
  obtain ⟨hfrozen, -⟩ | ⟨-, hclose⟩ := e.close_cases
  · exact absurd (h.symm.trans hfrozen) (by decide)
  · rw [hclose, State.raiseIf_counters]
    exact raiseIf_rings { e.st with counters := _ } _ .counterOverflow

/-- By an allocation and the end of its event CURTAILED and COUNTER_OVERFLOW alone are raised. -/
theorem allocate_close_rings {u : State} (h : u.counters.frozen = false) (n : Nat) :
    Rings n (fun p => (u.port p).role ≠ .off ∧
      (n = 8 ∧ (∃ b x, (allocate u.event).close.bed b = some x ∧ x.heat.curtailed = true) ∨
        n = 14 ∧ (allocate u.event).close.counters.frozen = true)) u (allocate u.event).close := by
  have hrunning : (allocate u.event).st.counters.frozen = false := by rwa [allocate_counters]
  have halloc : Rings 8 _ u _ := allocate_rings u.event
  have hquiet : ∀ n, n ≠ 8 → Quiet n u (allocate u.event).st := fun n hn => allocate_quiet u.event hn
  have hrole := (hquiet 0 (by decide)).role
  simp only [Event.close_bed]
  generalize allocate u.event = e at *
  by_cases h8 : n = 8
  · subst h8
    exact (halloc.quiet (close_quiet e (by decide))).congr fun p => by
      simp [and_comm, State.event]
  by_cases h14 : n = 14
  · subst h14
    exact ((hquiet 14 (by decide)).rings (close_rings hrunning)).congr fun p => by
      simp [hrole p, and_comm]
  · exact ((hquiet n h8).quiet (close_quiet e h14)).congr fun p => by simp [h8, h14]

/-! ### What an allocation brings to a cleared counter -/

/-- The defined beds that a test picks, counted in the list and by their slots. -/
theorem State.curtailedBeds_count (s : State) (f : BedId → Bool) :
    (s.curtailedBeds.filter f).length = (Finset.univ.filter fun b : BedId =>
      (s.bed b).any (fun x => x.heat.curtailed) = true ∧ f b = true).card := by
  have hlist : s.curtailedBeds =
      (List.finRange 16).filter fun b => (s.bed b).any fun x => x.heat.curtailed := by
    rw [State.curtailedBeds, State.definedBeds]
    induction List.finRange 16 with
    | nil => rfl
    | cons b l ih =>
      cases hb : s.bed b with
      | none => simpa [hb] using ih
      | some x => cases hx : x.heat.curtailed <;> simpa [hb, hx] using ih
  rw [hlist, List.filter_filter, finRange_filter_length]
  simp only [Bool.and_eq_true, and_comm]

theorem sum_curtailment (l : List BedId) (f : Filter) :
    ((l.map .curtailment).map fun h : Happening => h.amount .curtailment f).sum =
      (l.filter fun b => decide (f = .any ∨ f = .bed b)).length := by
  induction l with
  | nil => rfl
  | cons b l ih =>
    have hb : (Happening.curtailment b).amount .curtailment f = if f = .any ∨ f = .bed b then 1 else 0 := rfl
    rw [List.map_cons, List.map_cons, List.sum_cons, ih, hb, List.filter_cons]
    by_cases h : f = .any ∨ f = .bed b
    · simp [h, Nat.add_comm]
    · simp [h]

/-- The gain of an allocation that is all of its event, by the beds and the heat it leaves (R185). -/
theorem gain_allocate {e : Event} (he : e.seen = []) (ht : ∀ b, t.bed b = (allocate e).st.bed b)
    (hbudget : t.budget = (allocate e).st.budget) (c : Counter) :
    c.gain (allocate e).seen = t.allocationAmount c := by
  have hseen : (allocate e).seen = e.st.writeAllocation.curtailedBeds.map .curtailment ++
      [.grantedHeat e.st.allotment] := by
    rw [allocate_eq, he, List.nil_append]
  have hbed : ∀ b, t.bed b = e.st.writeAllocation.bed b := fun b =>
    (ht b).trans (allocate_bed_eq_writeAllocation e b)
  rw [Counter.gain, hseen, List.map_append, List.sum_append, List.map_singleton, List.sum_singleton]
  by_cases hcut : c.selection = .curtailment
  · have hheat : (Happening.grantedHeat e.st.allotment).amount .curtailment c.filter = 0 :=
      Happening.amount_other (show Selection.curtailment ≠ .grantedHeat by decide) _
    rw [State.allocationAmount, hcut, hheat, sum_curtailment, State.curtailedBeds_count]
    simp only [hbed, decide_eq_true_eq, Nat.add_zero]
  · have hzero : ((e.st.writeAllocation.curtailedBeds.map .curtailment).map
        fun h : Happening => h.amount c.selection c.filter).sum = 0 := by
      rw [List.sum_eq_zero_iff]
      intro k hk
      obtain ⟨h, hh, rfl⟩ := List.mem_map.mp hk
      obtain ⟨b, -, rfl⟩ := List.mem_map.mp hh
      exact Happening.amount_other hcut _
    have hworth : (Happening.grantedHeat e.st.allotment).amount c.selection c.filter =
        if c.selection = .grantedHeat then
          ∑ b : BedId, if c.filter = .any ∨ c.filter = .bed b then (e.st.allotment)[b] else 0
        else 0 :=
      Happening.amount_worth (.grantedHeat e.st.allotment) c.selection c.filter
    rw [hzero, Nat.zero_add, hworth, State.allocationAmount, hbudget, allocate_granted]
    cases hsel : c.selection <;> first | rfl | exact absurd hsel hcut

/-- A cleared counter after an event. -/
theorem Counter.add_restart (c : Counter) (l : List Happening) : c.restart.add l =
    { c with
      value := BitVec.ofNat 32 (c.gain l)
      overflow := decide (4294967296 ≤ c.gain l) } := by
  have hvalue : (0 : BitVec 32) + BitVec.ofNat 32 (c.gain l) = BitVec.ofNat 32 (c.gain l) := BitVec.zero_add _
  have hwraps : c.restart.wraps l = decide (4294967296 ≤ 0 + c.gain l) := rfl
  rw [← hvalue, ← Nat.zero_add (c.gain l), ← hwraps, Nat.zero_add]
  rfl

/-! ### The state before the allocation -/

/-- The state before the alerts of a RESTART: the grants returned, then the cleared blocks. -/
theorem restartState_requeued (s : State) : ∃ r, Requeued Move.granted? (abandonScan s) (List.finRange 64) r ∧
    r.ports = s.ports ∧ restartState s = { r with
      counters := ⟨onEach (fun _ c => Counter.restart c) s.counters.counters, false⟩
      arbiter := ⟨.strip, false, 0, 0⟩
      ports := onEach (fun _ x => Port.restart x) s.ports } := by
  obtain ⟨h, hports⟩ := returnMove_fold (abandonScan s) _ (List.nodup_finRange 64)
  refine ⟨_, h, hports, ?_⟩
  have hcounters := h.counters_eq
  unfold restartState
  generalize (List.finRange 64).foldl returnMove (abandonScan s) = r at *
  dsimp only
  rw [hcounters, hports]
  rfl

/-- The state a RESTART in LOADING leaves, and one in RUNNING allocates from. -/
def State.restarted (s : State) : State := (restartState s).raiseIf s.clock.unset .clockUnset

theorem Port.join_clockUnset_restart (p : PortId) (x : Port) (unset : Bool) :
    (if unset then x.restart.join .clockUnset .everyPort p else x.restart) = x.restartedTo unset := by
  have hset : x.restartedTo unset = { x.restart with
      alerts := if unset = true ∧ x.role ≠ .off ∧ x.mask.getLsbD 15 = true then 0x8000 else 0 } := by
    obtain ⟨role, rx, tx, rejects, overruns, mask, alerts, snapshots⟩ := x
    cases tx <;> rfl
  have hsees : (Toward.everyPort.sees p x.restart.role && x.restart.mask.getLsbD AlertKind.clockUnset.num) = true ↔
      x.role ≠ .off ∧ x.mask.getLsbD 15 = true := by
    rw [Bool.and_eq_true, everyPort_sees]
    rfl
  have hjoin : x.restart.join .clockUnset .everyPort p = { x.restart with
      alerts := if x.role ≠ .off ∧ x.mask.getLsbD 15 = true then 0x8000 else 0 } := by
    rw [Port.join]
    by_cases h : x.role ≠ .off ∧ x.mask.getLsbD 15 = true
    · have hbit : x.restart.alerts ||| AlertKind.clockUnset.bit = 0x8000 :=
        show (0 : BitVec 16) ||| AlertKind.clockUnset.bit = 0x8000 by decide
      rw [if_pos (hsees.mpr h), if_pos h, hbit]
    · rw [if_neg (mt hsees.mp h), if_neg h]
      rfl
  rw [hset, hjoin]
  cases unset
  · rfl
  · simp only [if_true, true_and]

theorem State.restarted_eq (s : State) : ∃ r, Requeued Move.granted? (abandonScan s) (List.finRange 64) r ∧
    s.restarted = { r with
      counters := ⟨onEach (fun _ c => Counter.restart c) s.counters.counters, false⟩
      arbiter := ⟨.strip, false, 0, 0⟩
      ports := s.restarted.ports } := by
  obtain ⟨r, hr, -, hstate⟩ := restartState_requeued s
  have hraise : s.restarted = { restartState s with ports := s.restarted.ports } := State.raiseIf_eq ..
  exact ⟨r, hr, hraise.trans (congrArg (fun v : State => { v with ports := s.restarted.ports }) hstate)⟩

theorem State.restarted_port (s : State) (p : PortId) :
    s.restarted.port p = (s.port p).restartedTo s.clock.unset := by
  obtain ⟨r, -, -, hstate⟩ := restartState_requeued s
  have hport : (restartState s).port p = (s.port p).restart := by
    rw [hstate]
    exact onEach_get _ _ p
  rw [State.restarted, State.raiseIf_port, hport]
  exact Port.join_clockUnset_restart p (s.port p) _

theorem State.restarted_frame (s : State) : s.restarted = { s with
    scan := { s.scan with inFlight := none }
    moves := { s.moves with slots := s.restarted.moves.slots }
    stackSlots := s.restarted.stackSlots
    cranes := s.restarted.cranes
    arbiter := ⟨.strip, false, 0, 0⟩
    ports := s.restarted.ports
    counters := ⟨s.restarted.counters.counters, false⟩ } := by
  obtain ⟨r, hr, h⟩ := s.restarted_eq
  have hmoves : s.restarted.moves = r.moves := (congrArg State.moves h :)
  have hstacks : s.restarted.stackSlots = r.stackSlots := (congrArg State.stackSlots h :)
  have hcranes : s.restarted.cranes = r.cranes := (congrArg State.cranes h :)
  have hcounters := (congrArg State.counters h :)
  dsimp only at hcounters
  rw [hmoves, hstacks, hcranes, hcounters]
  exact h.trans (congrArg (fun v : State => { v with
    counters := ⟨onEach (fun _ c => Counter.restart c) s.counters.counters, false⟩
    arbiter := ⟨.strip, false, 0, 0⟩
    ports := s.restarted.ports }) hr.frame)

theorem State.restarted_counter (s : State) (i : Fin 8) :
    s.restarted.counters.counters[i] = s.counters.counters[i].restart := by
  obtain ⟨r, -, h⟩ := s.restarted_eq
  have hcounters := (congrArg State.counters h :)
  rw [hcounters]
  exact onEach_get _ _ i

/-- The moves, stacks and cranes after the grants are returned. -/
theorem State.restarted_requeued (s : State) : ∃ r, Requeued Move.granted? (abandonScan s) (List.finRange 64) r ∧
    (∀ i, s.restarted.move i = r.move i) ∧ (∀ n, s.restarted.stack n = r.stack n) ∧
    ∀ k, s.restarted.crane k = r.crane k := by
  obtain ⟨r, hr, h⟩ := s.restarted_eq
  exact ⟨r, hr, fun i => (congrArg (fun v : State => v.move i) h :),
    fun n => (congrArg (fun v : State => v.stack n) h :),
    fun k => (congrArg (fun v : State => v.crane k) h :)⟩

theorem State.restarted_frozen (s : State) : s.restarted.counters.frozen = false :=
  (congrArg (fun v : State => v.counters.frozen) s.restarted_frame :)

theorem exec_restart (s : State) : exec .restart s = .next (allocateRunning s.restarted.event).close := by
  have hclock : (restartState s).clock = s.clock := by
    obtain ⟨r, hr, -, hstate⟩ := restartState_requeued s
    rw [hstate, hr.frame]
    rfl
  rw [State.restarted, ← hclock]
  rfl

/-- Cleared counters after one event, whose gains are the amounts given. -/
theorem close_cleared {e : Event} {v : Vector Counter 8} {amount : Counter → Nat}
    (hfrozen : e.st.counters.frozen = false)
    (hcounter : ∀ i : Fin 8, e.st.counters.counters[i] = v[i].restart)
    (hgain : ∀ c : Counter, c.gain e.seen = amount c) :
    (∀ i : Fin 8, e.close.counters.counters[i] =
      { v[i] with
        value := BitVec.ofNat 32 (amount v[i])
        overflow := decide (4294967296 ≤ amount v[i]) }) ∧
    (e.close.counters.frozen = true ↔
      ∃ i : Fin 8, v[i].freezeEnable = true ∧ 4294967296 ≤ amount v[i]) := by
  refine ⟨fun i => ?_, ?_⟩
  · rw [Event.close_counter hfrozen i, hcounter, Counter.add_restart, hgain]
  · obtain ⟨h, -⟩ | ⟨-, hclose⟩ := e.close_cases
    · exact absurd (hfrozen.symm.trans h) (by decide)
    rw [hclose, State.raiseIf_counters]
    refine (CounterBank.freezes_iff _ _).trans (exists_congr fun i => ?_)
    have hsum : (v[i].restart.value.toNat + v[i].restart.gain e.seen) = amount v[i] :=
      (Nat.zero_add _).trans (hgain v[i])
    rw [hcounter, hsum]
    exact Iff.rfl

/-- An allocation taken from cleared counters: what they take of it and which alerts it raises (R185, R187). -/
theorem allocate_cleared {u : State} {v : Vector Counter 8} (hfrozen : u.counters.frozen = false)
    (hcounter : ∀ i : Fin 8, u.counters.counters[i] = v[i].restart) :
    ∃ t, (allocate u.event).close = t ∧ u.allocatesTo t ∧
      (∀ i : Fin 8, t.counters.counters[i] =
        { v[i] with
          value := BitVec.ofNat 32 (t.allocationAmount v[i])
          overflow := decide (4294967296 ≤ t.allocationAmount v[i]) }) ∧
      (t.counters.frozen = true ↔ ∃ i : Fin 8, v[i].freezeEnable = true ∧
        4294967296 ≤ t.allocationAmount v[i]) ∧
      ∀ n, Rings n (fun p => (u.port p).role ≠ .off ∧
        (n = 8 ∧ (∃ b x, t.bed b = some x ∧ x.heat.curtailed = true) ∨
          n = 14 ∧ t.counters.frozen = true)) u t := by
  have halloc : u.allocatesTo (allocate u.event).close := (allocate_allocatesTo u.event).close
  have hgain := fun c => gain_allocate (e := u.event) (t := (allocate u.event).close) rfl
    (fun b => Event.close_bed _ b) (Event.close_budget _) c
  have hrings := allocate_close_rings hfrozen
  have hbank : (allocate u.event).st.counters = u.counters := allocate_counters u.event
  rw [← hbank] at hcounter hfrozen
  generalize allocate u.event = e at *
  obtain ⟨hcounters, hfreeze⟩ := close_cleared hfrozen hcounter hgain
  exact ⟨_, rfl, halloc, hcounters, hfreeze, hrings⟩

/-- Settles O4: the grants returned slot by slot, the cleared blocks, and in RUNNING the allocation. -/
theorem restartKeepsTheYardAndResetsTheRest : Obligations.RestartKeepsTheYardAndResetsTheRest := by
  unfold Obligations.RestartKeepsTheYardAndResetsTheRest
  intro s
  obtain ⟨r, hr, hmove, hstack, hcrane⟩ := s.restarted_requeued
  have hframe := s.restarted_frame
  have hctl : s.restarted.ctl = s.ctl := (congrArg State.ctl hframe :)
  refine ⟨s.restarted, _, exec_restart s, hframe, fun i => ?_, fun n => ?_, fun k hk => ?_, fun k hk => ?_,
    s.restarted_port, s.restarted_counter, fun hloading => ?_, fun hrunning => ?_⟩
  · rw [hmove, hr.all_move, funext Move.back_granted?]
    rfl
  · rw [hstack, hr.all_stack, Move.lands_granted?]
    rfl
  · obtain ⟨i, m, g, hm, hg, rfl⟩ := hk
    rw [hcrane]
    exact hr.all_freed hm (Move.granted?_eq_some.mpr hg)
  · rw [hcrane]
    exact hr.all_kept fun i m g hm hg => hk i m g hm (Move.granted?_eq_some.mp hg)
  · rw [allocateRunning_loading (hctl.trans hloading)]
    exact Event.close_nil _
  · rw [allocateRunning_running (hctl.trans hrunning)]
    obtain ⟨t, ht, halloc, hcounters, hfreeze, hrings⟩ :=
      allocate_cleared s.restarted_frozen s.restarted_counter
    rw [ht]
    refine ⟨halloc, hcounters, hfreeze, fun p n _ => ?_⟩
    have hrole : (s.restarted.port p).role = (s.port p).role := (congrArg Port.role (s.restarted_port p) :)
    have hmask : (s.restarted.port p).mask = (s.port p).mask := (congrArg Port.mask (s.restarted_port p) :)
    rw [(hrings n).bit_iff p, hrole, hmask]
    exact or_congr_right (by rw [and_left_comm])

end Sys2Proof.Machine
end

section
/-! The judging of the moves at a minute expiry (R152, R153): what a revocation and an overdue lift write,
slot by slot. -/

namespace Sys2Proof.Machine

variable {s t u : State} {l : List SlotId} {i : SlotId} {m : Move} {g : Grant}
variable {R R' : Nat → PortId → Prop}

/-! ### Ports on which alerts alone have joined -/

/-- From `s` to `t` the ports change in their pending sets alone, where bit `n` has joined at exactly the ports
of `R n` whose mask enables it. -/
def Alerted (R : Nat → PortId → Prop) (s t : State) : Prop :=
  ∀ q, ∃ a, t.port q = { s.port q with alerts := a } ∧ ∀ n, a.getLsbD n = true ↔
    (s.port q).alerts.getLsbD n = true ∨ ((s.port q).mask.getLsbD n = true ∧ R n q)

theorem Alerted.refl (s : State) : Alerted (fun _ _ => False) s s := fun q =>
  ⟨(s.port q).alerts, rfl, fun n => by simp⟩

theorem Alerted.congr (h : Alerted R s t) (hR : ∀ n q, R n q ↔ R' n q) : Alerted R' s t := fun q => by
  obtain ⟨a, hport, hbit⟩ := h q
  exact ⟨a, hport, fun n => by rw [hbit, hR]⟩

theorem Alerted.trans (h : Alerted R s t) (h' : Alerted R' t u) :
    Alerted (fun n q => R n q ∨ R' n q) s u := fun q => by
  obtain ⟨a, hport, hbit⟩ := h q
  obtain ⟨a', hport', hbit'⟩ := h' q
  refine ⟨a', by rw [hport', hport], fun n => ?_⟩
  rw [hbit', hport, hbit, and_or_left, or_assoc]

theorem Alerted.of_ports (h : t.ports = s.ports) : Alerted (fun _ _ => False) s t := fun q => by
  obtain ⟨a, hport, hbit⟩ := Alerted.refl s q
  exact ⟨a, by rw [← hport, State.port, h, State.port], hbit⟩

theorem Alerted.role (h : Alerted R s t) (q : PortId) : (t.port q).role = (s.port q).role := by
  obtain ⟨a, hport, -⟩ := h q
  rw [hport]

theorem raise_alerted (s : State) (k : AlertKind) (w : Toward) :
    Alerted (fun n q => n = k.num ∧ w.sees q (s.port q).role = true) s (s.raise k w) := fun q => by
  obtain ⟨a, ha⟩ := Port.join_eq_or k w q (s.port q)
  refine ⟨(s.port q).alerts ||| a, by rw [State.raise_port, ha], fun n => ?_⟩
  have hport : ((s.raise k w).port q).alerts = (s.port q).alerts ||| a := by rw [State.raise_port, ha]
  rw [← hport]
  by_cases hn : n = k.num
  · subst hn
    simpa using (raise_rings s k w).bit_iff q
  · simpa [hn] using (raise_quiet s w hn).bit_iff q

/-- The ports that see a move's alerts. -/
theorem towardMove_sees_iff (hg : m.grant? = some g) (q : PortId) :
    (s.towardMove m).sees q (s.port q).role = true ↔ s.watchesMove q m g := by
  have hcrane : s.cranePort g.crane = some q ↔ ∃ e, (s.crane g.crane).enrolment = some e ∧ e.bound = q := by
    simp [State.cranePort]
  rw [State.watchesMove, ← hcrane, State.towardMove, hg]
  generalize (s.port q).role = r
  cases r <;> simp [Toward.sees]

/-! ### Revocations -/

/-- The grants revoked toward this port. -/
def State.revokedToward (s : State) (l : List SlotId) (q : PortId) : Prop :=
  ∃ j ∈ l, ∃ m g, s.move j = some m ∧ s.timedOut m = some g ∧ s.watchesMove q m g

theorem State.timedOut_grant (h : s.timedOut m = some g) : m.grant? = some g := by
  unfold State.timedOut at h
  unfold Move.grant?
  cases hp : m.progress <;> simp_all

theorem State.timedOut_congr (hnow : u.now = s.now) (hset : u.settings = s.settings) :
    u.timedOut = s.timedOut := by
  funext m
  unfold State.timedOut
  rw [hnow, hset]

theorem State.watchesMove_congr (hrole : ∀ q, (u.port q).role = (s.port q).role)
    (henrol : ∀ k, (u.crane k).enrolment = (s.crane k).enrolment) (q : PortId) (m : Move) (g : Grant) :
    u.watchesMove q m g ↔ s.watchesMove q m g := by
  rw [State.watchesMove, State.watchesMove, hrole, henrol]

theorem revoke_stay {e : Event} (h : ∀ m, e.st.move i = some m → e.st.timedOut m = none) : revoke e i = e := by
  unfold revoke
  cases hm : e.st.move i with
  | none => rfl
  | some m => simp [h m hm]

theorem revoke_requeue {e : Event} (hm : e.st.move i = some m) (hg : e.st.timedOut m = some g) :
    revoke e i = ⟨(requeue i m g e.st).raise .moveRevoked (e.st.towardMove m),
      e.seen ++ [.moveRevoked g.crane m.requester]⟩ := by
  simp [revoke, hm, hg, Event.upd, Event.see]

/-- What the revocations of an expiry bring to a counter that counts them under any filter. -/
def revocations (seen : List Happening) : Nat := (seen.map fun h => h.amount .moveRevoked .any).sum

/-- `r` is `e` after the GRANTED moves in the slots of the list have been judged. -/
structure Revoked (e : Event) (l : List SlotId) (r : Event) : Prop where
  requeued : Requeued e.st.timedOut e.st l r.st
  alerted : Alerted (fun n q => n = 10 ∧ e.st.revokedToward l q) e.st r.st
  counted : revocations r.seen = revocations e.seen +
    (l.filter fun j => (e.st.move j).any fun m => (e.st.timedOut m).isSome).length

theorem State.revokedToward_append (hm : s.move i = some m) (hg : s.timedOut m = some g) (q : PortId) :
    s.revokedToward (l ++ [i]) q ↔ s.revokedToward l q ∨ s.watchesMove q m g := by
  constructor
  · rintro ⟨j, hj, m', g', hm', hg', hq⟩
    obtain hj | hj := List.mem_append.mp hj
    · exact .inl ⟨j, hj, m', g', hm', hg', hq⟩
    · obtain rfl := List.mem_singleton.mp hj
      obtain rfl := Option.some.inj (hm.symm.trans hm')
      obtain rfl := Option.some.inj (hg.symm.trans hg')
      exact .inr hq
  · rintro (⟨j, hj, hpick⟩ | hq)
    · exact ⟨j, List.mem_append_left _ hj, hpick⟩
    · exact ⟨i, by simp, m, g, hm, hg, hq⟩

theorem State.revokedToward_stay (hi : ∀ m, s.move i = some m → s.timedOut m = none) (q : PortId) :
    s.revokedToward (l ++ [i]) q ↔ s.revokedToward l q := by
  constructor
  · rintro ⟨j, hj, m, g, hm, hg, hq⟩
    obtain hj | hj := List.mem_append.mp hj
    · exact ⟨j, hj, m, g, hm, hg, hq⟩
    · rw [List.mem_singleton.mp hj] at hm
      rw [hi m hm] at hg
      cases hg
  · rintro ⟨j, hj, hpick⟩
    exact ⟨j, List.mem_append_left _ hj, hpick⟩

theorem Revoked.nil (e : Event) : Revoked e [] e where
  requeued := .nil _ _
  alerted := (Alerted.refl e.st).congr fun n q => by simp [State.revokedToward]
  counted := rfl

theorem Revoked.stay {e r : Event} (h : Revoked e l r)
    (hi : ∀ m, e.st.move i = some m → e.st.timedOut m = none) : Revoked e (l ++ [i]) r where
  requeued := h.requeued.stay hi
  alerted := h.alerted.congr fun n q => by rw [State.revokedToward_stay hi]
  counted := by
    have hnone : ((e.st.move i).any fun m => (e.st.timedOut m).isSome) = false := by
      cases hm : e.st.move i with
      | none => rfl
      | some m => simp [hi m hm]
    rw [h.counted]
    simp [hnone]

theorem Revoked.watches {e r : Event} (h : Revoked e l r) (hg : e.st.timedOut m = some g) (q : PortId) :
    (r.st.towardMove m).sees q (r.st.port q).role = true ↔ e.st.watchesMove q m g :=
  (towardMove_sees_iff (State.timedOut_grant hg) q).trans
    (State.watchesMove_congr h.alerted.role h.requeued.enrolment q m g)

theorem Revoked.revoke {e r : Event} (h : Revoked e l r) (hm : e.st.move i = some m)
    (hg : e.st.timedOut m = some g) : Revoked e (l ++ [i])
      ⟨(requeue i m g r.st).raise .moveRevoked (r.st.towardMove m),
        r.seen ++ [.moveRevoked g.crane m.requester]⟩ where
  requeued := (h.requeued.requeue hm hg).ports _
  alerted := by
    have hraise := raise_alerted (requeue i m g r.st) .moveRevoked (r.st.towardMove m)
    have hports := Alerted.of_ports (requeue_ports i m g r.st)
    refine ((h.alerted.trans hports).trans hraise).congr fun n q => ?_
    have hsees := h.watches hg q
    rw [State.revokedToward_append hm hg, ← hsees]
    change ((n = 10 ∧ _) ∨ False) ∨ (n = 10 ∧ _) ↔ _
    rw [or_false, ← and_or_left]
    rfl
  counted := by
    have hsome : ((e.st.move i).any fun m => (e.st.timedOut m).isSome) = true := by simp [hm, hg]
    have hone : (Happening.moveRevoked g.crane m.requester).amount .moveRevoked .any = 1 := rfl
    have hsum : revocations (r.seen ++ [.moveRevoked g.crane m.requester]) = revocations r.seen + 1 := by
      simp [revocations, hone]
    rw [hsum, h.counted, List.filter_append, List.length_append]
    simp [hsome, Nat.add_assoc]

theorem revoke_fold (e : Event) (l : List SlotId) (hl : l.Nodup) : Revoked e l (l.foldl revoke e) := by
  induction l using List.reverseRecOn with
  | nil => exact .nil e
  | append_singleton l i ih =>
    obtain ⟨hl, -, hdisjoint⟩ := List.nodup_append.mp hl
    have h := ih hl
    rw [List.foldl_append, List.foldl_cons, List.foldl_nil]
    generalize l.foldl revoke e = r at h
    have hmove : r.st.move i = e.st.move i :=
      h.requeued.untouched fun hi => hdisjoint i hi i (by simp) rfl
    have hout : r.st.timedOut = e.st.timedOut := State.timedOut_congr h.requeued.now_eq h.requeued.settings_eq
    by_cases hpick : ∃ m g, e.st.move i = some m ∧ e.st.timedOut m = some g
    · obtain ⟨m, g, hm, hg⟩ := hpick
      rw [revoke_requeue (hmove.trans hm) ((congrFun hout m).trans hg)]
      exact h.revoke hm hg
    · have hnone : ∀ m, e.st.move i = some m → e.st.timedOut m = none := fun m hm =>
        Option.eq_none_iff_forall_ne_some.mpr fun g hg => hpick ⟨m, g, hm, hg⟩
      rw [revoke_stay fun m hm => (congrFun hout m).trans (hnone m (hmove ▸ hm))]
      exact h.stay hnone

end Sys2Proof.Machine
end

section
/-! The judging of the lifts at a minute expiry (R153), and that it commutes with an allocation. -/

namespace Sys2Proof.Machine

variable {s t u : State} {l : List SlotId} {i : SlotId} {m : Move} {g : Grant} {late : Move → Bool}

/-- The move as it stands after its slot is judged: flagged when it comes overdue. -/
def Move.flagged (late : Move → Bool) (m : Move) : Move := if late m then m.markOverdue else m

/-- The overdue lifts whose alert this port sees. -/
def State.overdueToward (s : State) (late : Move → Bool) (l : List SlotId) (q : PortId) : Prop :=
  ∃ j ∈ l, ∃ m g, s.move j = some m ∧ late m = true ∧ m.grant? = some g ∧ s.watchesMove q m g

/-- `u` is `s` after the LIFTED moves in the slots of the list have been judged. -/
structure Flagged (late : Move → Bool) (s : State) (l : List SlotId) (u : State) : Prop where
  frame : u = { s with moves := { s.moves with slots := u.moves.slots }, ports := u.ports }
  move : ∀ j, u.move j = if j ∈ l then (s.move j).map (Move.flagged late) else s.move j
  alerted : Alerted (fun n q => n = 12 ∧ s.overdueToward late l q) s u

theorem Flagged.nil (late : Move → Bool) (s : State) : Flagged late s [] s where
  frame := rfl
  move j := by simp
  alerted := (Alerted.refl s).congr fun n q => by simp [State.overdueToward]

theorem State.overdueToward_stay (hi : ∀ m, s.move i = some m → late m = false) (q : PortId) :
    s.overdueToward late (l ++ [i]) q ↔ s.overdueToward late l q := by
  constructor
  · rintro ⟨j, hj, m, g, hm, hlate, hq⟩
    obtain hj | hj := List.mem_append.mp hj
    · exact ⟨j, hj, m, g, hm, hlate, hq⟩
    · rw [List.mem_singleton.mp hj] at hm
      rw [hi m hm] at hlate
      cases hlate
  · rintro ⟨j, hj, hpick⟩
    exact ⟨j, List.mem_append_left _ hj, hpick⟩

theorem State.overdueToward_append (hm : s.move i = some m) (hlate : late m = true) (hg : m.grant? = some g)
    (q : PortId) :
    s.overdueToward late (l ++ [i]) q ↔ s.overdueToward late l q ∨ s.watchesMove q m g := by
  constructor
  · rintro ⟨j, hj, m', g', hm', hlate', hg', hq⟩
    obtain hj | hj := List.mem_append.mp hj
    · exact .inl ⟨j, hj, m', g', hm', hlate', hg', hq⟩
    · obtain rfl := List.mem_singleton.mp hj
      obtain rfl := Option.some.inj (hm.symm.trans hm')
      obtain rfl := Option.some.inj (hg.symm.trans hg')
      exact .inr hq
  · rintro (⟨j, hj, hpick⟩ | hq)
    · exact ⟨j, List.mem_append_left _ hj, hpick⟩
    · exact ⟨i, by simp, m, g, hm, hlate, hg, hq⟩

theorem Flagged.stay (h : Flagged late s l u) (hi : ∀ m, s.move i = some m → late m = false) :
    Flagged late s (l ++ [i]) u where
  frame := h.frame
  move j := by
    have hflag : (s.move i).map (Move.flagged late) = s.move i := by
      cases hm : s.move i with
      | none => rfl
      | some m => simp [Move.flagged, hi m hm]
    rw [h.move j]
    by_cases hj : j = i
    · subst hj
      simp [hflag]
    · simp [hj]
  alerted := h.alerted.congr fun n q => by rw [State.overdueToward_stay hi]

/-- With nothing overdue nothing changes. -/
theorem Flagged.of_none (l : List SlotId) (h : ∀ j m, s.move j = some m → late m = false) :
    Flagged late s l s := by
  induction l using List.reverseRecOn with
  | nil => exact .nil late s
  | append_singleton l i ih => exact ih.stay (h i)

theorem Flagged.mark (h : Flagged late s l u) (hm : s.move i = some m) (hlate : late m = true)
    (hg : m.grant? = some g) :
    Flagged late s (l ++ [i]) ((u.setMove i (some m.markOverdue)).raise .liftOverdue (u.towardMove m)) where
  frame := congrArg (fun v : State => { v with
    moves := { v.moves with slots := u.moves.slots.set i (some m.markOverdue) }
    ports := ((u.setMove i (some m.markOverdue)).raise .liftOverdue (u.towardMove m)).ports }) h.frame
  move j := by
    rw [State.raise_move, State.setMove_move, h.move j]
    by_cases hj : i = j
    · subst hj
      simp [hm, Move.flagged, hlate]
    · simp [hj, Ne.symm hj]
  alerted := by
    have hcrane : ∀ k, u.crane k = s.crane k := fun k => by
      rw [h.frame]
      rfl
    have hset := Alerted.of_ports (s := u) (t := u.setMove i (some m.markOverdue)) rfl
    have hraise := raise_alerted (u.setMove i (some m.markOverdue)) .liftOverdue (u.towardMove m)
    refine ((h.alerted.trans hset).trans hraise).congr fun n q => ?_
    have hsees := (towardMove_sees_iff (s := u) hg q).trans
      (State.watchesMove_congr h.alerted.role (fun k => by rw [hcrane]) q m g)
    rw [State.overdueToward_append hm hlate hg, ← hsees]
    change ((n = 12 ∧ _) ∨ False) ∨ (n = 12 ∧ _) ↔ _
    rw [or_false, ← and_or_left]
    rfl

theorem State.comesOverdue_grant (h : s.comesOverdue m = true) : ∃ g, m.grant? = some g := by
  unfold State.comesOverdue at h
  unfold Move.grant?
  cases hp : m.progress <;> simp_all

theorem State.comesOverdue_congr (hnow : u.now = s.now) (hset : u.settings = s.settings) :
    u.comesOverdue = s.comesOverdue := by
  funext m
  unfold State.comesOverdue
  rw [hnow, hset]

theorem flagOverdue_stay (h : ∀ m, u.move i = some m → u.comesOverdue m = false) : flagOverdue u i = u := by
  unfold flagOverdue
  cases hm : u.move i with
  | none => rfl
  | some m => simp [h m hm]

theorem flagOverdue_mark (hm : u.move i = some m) (h : u.comesOverdue m = true) :
    flagOverdue u i = (u.setMove i (some m.markOverdue)).raise .liftOverdue (u.towardMove m) := by
  simp [flagOverdue, hm, h]

theorem flagOverdue_fold (s : State) (l : List SlotId) (hl : l.Nodup) :
    Flagged s.comesOverdue s l (l.foldl flagOverdue s) := by
  induction l using List.reverseRecOn with
  | nil => exact .nil _ s
  | append_singleton l i ih =>
    obtain ⟨hl, -, hdisjoint⟩ := List.nodup_append.mp hl
    have h := ih hl
    rw [List.foldl_append, List.foldl_cons, List.foldl_nil]
    generalize l.foldl flagOverdue s = u at h
    have hmove : u.move i = s.move i := by
      rw [h.move i, if_neg fun hi => hdisjoint i hi i (by simp) rfl]
    have hover : u.comesOverdue = s.comesOverdue :=
      State.comesOverdue_congr (by rw [h.frame]; rfl) (by rw [h.frame])
    by_cases hlate : ∃ m, s.move i = some m ∧ s.comesOverdue m = true
    · obtain ⟨m, hm, hlate⟩ := hlate
      obtain ⟨g, hg⟩ := State.comesOverdue_grant hlate
      rw [flagOverdue_mark (hmove.trans hm) ((congrFun hover m).trans hlate)]
      exact h.mark hm hlate hg
    · have hnone : ∀ m, s.move i = some m → s.comesOverdue m = false := fun m hm =>
        Bool.eq_false_iff.mpr fun hover => hlate ⟨m, hm, hover⟩
      rw [flagOverdue_stay fun m hm => (congrFun hover m).trans (hnone m (hmove ▸ hm))]
      exact h.stay hnone

/-- The judging of the lifts in either state. -/
theorem judgeLifts_flagged (s : State) :
    Flagged (fun m => decide (s.ctl = .running) && s.comesOverdue m) s (List.finRange 64) (judgeLifts s) := by
  unfold judgeLifts
  cases hctl : s.ctl with
  | loading => exact .of_none _ fun j m _ => rfl
  | running => exact flagOverdue_fold s _ (List.nodup_finRange 64)

/-! ### The judging of the lifts and an allocation commute -/

theorem Port.join_comm (k k' : AlertKind) (w w' : Toward) (p : PortId) (x : Port) :
    (x.join k w p).join k' w' p = (x.join k' w' p).join k w p := by
  have hor : ∀ a b c : BitVec 16, a ||| b ||| c = a ||| c ||| b := fun a b c => by
    rw [BitVec.or_assoc, BitVec.or_comm b c, BitVec.or_assoc]
  unfold Port.join
  by_cases h : (w.sees p x.role && x.mask.getLsbD k.num) = true <;>
    by_cases h' : (w'.sees p x.role && x.mask.getLsbD k'.num) = true <;> simp [h, h', hor]

theorem State.raise_raise (s : State) (k k' : AlertKind) (w w' : Toward) :
    (s.raise k w).raise k' w' = (s.raise k' w').raise k w := by
  have hports : ((s.raise k w).raise k' w').ports = ((s.raise k' w').raise k w).ports := by
    refine vector_ext_fin fun q => ?_
    change ((s.raise k w).raise k' w').port q = ((s.raise k' w').raise k w).port q
    simp only [State.raise_port]
    exact Port.join_comm ..
  exact congrArg (fun v => { s with ports := v }) hports

theorem State.raiseIf_raise (s : State) (c : Bool) (k k' : AlertKind) (w : Toward) :
    (s.raiseIf c k).raise k' w = (s.raise k' w).raiseIf c k := by
  unfold State.raiseIf
  split
  · exact s.raise_raise ..
  · rfl

theorem State.towardMove_congr (h : u.cranes = s.cranes) (m : Move) : u.towardMove m = s.towardMove m := by
  have hcrane : u.cranePort = s.cranePort := funext fun k => by
    rw [State.cranePort, State.cranePort, State.crane, State.crane, h]
  rw [State.towardMove, State.towardMove, hcrane]

/-- A map of states that keeps what the judging of a lift reads, and commutes with what it writes, commutes
with it. -/
theorem flagOverdue_comm {f : State → State} {s : State} (i : SlotId) (hmoves : (f s).moves = s.moves)
    (hclock : (f s).clock = s.clock) (hset : (f s).settings = s.settings) (hcranes : (f s).cranes = s.cranes)
    (hwrite : ∀ m w, ((f s).setMove i m).raise .liftOverdue w = f ((s.setMove i m).raise .liftOverdue w)) :
    flagOverdue (f s) i = f (flagOverdue s i) := by
  have hmove : (f s).move i = s.move i := by rw [State.move, hmoves, State.move]
  have hover : (f s).comesOverdue = s.comesOverdue :=
    State.comesOverdue_congr (by rw [State.now, hclock, State.now]) hset
  by_cases hlate : ∃ m, s.move i = some m ∧ s.comesOverdue m = true
  · obtain ⟨m, hm, hlate⟩ := hlate
    rw [flagOverdue_mark hm hlate, flagOverdue_mark (hmove.trans hm) ((congrFun hover m).trans hlate),
      State.towardMove_congr hcranes, hwrite]
  · have hnone : ∀ m, s.move i = some m → s.comesOverdue m = false := fun m hm =>
      Bool.eq_false_iff.mpr fun hover => hlate ⟨m, hm, hover⟩
    rw [flagOverdue_stay hnone, flagOverdue_stay fun m hm => (congrFun hover m).trans (hnone m (hmove ▸ hm))]

theorem State.writeAllocation_setMove (s : State) (i : SlotId) (m : Option Move) (w : Toward) :
    (s.writeAllocation.setMove i m).raise .liftOverdue w =
      ((s.setMove i m).raise .liftOverdue w).writeAllocation := by
  have hallotment : ((s.setMove i m).raise .liftOverdue w).allotment = s.allotment := rfl
  simp only [State.writeAllocation, hallotment]
  simp only [State.raise, State.setMove, State.now]

theorem flagOverdue_writeAllocation (s : State) (i : SlotId) :
    flagOverdue s.writeAllocation i = (flagOverdue s i).writeAllocation :=
  flagOverdue_comm i (by simp only [State.writeAllocation]) (by simp only [State.writeAllocation])
    (by simp only [State.writeAllocation]) (by simp only [State.writeAllocation])
    (s.writeAllocation_setMove i)

theorem flagOverdue_raiseIf (s : State) (c : Bool) (k : AlertKind) (i : SlotId) :
    flagOverdue (s.raiseIf c k) i = (flagOverdue s i).raiseIf c k :=
  flagOverdue_comm (f := fun s => s.raiseIf c k) i (s.raiseIf_moves c k) (s.raiseIf_clock c k)
    (s.raiseIf_settings c k) (s.raiseIf_cranes c k) fun m w => by
      rw [← State.raiseIf_raise]
      cases c <;> rfl

theorem judgeLifts_writeAllocation (s : State) :
    judgeLifts s.writeAllocation = (judgeLifts s).writeAllocation := by
  have hctl : s.writeAllocation.ctl = s.ctl := by simp only [State.writeAllocation]
  unfold judgeLifts
  rw [hctl]
  cases s.ctl with
  | loading => rfl
  | running => exact List.foldl_hom State.writeAllocation flagOverdue_writeAllocation

theorem judgeLifts_raiseIf (s : State) (c : Bool) (k : AlertKind) :
    judgeLifts (s.raiseIf c k) = (judgeLifts s).raiseIf c k := by
  unfold judgeLifts
  rw [State.raiseIf_ctl]
  cases s.ctl with
  | loading => rfl
  | running => exact List.foldl_hom (fun v : State => v.raiseIf c k) fun v i => flagOverdue_raiseIf v c k i

theorem judgeLifts_beds (s : State) : (judgeLifts s).beds = s.beds := by rw [(judgeLifts_flagged s).frame]

/-- The statements judge the lifts first and allocate then. -/
theorem allocate_judgeLifts (e : Event) :
    (allocate e).upd judgeLifts = allocate (e.upd judgeLifts) := by
  have hwrite := judgeLifts_writeAllocation e.st
  have hshort : (judgeLifts e.st).writeAllocation.curtailedBeds = e.st.writeAllocation.curtailedBeds := by
    have hbed : (judgeLifts e.st).writeAllocation.bed = e.st.writeAllocation.bed := funext fun b => by
      rw [← hwrite, State.bed, judgeLifts_beds, State.bed]
    rw [State.curtailedBeds, State.definedBeds, hbed, State.curtailedBeds, State.definedBeds]
  have hallotment : (judgeLifts e.st).allotment = e.st.allotment := by
    rw [(judgeLifts_flagged e.st).frame]
    rfl
  simp only [allocate_eq, Event.upd, judgeLifts_raiseIf, hwrite, hshort, hallotment]

end Sys2Proof.Machine
end

section
/-! A minute expiry, GRANT_TIMEOUT and LIFT_OVERDUE (O44). -/

namespace Sys2Proof.Machine

variable {s t u r : State} {i : Instr} {m : Move} {g : Grant} {pick : Move → Option Grant} {late : Move → Bool}

/-! ### The moves judged together -/

/-- `u` is `s` after its picked grants have returned to QUEUED and its late lifts are flagged, with the alerts of
both. -/
structure Judged (pick : Move → Option Grant) (late : Move → Bool) (s u : State) : Prop where
  frame : u = { s with
    moves := { s.moves with slots := u.moves.slots }
    stackSlots := u.stackSlots
    cranes := u.cranes
    ports := u.ports }
  move : ∀ j, u.move j = (s.move j).map fun m => (m.back pick).flagged late
  stack : ∀ n, u.stack n = (s.stack n).map fun x =>
    { x with incoming := x.incoming - s.countMoves (Move.lands pick n) }
  freed : ∀ j m g, s.move j = some m → pick m = some g →
    u.crane g.crane = { s.crane g.crane with held := none, reservation := none }
  kept : ∀ k, (∀ j m g, s.move j = some m → pick m = some g → g.crane ≠ k) → u.crane k = s.crane k
  alerted : Alerted (fun n q =>
    n = 10 ∧ (∃ j m g, s.move j = some m ∧ pick m = some g ∧ s.watchesMove q m g) ∨
      n = 12 ∧ ∃ j m g, s.move j = some m ∧ late m = true ∧ m.grant? = some g ∧ s.watchesMove q m g) s u

theorem Requeued.of_stay (s : State) (l : List SlotId) (h : ∀ j m, s.move j = some m → pick m = none) :
    Requeued pick s l s := by
  induction l using List.reverseRecOn with
  | nil => exact .nil _ s
  | append_singleton l i ih => exact ih.stay (h i)

/-- Revocations and then overdue lifts: a lift is no grant, and a move returned to QUEUED is no lift. -/
theorem Requeued.judged (hr : Requeued pick s (List.finRange 64) r)
    (ha : Alerted (fun n q => n = 10 ∧ ∃ j m g, s.move j = some m ∧ pick m = some g ∧ s.watchesMove q m g) s r)
    (hf : Flagged late r (List.finRange 64) u) (hlate : ∀ m, late m = true → pick m = none)
    (hqueued : ∀ m, m.progress = .queued → late m = false) : Judged pick late s u where
  frame := hf.frame.trans (by
    have hstacks : u.stackSlots = r.stackSlots := by rw [hf.frame]
    have hcranes : u.cranes = r.cranes := by rw [hf.frame]
    rw [hstacks, hcranes]
    exact congrArg (fun v : State => { v with
      moves := { v.moves with slots := u.moves.slots }, ports := u.ports }) hr.frame)
  move j := by
    rw [hf.move j, if_pos (List.mem_finRange j), hr.all_move, Option.map_map]
    rfl
  stack n := by
    have hstack : u.stack n = r.stack n := by
      rw [hf.frame]
      rfl
    rw [hstack, hr.all_stack]
  freed j m g hm hg := by
    have hcrane : u.crane g.crane = r.crane g.crane := by
      rw [hf.frame]
      rfl
    rw [hcrane, hr.all_freed hm hg]
  kept k hk := by
    have hcrane : u.crane k = r.crane k := by
      rw [hf.frame]
      rfl
    rw [hcrane, hr.all_kept hk]
  alerted := (ha.trans hf.alerted).congr fun n q => by
    refine or_congr_right (and_congr_right fun _ => ?_)
    have hwatch := State.watchesMove_congr (s := s) (u := r) ha.role hr.enrolment q
    constructor
    · rintro ⟨j, -, m, g, hm, hl, hg, hq⟩
      rw [hr.all_move, Option.map_eq_some_iff] at hm
      obtain ⟨m', hm', hback⟩ := hm
      cases hpick : pick m' with
      | none =>
        obtain rfl : m' = m := by rw [← hback, Move.back, hpick]; rfl
        exact ⟨j, m', g, hm', hl, hg, (hwatch m' g).mp hq⟩
      | some g' =>
        have hprogress : m.progress = .queued := by rw [← hback, Move.back, hpick]; rfl
        rw [hqueued m hprogress] at hl
        cases hl
    · rintro ⟨j, m, g, hm, hl, hg, hq⟩
      refine ⟨j, List.mem_finRange j, m, g, ?_, hl, hg, (hwatch m g).mpr hq⟩
      rw [hr.all_move, hm, Option.map_some, Move.back, hlate m hl]
      rfl

/-! ### The judging of the grants and its allocation -/

theorem anyTimedOut_iff (s : State) :
    s.anyTimedOut = true ↔ ∃ j m g, s.move j = some m ∧ s.timedOut m = some g := by
  simp only [State.anyTimedOut, List.any_eq_true, Prod.exists, State.mem_moveList, Option.isSome_iff_exists]
  constructor
  · rintro ⟨j, m, hm, g, hg⟩
    exact ⟨j, m, g, hm, hg⟩
  · rintro ⟨j, m, g, hm, hg⟩
    exact ⟨j, m, hm, g, hg⟩

/-- The grants that an expiry in this state revokes. -/
def State.timedOutNow (s : State) (m : Move) : Option Grant :=
  if s.ctl = .running then s.timedOut m else none

/-- The judging of the grants, before its allocation. -/
structure GrantsJudged (s : State) (e : Event) : Prop where
  requeued : Requeued s.timedOutNow s (List.finRange 64) e.st
  alerted : Alerted (fun n q => n = 10 ∧
    ∃ j m g, s.move j = some m ∧ s.timedOutNow m = some g ∧ s.watchesMove q m g) s e.st
  counted : revocations e.seen = s.countMoves fun m => (s.timedOutNow m).isSome
  allocated : (∃ j m g, s.move j = some m ∧ s.timedOutNow m = some g) → judgeGrants s.event = allocate e
  stays : (∀ j m, s.move j = some m → s.timedOutNow m = none) → e = s.event ∧ judgeGrants s.event = e

theorem GrantsJudged.of_none (hnone : ∀ j m, s.move j = some m → s.timedOutNow m = none)
    (hjudge : judgeGrants s.event = s.event) : GrantsJudged s s.event where
  requeued := .of_stay s _ hnone
  alerted := (Alerted.refl s).congr fun n q => by
    refine ⟨False.elim, fun ⟨_, j, m, g, hm, hg, _⟩ => ?_⟩
    rw [hnone j m hm] at hg
    cases hg
  counted := by
    have hslot : ∀ j, ((s.move j).any fun m => (s.timedOutNow m).isSome) = false := fun j => by
      cases hm : s.move j with
      | none => rfl
      | some m => simp [hnone j m hm]
    rw [s.countMoves_slots]
    simp [hslot, State.event, revocations]
  allocated := fun ⟨j, m, g, hm, hg⟩ => by
    rw [hnone j m hm] at hg
    cases hg
  stays _ := ⟨rfl, hjudge⟩

theorem grants_judged (s : State) : ∃ e, GrantsJudged s e := by
  cases hctl : s.ctl with
  | loading =>
    refine ⟨s.event, .of_none (fun j m _ => by simp [State.timedOutNow, hctl]) ?_⟩
    simp [judgeGrants, State.event, hctl]
  | running =>
    have hpick : s.timedOutNow = s.timedOut := funext fun m => if_pos hctl
    by_cases hany : s.anyTimedOut = true
    · have h := revoke_fold s.event _ (List.nodup_finRange 64)
      have hjudge : judgeGrants s.event = allocate ((List.finRange 64).foldl revoke s.event) := by
        simp [judgeGrants, State.event, hctl, hany]
      refine ⟨(List.finRange 64).foldl revoke s.event, ?_, ?_, ?_, fun _ => hjudge, fun hnone => ?_⟩
      · rw [hpick]
        exact h.requeued
      · rw [hpick]
        exact h.alerted.congr fun n q => by simp [State.revokedToward, State.event]
      · rw [hpick, h.counted, s.countMoves_slots]
        exact Nat.zero_add _
      · obtain ⟨j, m, g, hm, hg⟩ := (anyTimedOut_iff s).mp hany
        rw [← hpick, hnone j m hm] at hg
        cases hg
    · refine ⟨s.event, .of_none (fun j m hm => ?_) ?_⟩
      · rw [hpick]
        exact Option.eq_none_iff_forall_ne_some.mpr fun g hg => hany ((anyTimedOut_iff s).mpr ⟨j, m, g, hm, hg⟩)
      · simp [judgeGrants, State.event, hctl, hany]

/-- What the allocation of the revocations brings to a counter of MOVE_REVOKED under any filter. -/
theorem close_allocate_revocations {e : Event} {c : Fin 8} (hfrozen : e.st.counters.frozen = false)
    (hsel : e.st.counters.counters[c].selection = .moveRevoked)
    (hfilter : e.st.counters.counters[c].filter = .any) :
    (allocate e).close.counters.counters[c].value =
      e.st.counters.counters[c].value + BitVec.ofNat 32 (revocations e.seen) := by
  obtain ⟨l, hseen, hsilent⟩ := allocate_seen_silent (sel := .moveRevoked) e (by decide) (by decide)
  have hbank : (allocate e).st.counters = e.st.counters := allocate_counters e
  have hgain : e.st.counters.counters[c].gain (e.seen ++ l) = revocations e.seen := by
    rw [Counter.gain_append_silent (by rwa [hsel]), Counter.gain, hsel, hfilter]
    rfl
  have hrunning : (allocate e).st.counters.frozen = false := by rw [hbank, hfrozen]
  generalize allocate e = e' at *
  rw [Event.close_counter hrunning, hbank, hseen]
  exact congrArg (fun n => e.st.counters.counters[c].value + BitVec.ofNat 32 n) hgain

/-! ### The three commands -/

/-- The state at another run minute. -/
def State.atMinute (s : State) (now : Int) : State := { s with clock := { s.clock with runMinute := now } }

/-- The lifts that an expiry in this state flags. -/
def State.overdueNow (s : State) (m : Move) : Bool := decide (s.ctl = .running) && s.comesOverdue m

theorem State.overdueNow_lifted (h : s.overdueNow m = true) : s.timedOutNow m = none ∧ m.progress ≠ .queued := by
  unfold State.overdueNow State.comesOverdue at h
  unfold State.timedOutNow State.timedOut
  cases hp : m.progress <;> simp_all

theorem State.overdueNow_congr (hr : Requeued pick s (List.finRange 64) r) : r.overdueNow = s.overdueNow := by
  funext m
  rw [State.overdueNow, State.overdueNow, hr.ctl_eq, State.comesOverdue_congr hr.now_eq hr.settings_eq]

/-- What a judged state leaves for the end of the event: an allocation with the count of the revocations, or
nothing. -/
structure Expiry (pick : Move → Option Grant) (late : Move → Bool) (s u t : State) : Prop where
  judged : Judged pick late s u
  allocated : (∃ j m g, s.move j = some m ∧ pick m = some g) → u.allocatesTo t ∧
    (s.counters.frozen = false → ∀ c : Fin 8, s.counters.counters[c].selection = .moveRevoked →
      s.counters.counters[c].filter = .any → t.counters.counters[c].value =
        s.counters.counters[c].value + BitVec.ofNat 32 (s.countMoves fun m => (pick m).isSome))
  stays : (∀ j m, s.move j = some m → pick m = none) → t = u

/-- The end of the event, when a judging of the lifts may have followed that of the grants. -/
theorem GrantsJudged.expiry {e : Event} {f : State → State} (h : GrantsJudged s e)
    (hjudged : Judged s.timedOutNow late s (f e.st)) (hcomm : ∀ e, (allocate e).upd f = allocate (e.upd f)) :
    Expiry s.timedOutNow late s (f e.st) ((judgeGrants s.event).upd f).close where
  judged := hjudged
  allocated hany := by
    rw [h.allocated hany, hcomm, ← h.counted]
    have hbank : (e.upd f).st.counters = s.counters := (congrArg State.counters hjudged.frame :)
    refine ⟨(allocate_allocatesTo (e.upd f)).close, ?_⟩
    rw [← hbank]
    intro hfrozen c hsel hfilter
    exact close_allocate_revocations hfrozen hsel hfilter
  stays hnone := by
    obtain ⟨he, hjudge⟩ := h.stays hnone
    rw [hjudge, he]
    exact Event.close_nil _

theorem minuteExpiry_expiry (s : State) : ∃ u t, execMinuteExpiry s = .next t ∧
    Expiry (advanceMinute s).timedOutNow (advanceMinute s).overdueNow (advanceMinute s) u t := by
  obtain ⟨e, he⟩ := grants_judged (advanceMinute s)
  have hlifts := judgeLifts_flagged e.st
  change Flagged e.st.overdueNow _ _ _ at hlifts
  rw [State.overdueNow_congr he.requeued] at hlifts
  refine ⟨_, _, rfl, he.expiry (he.requeued.judged he.alerted hlifts
    (fun m hm => (State.overdueNow_lifted hm).1) fun m hq => ?_) allocate_judgeLifts⟩
  exact Bool.eq_false_iff.mpr fun hm => (State.overdueNow_lifted hm).2 hq

theorem grantTimeout_expiry (s : State) : ∃ u t, execGrantTimeout s = .next t ∧
    Expiry s.timedOutNow (fun _ => false) s u t := by
  obtain ⟨e, he⟩ := grants_judged s
  have hid : ∀ e : Event, e.upd id = e := fun _ => rfl
  have h : Expiry s.timedOutNow (fun _ => false) s e.st _ :=
    he.expiry (f := id) (he.requeued.judged he.alerted (.of_none _ fun _ _ _ => rfl)
      (fun m hm => nomatch hm) fun _ _ => rfl) fun e => by rw [hid, hid]
  rw [hid] at h
  exact ⟨_, _, rfl, h⟩

theorem liftOverdue_expiry (s : State) : ∃ u t, execLiftOverdue s = .next t ∧
    Expiry (fun _ => none) s.overdueNow s u t := by
  refine ⟨judgeLifts s, _, rfl, ?_, (fun ⟨_, _, _, _, hg⟩ => nomatch hg), fun _ => rfl⟩
  refine (Requeued.of_none s _).judged ((Alerted.refl s).congr fun n q => by simp) (judgeLifts_flagged s)
    (fun _ _ => rfl) fun m hq => ?_
  exact Bool.eq_false_iff.mpr fun hm => (State.overdueNow_lifted hm).2 hq

/-- The grants an expiry command revokes at this minute. -/
def State.revokedBy (s : State) (i : Instr) (now : Int) (m : Move) : Option Grant :=
  if i = .liftOverdue then none else (s.atMinute now).timedOutNow m

/-- The lifts an expiry command flags at this minute. -/
def State.flaggedBy (s : State) (i : Instr) (now : Int) (m : Move) : Bool :=
  if i = .grantTimeout then false else (s.atMinute now).overdueNow m

theorem exec_expiry (s : State) (hi : i = .minuteExpiry ∨ i = .grantTimeout ∨ i = .liftOverdue) :
    let now := if i = .minuteExpiry then min (s.now + 1) 2147483647 else s.now
    ∃ u t, exec i s = .next t ∧ Expiry (s.revokedBy i now) (s.flaggedBy i now) (s.atMinute now) u t := by
  obtain rfl | rfl | rfl := hi
  · exact minuteExpiry_expiry s
  · exact grantTimeout_expiry s
  · exact liftOverdue_expiry s

theorem State.revokedBy_eq_some (s : State) (now : Int) : s.revokedBy i now m = some g ↔
    s.ctl = .running ∧ i ≠ .liftOverdue ∧ s.expires now m g := by
  by_cases hi : i = .liftOverdue
  · simp [State.revokedBy, hi]
  by_cases hctl : s.ctl = .running
  · have hpick : s.revokedBy i now m = (s.atMinute now).timedOut m := (if_neg hi).trans (if_pos hctl)
    rw [hpick]
    simp only [hctl, hi, ne_eq, not_false_eq_true, true_and, State.expires, State.timedOut]
    cases hp : m.progress with
    | queued => simp
    | granted g' =>
      change (if (s.settings.grantTimeout : Int) ≤ now - g'.minute then some g' else none) = some g ↔ _
      rw [Option.ite_none_right_eq_some, Option.some.injEq, Progress.granted.injEq]
      constructor
      · rintro ⟨hold, rfl⟩
        exact ⟨rfl, hold⟩
      · rintro ⟨rfl, hold⟩
        exact ⟨hold, rfl⟩
    | lifted g' minute flag => simp
  · have hpick : s.revokedBy i now m = none := (if_neg hi).trans (if_neg hctl)
    simp [hpick, hctl]

theorem State.revokedBy_isSome (s : State) (now : Int) (h : s.ctl = .running ∧ i ≠ .liftOverdue) :
    (s.revokedBy i now m).isSome = s.lapses now m := by
  have hpick : s.revokedBy i now m = (s.atMinute now).timedOut m := (if_neg h.2).trans (if_pos h.1)
  rw [hpick]
  unfold State.timedOut State.lapses
  cases m.progress with
  | queued => rfl
  | granted g =>
    change (if (s.settings.grantTimeout : Int) ≤ now - g.minute then some g else none).isSome = _
    split <;> simp_all
  | lifted g minute flag => rfl

theorem State.flaggedBy_lifted (s : State) (now : Int) {minute : Int} {flag : Bool}
    (hm : m.progress = .lifted g minute flag) : s.flaggedBy i now m = true ↔
      s.ctl = .running ∧ i ≠ .grantTimeout ∧ flag = false ∧ (s.settings.liftOverdue : Int) ≤ now - minute := by
  by_cases hi : i = .grantTimeout
  · simp [State.flaggedBy, hi]
  have hlate : s.flaggedBy i now m = (s.atMinute now).overdueNow m := if_neg hi
  rw [hlate]
  simp only [State.overdueNow, State.comesOverdue, hm, State.atMinute, State.now, Bool.and_eq_true,
    Bool.not_eq_true', hi, ne_eq, not_false_eq_true, true_and]
  exact and_congr decide_eq_true_iff (and_congr_right fun _ => decide_eq_true_iff)

theorem State.flaggedBy_elim {now : Int} (h : s.flaggedBy i now m = true) :
    ∃ g minute flag, m.progress = .lifted g minute flag := by
  unfold State.flaggedBy State.overdueNow State.comesOverdue at h
  cases hp : m.progress <;> simp_all

/-- The revocations of an expiry command, counted as the statement counts them. -/
theorem State.countMoves_revokedBy (s : State) (i : Instr) (now : Int) (f : Move → Bool) :
    s.countMoves (fun m => (s.revokedBy i now m).isSome && f m) =
      if s.ctl = .running ∧ i ≠ .liftOverdue then s.countMoves fun m => s.lapses now m && f m else 0 := by
  split
  · next h => simp only [s.revokedBy_isSome now h]
  · next h =>
    have hnone : ∀ m, s.revokedBy i now m = none := fun m =>
      Option.eq_none_iff_forall_ne_some.mpr fun g hg =>
        h ⟨((s.revokedBy_eq_some now).mp hg).1, ((s.revokedBy_eq_some now).mp hg).2.1⟩
    simp [hnone, State.countMoves]

/-- A move that no expiry touches. -/
theorem Move.back_flagged_of_stays (hpick : pick m = none) (hlate : late m = false) :
    (m.back pick).flagged late = m := by
  simp [Move.back, Move.flagged, hpick, hlate]

theorem State.revokedBy_eq_none {now : Int}
    (h : ∀ g, ¬ (s.ctl = .running ∧ i ≠ .liftOverdue ∧ s.expires now m g)) : s.revokedBy i now m = none :=
  Option.eq_none_iff_forall_ne_some.mpr fun g hg => h g ((s.revokedBy_eq_some now).mp hg)

theorem State.flaggedBy_eq_false {now : Int} (h : ∀ g minute flag, m.progress ≠ .lifted g minute flag) :
    s.flaggedBy i now m = false :=
  Bool.eq_false_iff.mpr fun hlate =>
    let ⟨g, minute, flag, hm⟩ := State.flaggedBy_elim hlate
    h g minute flag hm

/-- Settles O44: the moves judged slot by slot, then the allocation of the revocations. -/
theorem minuteExpiriesJudgeTheMoves : Obligations.MinuteExpiriesJudgeTheMoves := by
  unfold Obligations.MinuteExpiriesJudgeTheMoves
  intro i s hi now revoked overdue revokes
  obtain ⟨u, t, hrun, hjudged, halloc, hstays⟩ := exec_expiry s hi
  change Judged (s.revokedBy i now) (s.flaggedBy i now) (s.atMinute now) u at hjudged
  have hpick : ∀ m g, s.revokedBy i now m = some g ↔ revoked m g := fun m g => s.revokedBy_eq_some now
  have hmove : ∀ j m, s.move j = some m →
      u.move j = some ((m.back (s.revokedBy i now)).flagged (s.flaggedBy i now)) := fun j m hm => by
    rw [hjudged.move j]
    exact congrArg (Option.map _) hm
  refine ⟨u, t, hrun, hjudged.frame, fun j hm => ?_, fun j m hm hq => ?_,
    fun j m g hm hg => ⟨fun hstay => ?_, fun hrev => ?_⟩, fun j m g minute flag hm hl =>
      ⟨fun hstay => ?_, fun hover => ?_⟩, fun k hk => ?_, fun n => ?_, fun q => ?_,
    fun ⟨j, m, g, hm, hrev⟩ => ?_, fun hnone => ?_⟩
  · rw [hjudged.move j]
    exact congrArg (Option.map _) hm
  · rw [hmove j m hm, Move.back_flagged_of_stays]
    · exact State.revokedBy_eq_none fun g h => by simp [State.expires, hq] at h
    · exact State.flaggedBy_eq_false fun g minute flag h => by simp [hq] at h
  · rw [hmove j m hm, Move.back_flagged_of_stays]
    · refine State.revokedBy_eq_none fun g' h => ?_
      obtain rfl : g = g' := by simpa [hg] using h.2.2.1
      exact hstay h
    · exact State.flaggedBy_eq_false fun g minute flag h => by simp [hg] at h
  · refine ⟨?_, hjudged.freed j m g hm ((hpick m g).mpr hrev)⟩
    have hlate : s.flaggedBy i now { m with progress := .queued } = false :=
      State.flaggedBy_eq_false fun g minute flag h => nomatch h
    rw [hmove j m hm, Move.back, (hpick m g).mpr hrev]
    simp [Move.flagged, hlate]
  · rw [hmove j m hm, Move.back_flagged_of_stays]
    · exact State.revokedBy_eq_none fun g h => by simp [State.expires, hl] at h
    · exact Bool.eq_false_iff.mpr (mt (s.flaggedBy_lifted now hl).mp hstay)
  · have hback : s.revokedBy i now m = none :=
      State.revokedBy_eq_none fun g h => by simp [State.expires, hl] at h
    rw [hmove j m hm]
    simp [Move.back, hback, Move.flagged, (s.flaggedBy_lifted now hl).mpr hover, Move.markOverdue, hl]
  · exact hjudged.kept k fun j m g hm hg => hk j m g hm ((hpick m g).mp hg)
  · have hcount : (s.atMinute now).countMoves (Move.lands (s.revokedBy i now) n) = revokes fun m => m.dest == n :=
      s.countMoves_revokedBy i now fun m => m.dest == n
    rw [hjudged.stack n, hcount]
    rfl
  · obtain ⟨a, hport, hbit⟩ := hjudged.alerted q
    refine ⟨a, hport, fun n _ => (hbit n).trans ?_⟩
    refine or_congr_right (and_congr_right fun _ =>
      or_congr (and_congr_right fun _ => ?_) (and_congr_right fun _ => ?_))
    · simp only [hpick]
      rfl
    · constructor
      · rintro ⟨j, m, g, hm, hlate, hg, hq⟩
        obtain ⟨g', minute, flag, hl⟩ := State.flaggedBy_elim hlate
        obtain rfl : g' = g := by simpa [Move.grant?, hl] using hg
        exact ⟨j, m, g', minute, flag, hm, hl, (s.flaggedBy_lifted now hl).mp hlate, hq⟩
      · rintro ⟨j, m, g, minute, flag, hm, hl, hover, hq⟩
        exact ⟨j, m, g, hm, (s.flaggedBy_lifted now hl).mpr hover, by simp [Move.grant?, hl], hq⟩
  · obtain ⟨hto, hcounters⟩ := halloc ⟨j, m, g, hm, (hpick m g).mpr hrev⟩
    refine ⟨hto, fun hfrozen c hsel hfilter => ?_⟩
    have hand : (fun m => (s.revokedBy i now m).isSome && true) = fun m => (s.revokedBy i now m).isSome :=
      funext fun m => Bool.and_true _
    have hcount : (s.atMinute now).countMoves (fun m => (s.revokedBy i now m).isSome) = revokes fun _ => true :=
      (congrArg s.countMoves hand.symm).trans (s.countMoves_revokedBy i now fun _ => true)
    rw [← hcount]
    exact hcounters hfrozen c hsel hfilter
  · exact hstays fun j m hm => Option.eq_none_iff_forall_ne_some.mpr fun g hg =>
      hnone j m g hm ((hpick m g).mp hg)

end Sys2Proof.Machine
end
